-- ==== Sys2Proof/Word.lean ====
section
/-! DEFINITION. Bytes, multi-byte fields and the four- and six-place groups the HG24 uses. -/

namespace Sys2Proof

/-- One byte of the cue link, of the phrase store or of a display text. -/
abbrev Byte := BitVec 8

/-- A number as one byte, as it travels on the cue link. -/
def byte (n : Nat) : Byte := BitVec.ofNat 8 n

/-- A two-byte field, most significant byte first (R191). -/
def bytes2 (n : Nat) : List Byte := [byte (n / 256), byte n]

/-- The number held by bytes, most significant first (R191, R203). -/
def beNat : List Byte → Nat := List.foldl (fun acc b => acc * 256 + b.toNat) 0

/-- Byte `i` of a payload, numbered from 0; 0 past its end. -/
def at1 (p : List Byte) (i : Nat) : Nat := (p.getD i 0#8).toNat

/-- The two-byte field at byte `i` of a payload. -/
def at2 (p : List Byte) (i : Nat) : Nat := at1 p i * 256 + at1 p (i + 1)

/-- The three-byte field at byte `i` of a record of the phrase store (R203). -/
def at3 (p : List Byte) (i : Nat) : Nat := at2 p i * 256 + at1 p (i + 2)

/-- Four like things numbered 0-3: languages, countdown marks, reminder slots. -/
structure Four (α : Type) where
  a0 : α
  a1 : α
  a2 : α
  a3 : α
deriving DecidableEq, Repr

/-- The thing numbered `n`; a number above 3 names nothing and reads as the last. -/
def Four.get {α : Type} (f : Four α) : Nat → α
  | 0 => f.a0
  | 1 => f.a1
  | 2 => f.a2
  | _ => f.a3

/-- Put `x` at number `n`; a number above 3 changes nothing. -/
def Four.set {α : Type} (f : Four α) (n : Nat) (x : α) : Four α :=
  match n with
  | 0 => { f with a0 := x }
  | 1 => { f with a1 := x }
  | 2 => { f with a2 := x }
  | 3 => { f with a3 := x }
  | _ => f

/-- Apply `g` to all four. -/
def Four.map {α β : Type} (g : α → β) (f : Four α) : Four β := ⟨g f.a0, g f.a1, g f.a2, g f.a3⟩

/-- The four in order. -/
def Four.list {α : Type} (f : Four α) : List α := [f.a0, f.a1, f.a2, f.a3]

end Sys2Proof
end

