-- ==== Sys2Proof/Syntax.lean ====
section
/-! DEFINITION. The commands of the HG24: one constructor for each row of spec/opcode_table.json, and the
types of their operands. Every command carries `t`, the reading of the part's 1 ms timebase at which the part
takes it (00_scope.md "Time"; log 1). -/

namespace Sys2Proof

/-- A prompt's urgency (R2, 1.2). -/
inductive Cls where
  | courtesy
  | status
  | action
  | safety
deriving DecidableEq, Repr

/-- The class as the number the cues and the claims use: SAFETY 3, ACTION 2, STATUS 1, COURTESY 0 (R2). -/
def Cls.val : Cls → Nat
  | .courtesy => 0
  | .status => 1
  | .action => 2
  | .safety => 3

/-- The class numbered `n`; 3 and above is SAFETY (a cue's class above 3 is refused, R6, R156). -/
def Cls.ofCode : Nat → Cls
  | 0 => .courtesy
  | 1 => .status
  | 2 => .action
  | _ => .safety

/-- The six panel keys (00_scope.md "Connections", R201). -/
inductive Key where
  | rep
  | hlp
  | lng
  | vdn
  | vup
  | ok
deriving DecidableEq, Repr

/-- One thing for each of the six keys. -/
structure Keys (α : Type) where
  rep : α
  hlp : α
  lng : α
  vdn : α
  vup : α
  ok : α
deriving DecidableEq, Repr

/-- The thing that belongs to key `k`. -/
def Keys.get {α : Type} (ks : Keys α) : Key → α
  | .rep => ks.rep
  | .hlp => ks.hlp
  | .lng => ks.lng
  | .vdn => ks.vdn
  | .vup => ks.vup
  | .ok => ks.ok

/-- Put `x` at key `k`. -/
def Keys.set {α : Type} (ks : Keys α) (k : Key) (x : α) : Keys α :=
  match k with
  | .rep => { ks with rep := x }
  | .hlp => { ks with hlp := x }
  | .lng => { ks with lng := x }
  | .vdn => { ks with vdn := x }
  | .vup => { ks with vup := x }
  | .ok => { ks with ok := x }

/-- Apply `g` to all six. -/
def Keys.map {α β : Type} (g : α → β) (ks : Keys α) : Keys β :=
  ⟨g ks.rep, g ks.hlp, g ks.lng, g ks.vdn, g ks.vup, g ks.ok⟩

/-- Outcome of a RELEASE frame (R58). -/
inductive ReleaseOutcome where
  | complete
  | cut
  | withdrawn
deriving DecidableEq, Repr

/-- Power mode announced by a PRESENCE frame (R58, R74). -/
inductive PresenceMode where
  | active
  | dim
  | standby
  | sleeping
deriving DecidableEq, Repr

/-- Hall state announced by a PRESENCE frame (R58). -/
inductive PresenceHall where
  | on
  | listenIn
deriving DecidableEq, Repr

/-- The fields of a CLAIM frame (R57, R58): the class is read from the rank as 3 - rank. -/
structure ClaimFrame where
  station : BitVec 5
  zone : BitVec 3
  cls : Cls
  bucket : BitVec 4
  length : BitVec 8
  seq : BitVec 4
deriving DecidableEq, Repr

/-- The fields of a RELEASE frame (R57, R58). -/
structure ReleaseFrame where
  station : BitVec 5
  zone : BitVec 3
  seq : BitVec 4
  outcome : ReleaseOutcome
deriving DecidableEq, Repr

/-- The fields of a PRESENCE frame (R57, R58). -/
structure PresenceFrame where
  station : BitVec 5
  zone : BitVec 3
  mode : PresenceMode
  holding : Bool
  hallState : PresenceHall
deriving DecidableEq, Repr

/-- A hall frame of one of the three kinds (R57). -/
inductive HallFrame where
  | claim (f : ClaimFrame)
  | release (f : ReleaseFrame)
  | presence (f : PresenceFrame)
deriving DecidableEq, Repr

/-- A span of flash addresses that gives no answer for a span of time (log 6): a read that touches an
address from `lo` to `hi` at an instant from `fromMs` to `toMs` gets no answer within 5 ms (R35, R46, R144). -/
structure Outage where
  fromMs : Nat
  toMs : Nat
  lo : Nat
  hi : Nat
deriving DecidableEq, Repr

/-- The external serial flash that holds the phrase store (R32, R203): its bytes as a list of cells in
canonical form, and the outages of its answers. -/
structure Flash where
  cells : List Host.Cell
  outages : List Outage
deriving DecidableEq, Repr

/-- What the current sense shows during service output (R189). -/
inductive SpeakerFaultKind where
  | overcurrent
  | openLine
deriving DecidableEq, Repr

/-- A field of the display that scrolls (R137, R138). -/
inductive ScrollField where
  | prompt
  | phase
deriving DecidableEq, Repr

/-- What blinks on the display (R143, R145). -/
inductive BlinkField where
  | line1
  | time
deriving DecidableEq, Repr

/-- What wakes the part from SLEEP (R186). -/
inductive WakeCause where
  | startBit
  | key (k : Key)
deriving DecidableEq, Repr

/-- The commands of the HG24, one for each row of spec/opcode_table.json. -/
inductive Instr where
  /-- POWER_ON_RESET (R198): straps and keys as they stand at the end of the reset, and the flash fitted. -/
  | powerOnReset (t : Nat) (station : BitVec 5) (zone : BitVec 3) (down : Keys Bool) (flash : Flash)
  /-- STORE_CHECK_END (R35). -/
  | storeCheckEnd (t : Nat)
  /-- SPEAKER_CHECK_END (R187, R188): `milliohms` is the mean impedance over the test. -/
  | speakerCheckEnd (t : Nat) (milliohms : Nat)
  /-- SPEAKER_CHECK_OVERCURRENT (R187). -/
  | speakerCheckOvercurrent (t : Nat)
  /-- WARM_UP_END (R183). -/
  | warmUpEnd (t : Nat)
  /-- SPEAKER_FAULT (R189). -/
  | speakerFault (t : Nat) (kind : SpeakerFaultKind)
  /-- CONFIGURE cue, type 01 (R193). A cue's operand is the payload of its frame. -/
  | configure (t : Nat) (payload : List Byte)
  /-- SESSION cue, type 02, that begins a session (R166). -/
  | sessionBegin (t : Nat) (payload : List Byte)
  /-- SESSION cue, type 02, that ends a session (R167). -/
  | sessionEnd (t : Nat) (payload : List Byte)
  /-- PHASE cue, type 03 (R144, R172, R194). -/
  | phase (t : Nat) (payload : List Byte)
  /-- PROGRESS cue, type 04 (R149). -/
  | progress (t : Nat) (payload : List Byte)
  /-- PROMPT cue, type 05 (R6 to R12). -/
  | prompt (t : Nat) (payload : List Byte)
  /-- CANCEL cue, type 06 (R30). -/
  | cancel (t : Nat) (payload : List Byte)
  /-- ACK cue, type 07 (R179). -/
  | ack (t : Nat) (payload : List Byte)
  /-- MASK cue, type 08 (R15, R194). -/
  | mask (t : Nat) (payload : List Byte)
  /-- REMIND cue, type 09, with a delay of 1-3,600 s (R157, R158). -/
  | remind (t : Nat) (payload : List Byte)
  /-- REMIND cue, type 09, with delay 0 (R156). -/
  | remindClear (t : Nat) (payload : List Byte)
  /-- QUIET cue, type 0A (R122, R194). -/
  | quiet (t : Nat) (payload : List Byte)
  /-- SLEEP cue, type 0B (R184); `trail` is what is heard of a following frame before the next command. -/
  | sleep (t : Nat) (payload : List Byte) (trail : List Byte)
  /-- SELFTEST cue, type 0C (R187). -/
  | selftest (t : Nat) (payload : List Byte)
  /-- STATUS cue, type 0D (R196). -/
  | status (t : Nat) (payload : List Byte)
  /-- RESET cue, type 0E (R199), with the key inputs at that instant (R165) and a trail as for SLEEP. -/
  | reset (t : Nat) (payload : List Byte) (down : Keys Bool) (trail : List Byte)
  /-- A whole cue of a type that is not 01-0E (R192). -/
  | unknownCue (t : Nat) (type : Byte) (payload : List Byte)
  /-- CUE_FRAME_DISCARD (R191): bytes heard, then the byte that discards the partial frame: a length byte
  of 25-255, or a byte with a bad stop bit. -/
  | cueFrameDiscard (t : Nat) (rx : List Byte) (last : Byte) (badStop : Bool)
  /-- INTER_BYTE_TIMEOUT (R191): the bytes heard before a gap of more than 5 ms. -/
  | interByteTimeout (t : Nat) (rx : List Byte)
  /-- REPORT_SENT (R195). -/
  | reportSent (t : Nat)
  /-- PEER_CLAIM (R81): a CLAIM frame followed from its start bit. -/
  | peerClaim (t : Nat) (frame : ClaimFrame)
  /-- PEER_RELEASE (R82). -/
  | peerRelease (t : Nat) (frame : ReleaseFrame)
  /-- PEER_PRESENCE (R87). -/
  | peerPresence (t : Nat) (frame : PresenceFrame)
  /-- BAD_FRAME (R59): the bits heard from the start bit on, recessive as true. -/
  | badFrame (t : Nat) (bits : List Bool)
  /-- FRAME_START (R61). -/
  | frameStart (t : Nat)
  /-- ARBITRATION_LOSS (R61). -/
  | arbitrationLoss (t : Nat)
  /-- BIT_ERROR (R62); `rest` is, where a station of the same number went on with its frame, the bits of that whole frame
  as the line carried them, from the start bit that both sent. -/
  | bitError (t : Nat) (rest : Option (List Bool))
  /-- STUCK_LINE (R56). -/
  | stuckLine (t : Nat)
  /-- OWN_CLAIM_SENT (R90). -/
  | ownClaimSent (t : Nat)
  /-- OWN_RELEASE_SENT (R96). -/
  | ownReleaseSent (t : Nat)
  /-- OWN_PRESENCE_SENT (R63, R68, R71). -/
  | ownPresenceSent (t : Nat)
  /-- LISTEN_IN_END (R65). -/
  | listenInEnd (t : Nat)
  /-- HEARTBEAT (R73). -/
  | heartbeat (t : Nat)
  /-- RECOVERY_ATTEMPT (R68). -/
  | recoveryAttempt (t : Nat)
  /-- RECOVERY_TIMEOUT (R68). -/
  | recoveryTimeout (t : Nat)
  /-- FINAL_PRESENCE_TIMEOUT (R71). -/
  | finalPresenceTimeout (t : Nat)
  /-- PEER_LOST (R77). -/
  | peerLost (t : Nat) (station : BitVec 5)
  /-- CLAIM_EXPIRY (R83) of the live claim of `station`, the own station included. -/
  | claimExpiry (t : Nat) (station : BitVec 5)
  /-- SETTLE_WINDOW_END (R85) of the live claim of `station`, the own station included. -/
  | settleWindowEnd (t : Nat) (station : BitVec 5)
  /-- TURN_GAP_END (R97). -/
  | turnGapEnd (t : Nat)
  /-- WAIT_BUCKET_STEP (R103) of the entry with this tag. -/
  | waitBucketStep (t : Nat) (tag : Nat)
  /-- DEADLINE (R16) of the entry with this tag. -/
  | deadline (t : Nat) (tag : Nat)
  /-- CHIME_END (R128). -/
  | chimeEnd (t : Nat)
  /-- ITEM_END (R52). -/
  | itemEnd (t : Nat)
  /-- ITEM_GAP_END (R49). -/
  | itemGapEnd (t : Nat)
  /-- SILENT_SERVICE_END (R28). -/
  | silentServiceEnd (t : Nat)
  /-- REPEAT_DUE (R176) of the awaiting record with this tag. -/
  | repeatDue (t : Nat) (tag : Nat)
  /-- PHRASE_READ_TIMEOUT (R51). -/
  | phraseReadTimeout (t : Nat)
  /-- TONE_STEP_END (R125). -/
  | toneStepEnd (t : Nat)
  /-- CLICK_END (R134). -/
  | clickEnd (t : Nat)
  /-- SCROLL_STEP (R138). -/
  | scrollStep (t : Nat) (field : ScrollField)
  /-- BLINK_PHASE (R143, R145). -/
  | blinkPhase (t : Nat) (field : BlinkField)
  /-- AMBIENT_SAMPLE (R110): the whole number of dB read at AMB. -/
  | ambientSample (t : Nat) (reading : Int)
  /-- SAMPLE_HOLD_SETTLED (R111). -/
  | sampleHoldSettled (t : Nat)
  /-- ESTIMATE_DECREMENT (R150). -/
  | estimateDecrement (t : Nat)
  /-- SLOT_FIRING (R159). -/
  | slotFiring (t : Nat) (slot : Nat)
  /-- KEY_PRESS (R170). -/
  | keyPress (t : Nat) (key : Key)
  /-- KEY_RELEASE (R170). -/
  | keyRelease (t : Nat) (key : Key)
  /-- KEY_LONG (R170). -/
  | keyLong (t : Nat) (key : Key)
  /-- DIM_DEADLINE (R182). -/
  | dimDeadline (t : Nat)
  /-- STANDBY_DEADLINE (R182). -/
  | standbyDeadline (t : Nat)
  /-- WAKE (R186). -/
  | wake (t : Nat) (cause : WakeCause)
  /-- LINE_IDLE (R55). -/
  | lineIdle (t : Nat)
deriving DecidableEq, Repr

end Sys2Proof
end

