-- ==== Sys2Proof/Decode.lean ====
section
/-! DEFINITION. The decoder of the opcode table's words: no row of the table gives bits. -/

/-- The command that a word spells by the table's bits. The HG24's table gives no row any bits: its commands are cue
frames (R191), hall frames (R202), pin events and timers, so no word spells one. -/
def Sys2Proof.decodeTableWord (_nbits _w : Nat) : Option Sys2Proof.Instr := none
end

