-- ==== Sys2Proof/Config.lean ====
section
/-! DEFINITION. The lengths and limits the manual fixes, under one name each, and the values it leaves
open. Times are in milliseconds of the part's timebase. -/

namespace Sys2Proof.Config

/-- R1: an interval of `n` ms holds to within 1 ms for each started 100 ms of its length. -/
def tolerance (n : Nat) : Nat := (n + 99) / 100

/-- R5: entries of the prompt queue. -/
def queueLimit : Nat := 16
/-- R195: reports of the report queue. -/
def reportLimit : Nat := 16
/-- R175: records of the awaiting list. -/
def awaitingLimit : Nat := 4
/-- R44: items of a script. -/
def itemLimit : Nat := 12
/-- R110: samples of the ambient ring. -/
def ringLimit : Nat := 8
/-- R139: characters of a prompt text. -/
def textLimit : Nat := 128
/-- 00_scope.md "Counters", R196: a counter's largest value. -/
def counterLimit : Nat := 65535
/-- R2, R148: the largest parameter and the largest estimate. -/
def paramLimit : Nat := 43200
/-- R155: the longest delay and period of a slot, in seconds. -/
def delayLimit : Nat := 3600

/-- R28: a silent service. -/
def silentService : Nat := 4000
/-- R126: every chime. -/
def chime : Nat := 400
/-- R126: the click. -/
def click : Nat := 40
/-- R22: the gap after an item. -/
def itemGap : Nat := 40
/-- R183: the amplifier's warm-up. -/
def warmUp : Nat := 120
/-- R187: the test of a speaker check. -/
def checkTest : Nat := 300
/-- R187: the gain code of the test tone. -/
def checkGain : Nat := 20
/-- R187: the frequency of the test tone, in Hz. -/
def checkTone : Nat := 1000
/-- R79: the settle window of a claim. -/
def settleWindow : Nat := 60
/-- R81: what a claim's expiry leaves beyond its length. -/
def expiryMargin : Nat := 1000
/-- R87: the life of a PRESUMED claim past its last PRESENCE. -/
def presumedLife : Nat := 26500
/-- R98: the grace of a preempted holder. -/
def grace : Nat := 3000
/-- R97: the turn gap. -/
def turnGap : Nat := 250
/-- R103: one step of the wait bucket. -/
def bucketStep : Nat := 2000
/-- R105: the busy window. -/
def busyWindow : Nat := 30000
/-- R56: the longest stretch of dominant line. -/
def stuck : Nat := 10
/-- R51: the longest wait for a read of phrase audio. -/
def readWait : Nat := 5
/-- R65: LISTEN_IN. -/
def listenIn : Nat := 2500
/-- R73: the heartbeat's period. -/
def heartbeat : Nat := 2000
/-- R73: the first heartbeat, for each station number. -/
def firstHeartbeat : Nat := 100
/-- R68: from an entry to FAULT, or the start of a failed attempt, to the next attempt. -/
def recovery : Nat := 10000
/-- R68, R71: the time a recovery or final PRESENCE has to go through. -/
def presenceTry : Nat := 100
/-- R77: silence that makes a peer LOST. -/
def lost : Nat := 6500
/-- R62: the run of bit errors that leads to FAULT. -/
def errorRun : Nat := 16
/-- R110: the ambient schedule's period. -/
def sample : Nat := 250
/-- R111: the settling after output. -/
def settling : Nat := 250
/-- R148: one second of the estimate. -/
def second : Nat := 1000
/-- R153: the deadline of a mark's prompt. -/
def markDeadline : Nat := 30000
/-- R154: the hysteresis of a mark, in seconds. -/
def markHysteresis : Nat := 30
/-- R169: the time a key input stands at its new level before the change is taken. -/
def debounce : Nat := 30
/-- R169: a long press. -/
def longPress : Nat := 1500
/-- R181: the dim timer. -/
def dim : Nat := 60000
/-- R182: one minute of the standby time. -/
def minute : Nat := 60000
/-- R138: the hold at either end of a scroll. -/
def scrollHold : Nat := 1000
/-- R138: one step of a scroll. -/
def scrollStep : Nat := 250
/-- R143: half a period of the SAFETY blink, and of the time field's (R145). -/
def slowBlink : Nat := 500
/-- R143: half a period of the MASKED blink. -/
def fastBlink : Nat := 250
/-- R191: the longest gap between two bytes of a cue frame. -/
def interByte : Nat := 5
/-- R191: the largest length byte of a cue frame. -/
def payloadLimit : Nat := 24
/-- R137: width of the prompt field, the phase field and the time field. -/
def promptWidth : Nat := 20
def phaseWidth : Nat := 14
def timeWidth : Nat := 5
/-- R203: three-byte flash addresses. -/
def flashSize : Nat := 16777216
/-- R203: bytes of a phrase directory record, of a directory and of a template. -/
def recordSize : Nat := 49
def directorySize : Nat := 50176
def templateSize : Nat := 26
/-- R49, 2.7: bytes of phrase audio played in one millisecond. -/
def audioBytesPerMs : Nat := 8
/-- R50, R203: samples of phrase audio played in one millisecond, two to a byte. -/
def samplesPerMs : Nat := 16
/-- R125: the frequency the pitch divider divides, in Hz. -/
def toneClock : Nat := 512000

/-- FREE VALUE (log 29): the sample the ADPCM decoder gives after these 4-bit codes, with its predictor and
step index zero before the first. R49: "The coding tables of the decoder and the sample values it produces are
not given in this manual." -/
opaque adpcmSample : List (BitVec 4) → Int

/-- FREE VALUE (log 36): the byte at a flash address has been read by an instant, while a phrase that needs it plays.
R50 plays a sample that is due before its bytes have been read as silence; how far ahead the part reads, and how fast
the flash answers, is not stated. -/
opaque audioAtHand : Nat → Nat → Bool

end Sys2Proof.Config
end

