-- ==== Sys2Proof/Machine/State.lean ====
section
/-! DEFINITION. The state of the HG24 as plain data, block by block as 00_scope.md "The part at a glance" lists
them, the two reason types of a step that stops, and the state after reset. -/

namespace Sys2Proof.Machine

open Sys2Proof

/-- Reasons to stop with a fault: none. The spec names no event that stops the part (INVENTORY.md "Faults"), so no
command raises a fault; this type has no constructor, and that is safe. -/
inductive Fault where
deriving DecidableEq, Repr

/-- Reasons to stop with a refusal. -/
inductive Refusal where
  /-- Raised by an arm of exec whose command has no meaning yet; safe, since nothing can be proved of a run past it.
  No arm raises it: every command has its meaning. -/
  | notModelled (mnemonic : String)
deriving DecidableEq, Repr

/-- A running interval: the instant at which it ends and the length the manual states for it, which R1's tolerance
is about (log 2). -/
structure Timer where
  due : Nat
  len : Nat
deriving DecidableEq, Repr

/-- A running interval that is one of a row of intervals, with two bounds (R1): `own` counts its length from the instant at
which the one before it ended, `row` the length of the row up to its end from the instant at which the row began, so that
neither the interval nor the row leaves R1's tolerance (log 39). -/
structure Paced where
  own : Timer
  row : Timer
deriving DecidableEq, Repr

/-! ### Cue Link Port (chapter 11) -/

/-- The receive framer (R191); `stamp` is the instant of the last byte of the partial frame. -/
inductive Framer where
  | hunt
  | type (stamp : Nat)
  | length (stamp : Nat) (type : Byte)
  | payload (stamp : Nat) (type : Byte) (length : Nat) (got : List Byte)
deriving DecidableEq, Repr

/-- The rule for the STATION announcement before a prompt, "prefix policy" in the manual (R42, R193). -/
inductive Policy where
  | auto
  | always
  | never
deriving DecidableEq, Repr

/-- The settings of the configuration (R193) but for the mark values, which the marks hold (R151). -/
structure Settings where
  languages : Four Bool
  defaultLanguage : Nat
  defaultVolume : Nat
  standbyMinutes : Nat
  countdownTemplate : Nat
  policy : Policy
deriving DecidableEq, Repr

/-- The seven event latches (R196). -/
structure Latches where
  speakerFault : Bool
  hallFault : Bool
  duplicateStation : Bool
  peerLost : Bool
  overlap : Bool
  masked : Bool
  reportsLost : Bool
deriving DecidableEq, Repr

/-- Refusal reasons (R192, R201). -/
inductive Reason where
  | unknownCue
  | badLength
  | badField
  | unknownTemplate
  | configLocked
  | queueFull
  | tagBusy
  | noSuchTag
  | busy
  | notIdle
deriving DecidableEq, Repr

/-- DONE outcomes (1.13, R201). -/
inductive DoneOutcome where
  | completed
  | superseded
  | dropped
  | expired
  | cutOut
  | cancelled
  | acked
  | cleared
  | unacknowledged
deriving DecidableEq, Repr

/-- EVENT kinds (R201). -/
inductive EventKind where
  | hallFault
  | hallRestored
  | duplicateStation
  | speakerFault
deriving DecidableEq, Repr

/-- A report (R201). A STATUS_REPLY holds the contents its page was read with (R196). -/
inductive Report where
  | hello (code : Byte) (station zone : Nat)
  | queued (tag : Nat)
  | refused (type : Byte) (tag : Nat) (reason : Reason)
  | done (tag : Nat) (outcome : DoneOutcome)
  | key (key : Key) (long : Bool)
  | event (kind : EventKind)
  | statusReply (page : Nat) (contents : List Byte)
deriving DecidableEq, Repr

/-- The Cue Link Port; `early` holds the reports made before HELLO, oldest first (R195, R198; log 43). -/
structure CueLink where
  framer : Framer
  listening : Bool
  reports : List Report
  early : List Report
  config : Settings
  locked : Bool
  latches : Latches
  framingErrors : Nat
  refusals : Nat
  reportsLost : Nat
deriving DecidableEq, Repr

/-! ### Prompt Sequencer (chapter 1) and scripts (chapter 2) -/

/-- Who made an entry (R2). -/
inductive Origin where
  | machine
  | reminder
  | mark
  | key
deriving DecidableEq, Repr

/-- The channels a prompt may use (R2). -/
structure Channels where
  speech : Bool
  tone : Bool
  display : Bool
deriving DecidableEq, Repr

/-- The state of an entry (R2). -/
inductive EntryState where
  | queued
  | claiming
  | speaking
  | showing
deriving DecidableEq, Repr

/-- An entry of the prompt queue (R2); `made` is the serial of its making (R4, log 28). -/
structure Entry where
  tag : Nat
  origin : Origin
  cls : Cls
  template : Nat
  param1 : Nat
  param2 : Nat
  channels : Channels
  ackRequired : Bool
  repeatsLeft : Nat
  repeatInterval : Nat
  deadline : Option Timer
  arrival : Nat
  cutCount : Nat
  state : EntryState
  made : Nat
deriving DecidableEq, Repr

/-- What a script item shows on the display (R48, R139): the phrase's own text, the value of a NUMBER item, or R
of the DURATION item that stands at place `item` of the template. -/
inductive PieceTag where
  | text
  | number (value : Nat)
  | duration (item : Nat) (seconds : Nat)
deriving DecidableEq, Repr

/-- A phrase of a script with its directory record (R39). -/
structure PhraseItem where
  id : Nat
  language : Nat
  audioAddress : Nat
  audioLength : Nat
  duration : Nat
  text : List Byte
  piece : PieceTag
deriving DecidableEq, Repr

/-- An item of a script (R38). -/
inductive ScriptItem where
  | phrase (p : PhraseItem)
  | pause (ms : Nat)
deriving DecidableEq, Repr

/-- A display piece (R139). -/
inductive Piece where
  | text (chars : List Byte)
  | number (value : Nat)
  | duration (seconds : Nat)
deriving DecidableEq, Repr

/-- A composed script (R38): its chime, its items, its length estimate and its display pieces. -/
structure Script where
  chime : Option Nat
  items : List ScriptItem
  estimate : Nat
  pieces : List Piece
deriving DecidableEq, Repr

/-- The route of an audible service (R5). -/
inductive Route where
  | speech
  | fallback
  | piezo
deriving DecidableEq, Repr

/-- The kind of a service (R5, R18). -/
inductive Kind where
  | audible (route : Route)
  | silent
deriving DecidableEq, Repr

/-- A result of the level computation (R115 to R120). -/
structure LevelResult where
  level : Nat
  gain : Nat
  duty : Nat
  masked : Bool
deriving DecidableEq, Repr

/-- The state of the service in the slot (R5): `pendingLevel` is computed and not yet applied (R115), `silentEnd` is
the end of a silent service (R28). -/
structure Service where
  tag : Nat
  kind : Kind
  script : Script
  preempt : Bool
  overlap : Bool
  removal : Option DoneOutcome
  pendingLevel : Option LevelResult
  silentEnd : Option Timer
deriving DecidableEq, Repr

/-- The class mask (R15): true is masked. -/
structure ClassMask where
  action : Bool
  status : Bool
  courtesy : Bool
deriving DecidableEq, Repr

/-- The Prompt Sequencer; `askedAt` is the latest instant at which the selection has gone through the queue with the slot
empty, and with it asked whether an entry is outranked (R18, R103; log 2). -/
structure Sequencer where
  queue : List Entry
  madeCount : Nat
  slot : Option Service
  mask : ClassMask
  internalDrops : Nat
  cuts : Nat
  askedAt : Nat
deriving DecidableEq, Repr

/-- The phrase store state (R32). -/
inductive StoreState where
  | checking
  | ready
  | failed
deriving DecidableEq, Repr

/-- The Phrase Store Interface, the flash it reads, and the counters of composition (R32, R44, R46). -/
structure PhraseStore where
  state : StoreState
  index : List Nat
  flash : Flash
  readErrors : Nat
  truncated : Nat
deriving DecidableEq, Repr

/-- The Speech Unit (2.7): IDLE, PLAYING an item, or in the 40 ms gap before an item (R52). `readStop` is the offset
at which a failed read ended the reading of the phrase (R51). -/
inductive Speech where
  | idle
  | playing (item : Nat) (phrase : Option (Nat × Nat)) (start : Nat) (readStop : Option Nat)
  | gap (next : Nat) (until_ : Timer)
deriving DecidableEq, Repr

/-! ### Tone Unit (chapter 6) -/

/-- The two tone outputs (R124). -/
inductive Device where
  | speaker
  | piezo
deriving DecidableEq, Repr

/-- What a chime voice that is WAITING or PLAYING holds (R124). -/
structure Chime where
  id : Nat
  device : Device
  muted : Bool
  gain : Nat
  duty : Nat
  step : Nat
  start : Nat
  stepStart : Nat
deriving DecidableEq, Repr

/-- The chime voice (R124). -/
inductive ChimeVoice where
  | idle
  | waiting (c : Chime)
  | playing (c : Chime)
deriving DecidableEq, Repr

/-- The click voice (R124). -/
inductive ClickVoice where
  | idle
  | playing (duty : Nat) (until_ : Timer)
deriving DecidableEq, Repr

/-- The Tone Unit. -/
structure ToneUnit where
  chime : ChimeVoice
  click : ClickVoice
deriving DecidableEq, Repr

/-! ### Level Unit (chapter 5) -/

/-- The sample hold (R109). -/
inductive SampleHold where
  | open_
  | held
  | settling (until_ : Timer)
deriving DecidableEq, Repr

/-- The Level Unit (R109). -/
structure LevelUnit where
  ring : List Nat
  hold : SampleHold
  lastG : Nat
  quiet : Bool
  maskedPhrases : Nat
  sampleDue : Option Timer
deriving DecidableEq, Repr

/-! ### Hall Line Port (chapter 3) -/

/-- The line state (R55). -/
inductive LineState where
  | silent
  | waitIdle
  | idle
  | receiving
  | sending
deriving DecidableEq, Repr

/-- Cause of hall state FAULT (R67). -/
inductive FaultCause where
  | errors
  | stuck
  | duplicate
deriving DecidableEq, Repr

/-- The hall state (3.5). -/
inductive HallState where
  | off
  | listenIn (until_ : Timer)
  | on
  | fault (cause : FaultCause)
deriving DecidableEq, Repr

/-- Why a PRESENCE is in the transmit list (R73, R71, R68). -/
inductive PresenceKind where
  | heartbeat
  | final
  | recovery
deriving DecidableEq, Repr

/-- The content of an own CLAIM (R89). -/
structure ClaimContent where
  cls : Cls
  bucket : Nat
  length : Nat
  seq : Nat
deriving DecidableEq, Repr

/-- A frame of the transmit list (R60). A PRESENCE takes its content at each start (R74). -/
inductive TxFrame where
  | claim (c : ClaimContent)
  | release (seq : Nat) (outcome : ReleaseOutcome)
  | presence (kind : PresenceKind)
deriving DecidableEq, Repr

/-- A frame of the transmit list; `driving` marks the one on the line (R61). -/
structure TxEntry where
  frame : TxFrame
  driving : Bool
deriving DecidableEq, Repr

/-- The recovery schedule of hall state FAULT (R68, R20). -/
inductive Recovery where
  | none_
  | scheduled (at_ : Timer)
  | waiting
  | attempting (start : Nat)
deriving DecidableEq, Repr

/-- The Hall Line Port. `watch` is the stuck-line watch of R56: 10 ms from the latest recessive bit that the commands
show (log 44). -/
structure HallPort where
  line : LineState
  idleCounting : Bool
  txList : List TxEntry
  onLine : Option HallFrame
  state : HallState
  errorRun : Nat
  heartbeat : Option Timer
  recovery : Recovery
  finalTimer : Option Timer
  watch : Timer
  framesReceived : Nat
  badFrames : Nat
  ownBitErrors : Nat
deriving DecidableEq, Repr

/-! ### Floor Unit (chapter 4) -/

/-- The class of a live claim (R79). -/
inductive ClaimCls where
  | heard (c : Cls)
  | presumed
deriving DecidableEq, Repr

/-- A live claim (R79); `settled` records that its settle window has ended (log 18). A preempted claim has two intervals, its
expiry as it stood and the grace (R98): `expiry` is the one whose stamp is earlier, `outer` the other, which R1 bounds as well
(log 47). -/
structure LiveClaim where
  zone : Nat
  cls : ClaimCls
  bucket : Nat
  length : Nat
  seq : Option Nat
  heard : Nat
  settled : Bool
  confirmed : Bool
  expiry : Timer
  preemptPending : Bool
  outer : Option Timer
deriving DecidableEq, Repr

/-- A peer's presence (R75 to R77). -/
inductive Presence where
  | present
  | asleep
  | lost
deriving DecidableEq, Repr

/-- A peer record of the neighbour view (R75). -/
structure Peer where
  station : Nat
  zone : Nat
  presence : Presence
  lastHeard : Nat
  claim : Option LiveClaim
  lastConfirmed : Option Nat
deriving DecidableEq, Repr

/-- The own floor state (R88). -/
inductive FloorState where
  | free
  | claiming
  | holding
  | gap
deriving DecidableEq, Repr

/-- Whether and why the own CLAIM has been taken back: outranked before sending (R92) or withdrawn (R94; log 34). -/
inductive TakenBack where
  | no
  | outranked
  | withdrawn
deriving DecidableEq, Repr

/-- The outgoing claim (R88). -/
structure Outgoing where
  content : ClaimContent
  takenBack : TakenBack
deriving DecidableEq, Repr

/-- The own record (R88); `released` marks a released claim. -/
structure OwnFloor where
  state : FloorState
  gapEnd : Option Timer
  claim : Option LiveClaim
  released : Bool
  outgoing : Option Outgoing
  pendingClaim : Option ClaimContent
  nextSeq : Nat
deriving DecidableEq, Repr

/-- The Floor Unit. -/
structure FloorUnit where
  peers : List Peer
  own : OwnFloor
  claimsSent : Nat
  claimsConfirmed : Nat
  claimsLost : Nat
  overlaps : Nat
deriving DecidableEq, Repr

/-! ### Reminder Unit (chapter 8) -/

/-- State of a countdown mark (R151). -/
inductive MarkState where
  | unused
  | armed
  | spent
deriving DecidableEq, Repr

/-- A countdown mark (R151). -/
structure Mark where
  value : Nat
  state : MarkState
deriving DecidableEq, Repr

/-- How a reminder slot fires (R155). -/
inductive SlotMode where
  | oneShot
  | periodic
  | idle
deriving DecidableEq, Repr

/-- The record of a COUNTING reminder slot (R155); a count of none is UNLIMITED. -/
structure SlotRecord where
  mode : SlotMode
  delay : Nat
  period : Nat
  nextPeriod : Option Nat
  remaining : Option Nat
  template : Nat
  cls : Cls
  param1 : Nat
  persistent : Bool
  nextFiring : Option Timer
deriving DecidableEq, Repr

/-- The Reminder Unit; a slot of none is IDLE (R155). -/
structure ReminderUnit where
  estimate : Nat
  running : Bool
  secondPhase : Option Timer
  marks : Four Mark
  slots : Four (Option SlotRecord)
deriving DecidableEq, Repr

/-! ### Session and Panel (chapter 9) -/

/-- State of a key (R169). -/
inductive KeyState where
  | up
  | pressed (long : Timer)
  | long
  | blocked
deriving DecidableEq, Repr

/-- A key's input (R169): the level last taken, or seen at a wake (R186), and the 30 ms before the input's next change can
be taken (log 25). -/
structure KeyInput where
  down : Bool
  debounce : Timer
deriving DecidableEq, Repr

/-- The last-completed record (R171). -/
structure LastCompleted where
  template : Nat
  param1 : Nat
  param2 : Nat
  cls : Cls
  channels : Channels
deriving DecidableEq, Repr

/-- An awaiting record (R175). -/
structure Awaiting where
  tag : Nat
  cls : Cls
  template : Nat
  param1 : Nat
  param2 : Nat
  channels : Channels
  repeatsLeft : Nat
  repeatInterval : Nat
  spokenAt : Nat
  repeatDue : Timer
deriving DecidableEq, Repr

/-- An item of the repeat list (R177). -/
structure RepeatItem where
  tag : Nat
  spokenAt : Nat
deriving DecidableEq, Repr

/-- Session and Panel. -/
structure Panel where
  inSession : Bool
  language : Nat
  volume : Nat
  keys : Keys KeyState
  inputs : Keys KeyInput
  lastCompleted : Option LastCompleted
  helpTemplate : Option Nat
  awaiting : List Awaiting
  repeats : List RepeatItem
deriving DecidableEq, Repr

/-! ### Power and Speaker Check (chapter 10) -/

/-- The power mode (R180). -/
inductive PowerMode where
  | active
  | dim
  | standby
  | sleep
deriving DecidableEq, Repr

/-- The amplifier (R183). -/
inductive Amp where
  | off
  | warming (until_ : Timer)
  | on
deriving DecidableEq, Repr

/-- The speaker check (R180, R187); `powerOn` tells the power-on check from one of a SELFTEST cue. -/
inductive Check where
  | idle
  | warmUp (powerOn : Bool)
  | test (powerOn : Bool) (until_ : Timer)
deriving DecidableEq, Repr

/-- The speaker result (R180, R188). -/
inductive SpeakerResult where
  | unknown
  | ok
  | weak
  | short
  | open_
deriving DecidableEq, Repr

/-- Power and Speaker Check (R180). The dim deadline keeps its instant while `timersHeld` (log 31). -/
structure Power where
  mode : PowerMode
  announcing : Bool
  dim : Option Timer
  timersHeld : Bool
  standby : Option Timer
  amp : Amp
  check : Check
  result : SpeakerResult
  impedance : Nat
  weakSpeaker : Nat
deriving DecidableEq, Repr

/-! ### Display Unit (chapter 7) -/

/-- A scroll position with its hold timer, one of the row of the cycle (R136, R138); no timer when the text fits its
field. -/
structure Scroll where
  pos : Nat
  timer : Option Paced
deriving DecidableEq, Repr

/-- The blink mode of line 1 with its phase (R136, R143). -/
inductive Blink where
  | steady
  | safety (shown : Bool) (until_ : Timer)
  | masked (shown : Bool) (until_ : Timer)
deriving DecidableEq, Repr

/-- The prompt text with the class of its entry (R136). -/
structure PromptText where
  chars : List Byte
  cls : Cls
deriving DecidableEq, Repr

/-- The ids of the latest PHASE cue (R144). -/
structure PhaseIds where
  phase : Nat
  phrase : Nat
deriving DecidableEq, Repr

/-- The Display Unit (R136); `timeBlink` is the phase of the time field's blink while it is paused (R145). -/
structure Display where
  text : Option PromptText
  line1Scroll : Scroll
  blink : Blink
  phase : Option PhaseIds
  phaseText : List Byte
  phaseScroll : Scroll
  timeShown : Bool
  minutes : Nat
  paused : Bool
  timeBlink : Option (Bool × Timer)
  brightness : Nat
deriving DecidableEq, Repr

/-- The latched straps (R197). -/
structure Straps where
  station : Nat
  zone : Nat
deriving DecidableEq, Repr

/-- The machine. `now` is the timebase; `pending` holds the commands that wait, first in first out. -/
structure State where
  now : Nat
  pending : List Instr
  straps : Straps
  link : CueLink
  seq : Sequencer
  store : PhraseStore
  speech : Speech
  tone : ToneUnit
  level : LevelUnit
  hall : HallPort
  floor : FloorUnit
  rem : ReminderUnit
  panel : Panel
  power : Power
  display : Display
deriving DecidableEq, Repr

/-- The built-in defaults of the configuration (R193). -/
def Settings.builtIn : Settings where
  languages := ⟨true, false, false, false⟩
  defaultLanguage := 0
  defaultVolume := 4
  standbyMinutes := 10
  countdownTemplate := 0
  policy := .auto

/-- No latch set (R196). -/
def Latches.clear : Latches := ⟨false, false, false, false, false, false, false⟩

/-- The Cue Link Port after a power-on reset (R191, R193, R195, R196). -/
def CueLink.reset : CueLink where
  framer := .hunt
  listening := false
  reports := []
  early := []
  config := Settings.builtIn
  locked := false
  latches := Latches.clear
  framingErrors := 0
  refusals := 0
  reportsLost := 0

/-- The Prompt Sequencer after a power-on reset (R31). -/
def Sequencer.reset : Sequencer where
  queue := []
  madeCount := 0
  slot := none
  mask := ⟨false, false, false⟩
  internalDrops := 0
  cuts := 0
  askedAt := 0

/-- The phrase store after a power-on reset, its check begun (R35); the flash fitted is the environment's (log 5). -/
def PhraseStore.reset : PhraseStore where
  state := .checking
  index := []
  flash := ⟨[], []⟩
  readErrors := 0
  truncated := 0

/-- The Tone Unit after either reset (R124). -/
def ToneUnit.reset : ToneUnit := ⟨.idle, .idle⟩

/-- The Level Unit after a power-on reset that ends at 0 (R109, R110). -/
def LevelUnit.reset : LevelUnit where
  ring := []
  hold := .open_
  lastG := 0
  quiet := false
  maskedPhrases := 0
  sampleDue := some ⟨Config.sample, Config.sample⟩

/-- The Hall Line Port after a power-on reset with station strap 0 (R64). -/
def HallPort.reset : HallPort where
  line := .silent
  idleCounting := false
  txList := []
  onLine := none
  state := .off
  errorRun := 0
  heartbeat := none
  recovery := .none_
  finalTimer := none
  watch := ⟨Config.stuck, Config.stuck⟩
  framesReceived := 0
  badFrames := 0
  ownBitErrors := 0

/-- The own record after a power-on reset (R88, R108). -/
def OwnFloor.reset : OwnFloor where
  state := .free
  gapEnd := none
  claim := none
  released := false
  outgoing := none
  pendingClaim := none
  nextSeq := 0

/-- The Floor Unit after a power-on reset (R78, R108). -/
def FloorUnit.reset : FloorUnit where
  peers := []
  own := OwnFloor.reset
  claimsSent := 0
  claimsConfirmed := 0
  claimsLost := 0
  overlaps := 0

/-- The Reminder Unit after a power-on reset (R148, R151, R155). -/
def ReminderUnit.reset : ReminderUnit where
  estimate := 0
  running := false
  secondPhase := none
  marks := ⟨⟨0, .unused⟩, ⟨0, .unused⟩, ⟨0, .unused⟩, ⟨0, .unused⟩⟩
  slots := ⟨none, none, none, none⟩

/-- A key input right after a reset at `now` that leaves it at a level (R165, R169). -/
def KeyInput.fresh (now : Nat) (down : Bool) : KeyInput := ⟨down, ⟨now + Config.debounce, Config.debounce⟩⟩

/-- The six key inputs right after a reset at `now`. -/
def freshInputs (now : Nat) (down : Keys Bool) : Keys KeyInput := down.map (KeyInput.fresh now)

/-- Session and Panel after a power-on reset with no key down (R165). -/
def Panel.reset : Panel where
  inSession := false
  language := 0
  volume := 4
  keys := ⟨.up, .up, .up, .up, .up, .up⟩
  inputs := freshInputs 0 ⟨false, false, false, false, false, false⟩
  lastCompleted := none
  helpTemplate := none
  awaiting := []
  repeats := []

/-- Power and Speaker Check after a power-on reset that ends at 0: the power-on check warms the amplifier (R180,
R187). The impedance before the first check is the model's choice (log 20). -/
def Power.reset : Power where
  mode := .active
  announcing := false
  dim := some ⟨Config.dim, Config.dim⟩
  timersHeld := true
  standby := none
  amp := .warming ⟨Config.warmUp, Config.warmUp⟩
  check := .warmUp true
  result := .unknown
  impedance := 0
  weakSpeaker := 0

/-- The Display Unit after either reset (R136). -/
def Display.reset : Display where
  text := none
  line1Scroll := ⟨0, none⟩
  blink := .steady
  phase := none
  phaseText := []
  phaseScroll := ⟨0, none⟩
  timeShown := false
  minutes := 0
  paused := true
  timeBlink := none
  brightness := 15

/-- The machine right after a power-on reset that ends at timebase 0 with station strap 0, zone strap 0, no key down
and an empty flash (log 5 names these choices); POWER_ON_RESET gives the same state for any other straps, keys, flash
and instant. -/
def State.reset : State where
  now := 0
  pending := []
  straps := ⟨0, 0⟩
  link := CueLink.reset
  seq := Sequencer.reset
  store := PhraseStore.reset
  speech := .idle
  tone := ToneUnit.reset
  level := LevelUnit.reset
  hall := HallPort.reset
  floor := FloorUnit.reset
  rem := ReminderUnit.reset
  panel := Panel.reset
  power := Power.reset
  display := Display.reset

/-! ### Updates of one block -/

def State.onLink (f : CueLink → CueLink) (s : State) : State := { s with link := f s.link }
def State.onSeq (f : Sequencer → Sequencer) (s : State) : State := { s with seq := f s.seq }
def State.onStore (f : PhraseStore → PhraseStore) (s : State) : State := { s with store := f s.store }
def State.setSpeech (x : Speech) (s : State) : State := { s with speech := x }
def State.onTone (f : ToneUnit → ToneUnit) (s : State) : State := { s with tone := f s.tone }
def State.onLevel (f : LevelUnit → LevelUnit) (s : State) : State := { s with level := f s.level }
def State.onHall (f : HallPort → HallPort) (s : State) : State := { s with hall := f s.hall }
def State.onFloor (f : FloorUnit → FloorUnit) (s : State) : State := { s with floor := f s.floor }
def State.onOwn (f : OwnFloor → OwnFloor) (s : State) : State :=
  s.onFloor fun u => { u with own := f u.own }
def State.onRem (f : ReminderUnit → ReminderUnit) (s : State) : State := { s with rem := f s.rem }
def State.onPanel (f : Panel → Panel) (s : State) : State := { s with panel := f s.panel }
def State.onPower (f : Power → Power) (s : State) : State := { s with power := f s.power }
def State.onDisplay (f : Display → Display) (s : State) : State := { s with display := f s.display }

end Sys2Proof.Machine
end

