-- ==== Sys2Proof/Machine/Flags.lean ====
section
/-! DEFINITION. Saturating counters, the event latches, the class mask, and the codes reports carry (R196, R201). -/

namespace Sys2Proof.Machine

open Sys2Proof

/-- A counter's next value: it stops at its largest value (00_scope.md "Counters"). -/
def bump (n : Nat) : Nat := min Config.counterLimit (n + 1)

/-- A flag as one bit of a byte. -/
def bit (i : Nat) (b : Bool) : Nat := if b then 2 ^ i else 0

/-- The latches as the byte of page 0: bits 0-6 in the order of R196 (R201). -/
def Latches.code (l : Latches) : Nat :=
  bit 0 l.speakerFault + bit 1 l.hallFault + bit 2 l.duplicateStation + bit 3 l.peerLost + bit 4 l.overlap
    + bit 5 l.masked + bit 6 l.reportsLost

/-- The class mask as the byte of MASK: COURTESY bit 0, STATUS bit 1, ACTION bit 2 (R194, R201). -/
def ClassMask.code (m : ClassMask) : Nat := bit 0 m.courtesy + bit 1 m.status + bit 2 m.action

/-- The class mask a MASK byte sets (R194). -/
def ClassMask.ofCode (n : Nat) : ClassMask := ⟨n.testBit 2, n.testBit 1, n.testBit 0⟩

/-- Whether the mask holds a class back: SAFETY has no flag (R15). -/
def ClassMask.masks (m : ClassMask) : Cls → Bool
  | .safety => false
  | .action => m.action
  | .status => m.status
  | .courtesy => m.courtesy

/-- Reason codes (R201). -/
def Reason.code : Reason → Nat
  | .unknownCue => 1
  | .badLength => 2
  | .badField => 3
  | .unknownTemplate => 4
  | .configLocked => 5
  | .queueFull => 6
  | .tagBusy => 7
  | .noSuchTag => 8
  | .busy => 9
  | .notIdle => 10

/-- Outcome codes (R201). -/
def DoneOutcome.code : DoneOutcome → Nat
  | .completed => 1
  | .superseded => 2
  | .dropped => 3
  | .expired => 4
  | .cutOut => 5
  | .cancelled => 6
  | .acked => 7
  | .cleared => 8
  | .unacknowledged => 9

/-- Key codes (R201). -/
def keyCode : Key → Nat
  | .rep => 1
  | .hlp => 2
  | .lng => 3
  | .vdn => 4
  | .vup => 5
  | .ok => 6

/-- Event kinds (R201). -/
def EventKind.code : EventKind → Nat
  | .hallFault => 1
  | .hallRestored => 2
  | .duplicateStation => 3
  | .speakerFault => 4

/-- A report as it travels on the cue link: start byte, type, length, payload (R191, R201). -/
def Report.frame : Report → List Byte
  | .hello code station zone => [0x7E#8, 0x81#8, 3#8, code, byte station, byte zone]
  | .queued tag => [0x7E#8, 0x82#8, 1#8, byte tag]
  | .refused type tag reason => [0x7E#8, 0x83#8, 3#8, type, byte tag, byte reason.code]
  | .done tag outcome => [0x7E#8, 0x84#8, 2#8, byte tag, byte outcome.code]
  | .key k long => [0x7E#8, 0x85#8, 2#8, byte (keyCode k), byte (bit 0 long)]
  | .event kind => [0x7E#8, 0x86#8, 1#8, byte kind.code]
  | .statusReply page contents =>
    0x7E#8 :: 0x87#8 :: byte (contents.length + 1) :: byte page :: contents

/-- Power mode code of page 0 (R201): a reply is never made in SLEEP, which would read as 3. -/
def PowerMode.code : PowerMode → Nat
  | .active => 0
  | .dim => 1
  | .standby => 2
  | .sleep => 3

/-- Hall state code of page 0 (R201). -/
def HallState.code : HallState → Nat
  | .off => 0
  | .listenIn _ => 1
  | .on => 2
  | .fault _ => 3

/-- FAULT cause code of page 0 (R201). -/
def HallState.causeCode : HallState → Nat
  | .fault .errors => 1
  | .fault .stuck => 2
  | .fault .duplicate => 3
  | _ => 0

/-- Own floor state code of page 0 (R201). -/
def FloorState.code : FloorState → Nat
  | .free => 0
  | .claiming => 1
  | .holding => 2
  | .gap => 3

/-- Slot state code of page 0 for the state of the entry in service (R201). -/
def EntryState.slotCode : EntryState → Nat
  | .queued => 0
  | .claiming => 1
  | .speaking => 2
  | .showing => 3

/-- Speaker result code of page 0 (R201). -/
def SpeakerResult.code : SpeakerResult → Nat
  | .unknown => 0
  | .ok => 1
  | .weak => 2
  | .short => 3
  | .open_ => 4

/-- Phrase store state code of page 0 (R201). -/
def StoreState.code : StoreState → Nat
  | .checking => 0
  | .ready => 1
  | .failed => 2

/-- Mark state code of page 3 (R201). -/
def MarkState.code : MarkState → Nat
  | .unused => 0
  | .armed => 1
  | .spent => 2

/-- Slot mode code of REMIND and of page 4 (R200, R201). -/
def SlotMode.code : SlotMode → Nat
  | .oneShot => 0
  | .periodic => 1
  | .idle => 2

end Sys2Proof.Machine
end

