-- ==== Sys2Proof/Machine/Ops.lean ====
section
/-! DEFINITION. Named operations every block uses: the timebase and its intervals, reports, counters, the flash's
memory. -/

namespace Sys2Proof.Machine

open Sys2Proof

/-! ### The timebase -/

/-- An interval of `len` ms that starts now. -/
def State.after (s : State) (len : Nat) : Timer := ⟨s.now + len, len⟩

/-- The interval has ended, within R1's tolerance of its length (log 2). -/
def Timer.reached (tm : Timer) (now : Nat) : Bool := tm.due ≤ now + Config.tolerance tm.len

/-- The first interval of a row starts now, and the row with it. -/
def Paced.begin (now len : Nat) : Paced := ⟨⟨now + len, len⟩, ⟨now + len, len⟩⟩

/-- The next interval of a row: its own end is counted from now, the row's from the row's start. -/
def Paced.next (p : Paced) (now len : Nat) : Paced := ⟨⟨now + len, len⟩, ⟨p.row.due + len, p.row.len + len⟩⟩

/-- An interval of a row has ended: both its bounds are reached (R1). -/
def Paced.reached (p : Paced) (now : Nat) : Bool := p.own.reached now && p.row.reached now

/-- The two bounds of an interval of a row. -/
def Paced.timers (p : Paced) : List Timer := [p.own, p.row]

/-- The interval runs and has ended. -/
def reachedAt (tm : Option Timer) (now : Nat) : Bool :=
  match tm with
  | some x => x.reached now
  | none => false

/-- The interval has ended, and R1's tolerance of its length has passed as well: whatever R1 allows, its end lies behind
(log 2). -/
def Timer.late (tm : Timer) (now : Nat) : Bool := tm.due + Config.tolerance tm.len < now

/-- The interval runs and its end lies behind. -/
def lateAt (tm : Option Timer) (now : Nat) : Bool :=
  match tm with
  | some x => x.late now
  | none => false

/-- The part is not in SLEEP: in SLEEP nothing but a wake, a reset, the reports still queued and a running click
changes it (R185, log 26). -/
def State.awake (s : State) : Bool := s.power.mode ≠ .sleep

/-! ### Reports (R195) -/

/-- A report is discarded (R195). -/
def CueLink.lose (l : CueLink) : CueLink :=
  { l with reportsLost := bump l.reportsLost, latches := { l.latches with reportsLost := true } }

/-- A report joins the report queue, or is lost when the queue is full (R195). -/
def CueLink.join (r : Report) (l : CueLink) : CueLink :=
  if l.reports.length < Config.reportLimit then { l with reports := l.reports ++ [r] } else l.lose

/-- A report made before HELLO waits behind it, which is to be the first of the empty queue (R195, R198; log 43): it is
lost where HELLO and the reports that wait already fill the queue. -/
def CueLink.hold (r : Report) (l : CueLink) : CueLink :=
  if l.early.length + 1 < Config.reportLimit then { l with early := l.early ++ [r] } else l.lose

/-- A report is made (R195). -/
def report (r : Report) (s : State) : State := s.onLink fun l => if l.listening then l.join r else l.hold r

/-- Reports join in the order given (R195). -/
def reportAll (rs : List Report) (s : State) : State := rs.foldl (fun acc r => report r acc) s

/-- DONE is sent for a prompt of origin MACHINE; internal prompts leave without a report (R11, R16, R29). -/
def reportDone (origin : Origin) (tag : Nat) (outcome : DoneOutcome) (s : State) : State :=
  if origin = .machine then report (.done tag outcome) s else s

/-- A refused cue: one REFUSED report and one more refusal (R192). -/
def refuse (type : Byte) (tag : Nat) (reason : Reason) (s : State) : State :=
  report (.refused type tag reason) (s.onLink fun l => { l with refusals := bump l.refusals })

/-- Set latches (R196). -/
def latch (f : Latches → Latches) (s : State) : State := s.onLink fun l => { l with latches := f l.latches }

end Sys2Proof.Machine

namespace Sys2Proof

/-! ### The flash's memory (R203) -/

/-- What an address that nothing lists reads as (log 6). -/
def Flash.blank : Byte := 0#8

/-- The byte at an address of a list of cells. -/
def cellAt (cells : List Host.Cell) (a : Nat) : Byte :=
  match cells with
  | [] => Flash.blank
  | c :: cs => if c.1 = a then c.2 else cellAt cs a

/-- Put a byte at an address, keeping the addresses rising and no cell at the blank value. -/
def putCell (cells : List Host.Cell) (a : Nat) (b : Byte) : List Host.Cell :=
  match cells with
  | [] => if b = Flash.blank then [] else [(a, b)]
  | c :: cs =>
    if a < c.1 then (if b = Flash.blank then c :: cs else (a, b) :: c :: cs)
    else if a = c.1 then (if b = Flash.blank then cs else (a, b) :: cs)
    else c :: putCell cs a b

/-- The canonical form: addresses rising from `lo` on, below the end of the flash, no blank byte. -/
def cellsWf (lo : Nat) : List Host.Cell → Bool
  | [] => true
  | c :: cs => decide (lo ≤ c.1) && decide (c.1 < Config.flashSize) && decide (c.2 ≠ Flash.blank) && cellsWf (c.1 + 1) cs

/-- The memory of the flash is in canonical form. -/
def Flash.wf (f : Flash) : Bool := cellsWf 0 f.cells

/-- The cells of an image in canonical form; a cell past the last address is no byte of the flash. -/
def canonCells (cells : List Host.Cell) : List Host.Cell :=
  cells.foldl (fun acc c => if c.1 < Config.flashSize then putCell acc c.1 c.2 else acc) []

/-- The flash as the part finds it when it is fitted (log 5). -/
def Flash.fitted (f : Flash) : Flash := { f with cells := canonCells f.cells }

/-- One byte of the flash. -/
def Flash.byteAt (f : Flash) (a : Nat) : Byte := cellAt f.cells a

/-- A read of `n` bytes from `a` on is answered within 5 ms: it stays in the flash and meets no outage (log 6). -/
def Flash.answers (f : Flash) (now a n : Nat) : Bool :=
  decide (a + n ≤ Config.flashSize)
    && f.outages.all fun o => decide (now < o.fromMs) || decide (o.toMs < now) || decide (a + n ≤ o.lo) || decide (o.hi < a)

/-- The `n` bytes from `a` on. -/
def Flash.bytesAt (f : Flash) (a n : Nat) : List Byte := (List.range n).map fun i => f.byteAt (a + i)

/-- A read of the flash: its bytes, or no answer (R35, R46, R144). -/
def Flash.read (f : Flash) (now a n : Nat) : Option (List Byte) :=
  if f.answers now a n then some (f.bytesAt a n) else none

/-- The sum of the `n` bytes from `a` on (R35): an address that is not listed holds 0 and adds nothing. -/
def Flash.sum (f : Flash) (a n : Nat) : Nat :=
  ((f.cells.filter fun c => decide (a ≤ c.1) && decide (c.1 < a + n)).map fun c => c.2.toNat).sum

end Sys2Proof
end

