-- ==== Sys2Proof/Machine/Operands.lean ====
section
/-! DEFINITION. The forms of the operands: the cue payloads of R200 read field by field, each with its range, and
the bits of the hall frames of R57, R58 and R202 with their check and their judgement (R59). -/

namespace Sys2Proof.Machine

open Sys2Proof

/-! ### Cue payloads (R200): a layout answers the fields, or none for a value outside its range (BAD_FIELD) -/

/-- The fields of a taken CONFIGURE (R193, R200), before the limits of the phrase store are applied. -/
structure ConfigureCue where
  languages : Four Bool
  defaultLanguage : Nat
  defaultVolume : Nat
  standbyMinutes : Nat
  marks : Four Nat
  countdownTemplate : Nat
  policy : Policy
deriving DecidableEq, Repr

/-- A mark value in range: 0 or 30-7,200 (R193). -/
def markOk (v : Nat) : Bool := decide (v = 0) || (decide (30 ≤ v) && decide (v ≤ 7200))

/-- The policy codes (R200). -/
def policyOf : Nat → Option Policy
  | 0 => some .auto
  | 1 => some .always
  | 2 => some .never
  | _ => none

/-- CONFIGURE (R193, R200); a volume above 7 is clamped. -/
def configureFields (p : List Byte) : Option ConfigureCue :=
  let m := at1 p 0
  let marks : Four Nat := ⟨at2 p 4, at2 p 6, at2 p 8, at2 p 10⟩
  if m = 0 ∨ 16 ≤ m ∨ 3 < at1 p 1 ∨ ¬ marks.list.all markOk then none
  else
    (policyOf (at1 p 13)).map fun policy =>
      { languages := ⟨m.testBit 0, m.testBit 1, m.testBit 2, m.testBit 3⟩
        defaultLanguage := at1 p 1
        defaultVolume := min 7 (at1 p 2)
        standbyMinutes := at1 p 3
        marks := marks
        countdownTemplate := at1 p 12
        policy := policy }

/-- A SESSION cue (R166, R200). -/
inductive SessionCue where
  | end_
  | begin_ (language : Option Nat)
deriving DecidableEq, Repr

/-- SESSION (R166, R200): the second byte of an end is not examined. -/
def sessionFields (p : List Byte) : Option SessionCue :=
  if at1 p 0 = 0 then some .end_
  else if at1 p 0 = 1 then
    if at1 p 1 = 255 then some (.begin_ none)
    else if at1 p 1 ≤ 3 then some (.begin_ (some (at1 p 1)))
    else none
  else none

/-- The fields of a PHASE cue (R194, R200). -/
structure PhaseCue where
  ids : PhaseIds
  help : Option Nat
deriving DecidableEq, Repr

/-- PHASE (R194, R200). -/
def phaseFields (p : List Byte) : Option PhaseCue :=
  if 31 < at1 p 0 ∨ 1023 < at2 p 1 then none
  else if at2 p 3 = 65535 then some ⟨⟨at1 p 0, at2 p 1⟩, none⟩
  else if at2 p 3 ≤ 255 then some ⟨⟨at1 p 0, at2 p 1⟩, some (at2 p 3)⟩
  else none

/-- PROGRESS (R149, R200): the remaining time, clamped to 43,200, and the running flag. -/
def progressFields (p : List Byte) : Option (Nat × Bool) :=
  if at1 p 2 = 0 then some (min Config.paramLimit (at2 p 0), false)
  else if at1 p 2 = 1 then some (min Config.paramLimit (at2 p 0), true)
  else none

/-- The fields of a PROMPT cue (R6, R200); a deadline of 0 s is none. -/
structure PromptCue where
  tag : Nat
  cls : Cls
  template : Nat
  param1 : Nat
  param2 : Nat
  channels : Channels
  ackRequired : Bool
  repeatsLeft : Nat
  repeatInterval : Nat
  deadline : Nat
deriving DecidableEq, Repr

/-- A tag of the machine controller (R3, R30). -/
def tagOk (tag : Nat) : Bool := decide (1 ≤ tag) && decide (tag ≤ 63)

/-- The channels byte: bit 0 SPEECH, bit 1 TONE, bit 2 DISPLAY (R200). -/
def channelsOf (n : Nat) : Channels := ⟨n.testBit 0, n.testBit 1, n.testBit 2⟩

/-- PROMPT (R6, R200): the field check, with the clamp of the repeat interval. -/
def promptFields (p : List Byte) : Option PromptCue :=
  if ¬ tagOk (at1 p 0) ∨ 3 < at1 p 1 ∨ Config.paramLimit < at2 p 3 ∨ Config.paramLimit < at2 p 5 ∨ at1 p 7 = 0
      ∨ 8 ≤ at1 p 7 ∨ 1 < at1 p 8 ∨ 3 < at1 p 9 then none
  else
    some
      { tag := at1 p 0
        cls := Cls.ofCode (at1 p 1)
        template := at1 p 2
        param1 := at2 p 3
        param2 := at2 p 5
        channels := channelsOf (at1 p 7)
        ackRequired := at1 p 8 = 1
        repeatsLeft := at1 p 9
        repeatInterval := max 5 (min 60 (at1 p 10))
        deadline := at1 p 11 }

/-- CANCEL and ACK (R30, R179): a tag of 1-63. -/
def tagField (p : List Byte) : Option Nat := if tagOk (at1 p 0) then some (at1 p 0) else none

/-- MASK (R194): bits 3-7 clear. -/
def maskField (p : List Byte) : Option ClassMask :=
  if at1 p 0 < 8 then some (ClassMask.ofCode (at1 p 0)) else none

/-- QUIET (R194) and the clear-latches byte of STATUS (R196): 0 or 1. -/
def flagField (p : List Byte) : Option Bool :=
  if at1 p 0 = 0 then some false else if at1 p 0 = 1 then some true else none

/-- The slot modes (R200). -/
def slotModeOf : Nat → Option SlotMode
  | 0 => some .oneShot
  | 1 => some .periodic
  | 2 => some .idle
  | _ => none

/-- A REMIND cue (R156): a clear of a slot, or the fields that program it. -/
inductive RemindCue where
  | clear (slot : Nat)
  | program (slot : Nat) (mode : SlotMode) (delay period count template : Nat) (cls : Cls) (param1 : Nat)
      (persistent : Bool)
deriving DecidableEq, Repr

/-- REMIND (R156, R200): with delay 0 only the slot is checked. -/
def remindFields (p : List Byte) : Option RemindCue :=
  if 3 < at1 p 0 then none
  else if at2 p 2 = 0 then some (.clear (at1 p 0))
  else
    match slotModeOf (at1 p 1) with
    | none => none
    | some mode =>
      if Config.delayLimit < at2 p 2 ∨ (mode = .periodic ∧ (at2 p 4 = 0 ∨ Config.delayLimit < at2 p 4))
          ∨ 15 < at1 p 6 ∨ 3 < at1 p 8 ∨ Config.paramLimit < at2 p 9 ∨ 1 < at1 p 11 then none
      else
        some (.program (at1 p 0) mode (at2 p 2) (at2 p 4) (at1 p 6) (at1 p 7) (Cls.ofCode (at1 p 8)) (at2 p 9)
          (at1 p 11 = 1))

end Sys2Proof.Machine

namespace Sys2Proof

open Machine

/-! ### Hall frames (R57, R58, R202): recessive is 1, written true -/

/-- `n` bits of a number, most significant first. -/
def msb (n v : Nat) : List Bool := (List.range n).map fun i => v.testBit (n - 1 - i)

/-- The number of bits sent most significant first. -/
def ofMsb (bs : List Bool) : Nat := bs.foldl (fun acc b => acc * 2 + bit 0 b) 0

/-- One step of the division by x^8 + x^2 + x + 1 in modulo-2 arithmetic (R58). -/
def crcStep (r : BitVec 8) (b : Bool) : BitVec 8 :=
  let shifted := r <<< 1
  if (r.msb != b) then shifted ^^^ 0x07#8 else shifted

/-- The check of the covered bits (R58): remainder of the bits followed by eight 0 bits, from 0, not inverted. -/
def crc8 (bs : List Bool) : BitVec 8 := bs.foldl crcStep 0#8

/-- Outcome bits of a RELEASE (R202). -/
def ReleaseOutcome.bits : ReleaseOutcome → List Bool
  | .complete => [false, false]
  | .cut => [false, true]
  | .withdrawn => [true, false]

/-- Power mode bits of a PRESENCE (R202). -/
def PresenceMode.bits : PresenceMode → List Bool
  | .active => [false, false]
  | .dim => [false, true]
  | .standby => [true, false]
  | .sleeping => [true, true]

/-- The covered bits of a frame, from the first kind bit to the last payload bit (R58, R202). -/
def HallFrame.covered : HallFrame → List Bool
  | .claim f =>
    [false, false] ++ msb 2 (3 - f.cls.val) ++ msb 5 f.station.toNat ++ msb 3 f.zone.toNat ++ msb 4 f.bucket.toNat
      ++ msb 8 f.length.toNat ++ msb 4 f.seq.toNat
  | .release f =>
    [false, true] ++ [false, false] ++ msb 5 f.station.toNat ++ msb 3 f.zone.toNat ++ msb 4 f.seq.toNat
      ++ f.outcome.bits ++ [false, false]
  | .presence f =>
    [true, false] ++ [false, false] ++ msb 5 f.station.toNat ++ msb 3 f.zone.toNat ++ f.mode.bits ++ [f.holding]
      ++ [decide (f.hallState = .listenIn)] ++ [false, false, false, false]

/-- The bits of a frame: start bit, covered bits, check, end field (R57, R202). -/
def HallFrame.bits (f : HallFrame) : List Bool :=
  false :: f.covered ++ msb 8 (crc8 f.covered).toNat ++ [true, true, true]

/-- The sender's station number. -/
def HallFrame.station : HallFrame → BitVec 5
  | .claim f => f.station
  | .release f => f.station
  | .presence f => f.station

/-- The fields of a frame lie in the ranges of R58 and R59: a station of 1-31 and, for a CLAIM, a length of 1-255. -/
def HallFrame.good : HallFrame → Bool
  | .claim f => decide (f.station ≠ 0#5) && decide (f.length ≠ 0#8)
  | .release f => decide (f.station ≠ 0#5)
  | .presence f => decide (f.station ≠ 0#5)

/-- The bits from bit time `a` on, `n` of them, bit time 1 being the start bit (R202); past what was heard the line
rests recessive. -/
def field (bits : List Bool) (a n : Nat) : List Bool := (List.range n).map fun i => bits.getD (a - 1 + i) true

/-- How a receiver judges the bits it followed from the start bit (R59): a good frame; a frame whose fields are in order
and whose check or end field fails, judged at the end of its end field; or one that fails earlier (log 38). -/
inductive Verdict where
  | good (f : HallFrame)
  | badCheck
  | bad
deriving DecidableEq, Repr

/-- The outcome a RELEASE carries; 11 makes the frame bad (R202). -/
def outcomeOf : Nat → Option ReleaseOutcome
  | 0 => some .complete
  | 1 => some .cut
  | 2 => some .withdrawn
  | _ => none

/-- The power mode a PRESENCE carries (R202). -/
def presenceModeOf : Nat → PresenceMode
  | 0 => .active
  | 1 => .dim
  | 2 => .standby
  | _ => .sleeping

/-- The frame the covered bits spell, or none where a field fails before the check (R58, R59, R202). -/
def frameOf (bits : List Bool) : Option HallFrame :=
  let rank := ofMsb (field bits 4 2)
  let station := BitVec.ofNat 5 (ofMsb (field bits 6 5))
  let zone := BitVec.ofNat 3 (ofMsb (field bits 11 3))
  match field bits 2 2 with
  | [false, false] =>
    some (.claim
      { station := station, zone := zone, cls := Cls.ofCode (3 - rank)
        bucket := BitVec.ofNat 4 (ofMsb (field bits 14 4))
        length := BitVec.ofNat 8 (ofMsb (field bits 18 8))
        seq := BitVec.ofNat 4 (ofMsb (field bits 26 4)) })
  | [false, true] =>
    if rank ≠ 0 ∨ field bits 20 2 ≠ [false, false] then none
    else
      (outcomeOf (ofMsb (field bits 18 2))).map fun o =>
        .release { station := station, zone := zone, seq := BitVec.ofNat 4 (ofMsb (field bits 14 4)), outcome := o }
  | [true, false] =>
    if rank ≠ 0 ∨ field bits 18 4 ≠ [false, false, false, false] then none
    else
      some (.presence
        { station := station, zone := zone, mode := presenceModeOf (ofMsb (field bits 14 2))
          holding := bits.getD 15 true
          hallState := if bits.getD 16 true then .listenIn else .on })
  | _ => none

/-- Bit times before the check (R202). -/
def HallFrame.checkAt : HallFrame → Nat
  | .claim _ => 30
  | .release _ => 22
  | .presence _ => 22

/-- The judgement of R59. -/
def judge (bits : List Bool) : Verdict :=
  match frameOf bits with
  | none => .bad
  | some f =>
    if ¬ f.good then .bad
    else if field bits (f.checkAt + 8) 3 ≠ [true, true, true] then .badCheck
    else if ofMsb (field bits f.checkAt 8) ≠ (crc8 (field bits 2 (f.checkAt - 2))).toNat then .badCheck
    else .good f

end Sys2Proof
end

