-- ==== Sys2Proof/Machine/View.lean ====
section
/-! DEFINITION. What the neighbour view answers (4.9) and how live claims rank (R80). -/

namespace Sys2Proof.Machine

open Sys2Proof

/-- The class of a claim in the ranking: PRESUMED ranks as SAFETY (R80). -/
def ClaimCls.val : ClaimCls → Nat
  | .heard c => c.val
  | .presumed => 3

/-- What the ranking reads of a claim: class, wait bucket, station number (R80). -/
structure RankKey where
  cls : Nat
  bucket : Nat
  station : Nat
deriving DecidableEq, Repr

/-- Claim `a` outranks claim `b` (R80). -/
def RankKey.outranks (a b : RankKey) : Bool :=
  decide (b.cls < a.cls)
    || (decide (a.cls = b.cls) && (decide (b.bucket < a.bucket)
      || (decide (a.bucket = b.bucket) && decide (a.station < b.station))))

/-- The ranking key of a live claim of a station. -/
def LiveClaim.rankKey (c : LiveClaim) (station : Nat) : RankKey := ⟨c.cls.val, c.bucket, station⟩

/-- The settle window of a claim has ended: its end has been taken, or 60 ms have passed since its heard stamp; a
PRESUMED claim has none (R79, R85, log 18). -/
def LiveClaim.windowEnded (c : LiveClaim) (now : Nat) : Bool :=
  c.settled || decide (c.cls = .presumed) || decide (c.heard + Config.settleWindow ≤ now)

/-- The live claims of the peers with their stations. -/
def State.peerClaims (s : State) : List (Nat × LiveClaim) :=
  s.floor.peers.filterMap fun p => p.claim.map fun c => (p.station, c)

/-- Every live claim of the view, the own one included, with its station (R79). -/
def State.liveClaims (s : State) : List (Nat × LiveClaim) :=
  match s.floor.own.claim with
  | some c => (s.straps.station, c) :: s.peerClaims
  | none => s.peerClaims

/-- The live claims of one zone. -/
def State.claimsIn (s : State) (z : Nat) : List (Nat × LiveClaim) := s.liveClaims.filter fun x => x.2.zone = z

/-- The top-ranked of a list of claims (R80). -/
def topClaim : List (Nat × LiveClaim) → Option (Nat × LiveClaim)
  | [] => none
  | x :: xs =>
    match topClaim xs with
    | none => some x
    | some y => if (y.2.rankKey y.1).outranks (x.2.rankKey x.1) then some y else some x

/-- The confirmed claim of a zone (R79). -/
def State.holderOf (s : State) (z : Nat) : Option (Nat × LiveClaim) := (s.claimsIn z).find? fun x => x.2.confirmed

/-- The peer record of a station (R75). -/
def State.peer (s : State) (station : Nat) : Option Peer := s.floor.peers.find? fun p => p.station = station

/-- The wait bucket an arrival stamp gives at an instant (R89, R103). -/
def bucketAt (now arrival : Nat) : Nat := min 15 ((now - arrival) / Config.bucketStep)

/-- The wait bucket an arrival stamp gives at this instant (R89, R103). -/
def State.bucketOf (s : State) (arrival : Nat) : Nat := bucketAt s.now arrival

/-- A prospective claim of a class and a wait bucket is outranked by a live claim of a peer in the own zone, as R80 ranks them
(R103). R87's closing remark excepts any SAFETY claim of a lower station number from what a PRESUMED claim holds back; R80
excepts only one of wait bucket 15, and the model follows R80 and R103 (the model's choice, log 48). -/
def State.outrankedWith (s : State) (cls : Cls) (bucket : Nat) : Bool :=
  s.peerClaims.any fun x =>
    decide (x.2.zone = s.straps.zone) && (x.2.rankKey x.1).outranks ⟨cls.val, bucket, s.straps.station⟩

/-- The prospective claim of an entry is outranked at this instant (R103). -/
def State.outranked (s : State) (cls : Cls) (arrival : Nat) : Bool := s.outrankedWith cls (s.bucketOf arrival)

/-- Two zones are neighbours when their numbers are adjacent (R104). -/
def adjacentZone (a b : Nat) : Bool := decide (a + 1 = b) || decide (b + 1 = a)

/-- N_adj, the adjacent-holder count (R104, R19). -/
def State.nAdj (s : State) : Nat :=
  match s.hall.state with
  | .off => 0
  | .fault _ => 2
  | _ => (s.liveClaims.filter fun x => x.2.confirmed && adjacentZone x.2.zone s.straps.zone).length

/-- The busy window is open (R105, log 19). -/
def State.busyOpen (s : State) : Bool :=
  s.floor.peers.any fun p =>
    (decide (p.zone = s.straps.zone) || adjacentZone p.zone s.straps.zone)
      && match p.lastConfirmed with
        | some t => decide (s.now ≤ t + Config.busyWindow)
        | none => false

end Sys2Proof.Machine
end

