-- ==== Sys2Proof/Machine/Store.lean ====
section
/-! DEFINITION. The Phrase Store Interface: the store's layout (R203), its check (R35), its templates and its phrase
directory records (R32 to R34). -/

namespace Sys2Proof

/-- Language count of the header (R203). -/
def Flash.languageCount (f : Flash) : Nat := at1 (f.bytesAt 0 1) 0
/-- Template count of the header (R203). -/
def Flash.templateCount (f : Flash) : Nat := at2 (f.bytesAt 1 2) 0
/-- Check value of the header (R203). -/
def Flash.checkValue (f : Flash) : Nat := at2 (f.bytesAt 3 2) 0
/-- Address of the template area (R203). -/
def Flash.templateArea (f : Flash) : Nat := at3 (f.bytesAt 5 3) 0
/-- Directory address of a language (R203). -/
def Flash.directory (f : Flash) (language : Nat) : Nat := at3 (f.bytesAt (8 + 3 * language) 3) 0

/-- The directory addresses of the languages the store holds, as the language table gives them (R32, R35). -/
def Flash.directories (f : Flash) : List Nat := (List.range (min 4 (f.languageCount))).map fun l => f.directory l

/-- Every read of the check is answered (R35): header, language table, directories and template area. When the part makes
each of these reads the manual leaves open: the model makes all of them at `now`, the instant of STORE_CHECK_END, so an
outage of the flash that ended before it does not fail the check (the model's choice, log 42). -/
def Flash.checkAnswered (f : Flash) (now : Nat) : Bool :=
  f.answers now 0 8 && f.answers now 8 (3 * min 4 f.languageCount)
    && f.directories.all (fun a => f.answers now a Config.directorySize)
    && f.answers now f.templateArea (f.templateCount * Config.templateSize)

/-- The sum of every byte in the phrase directories and the template area, modulo 65,536 (R35, R203). -/
def Flash.checkSum (f : Flash) : Nat :=
  ((f.directories.map fun a => f.sum a Config.directorySize).sum
    + f.sum f.templateArea (f.templateCount * Config.templateSize)) % 65536

/-- The check of the phrase store passes (R35). -/
def Flash.checks (f : Flash) (now : Nat) : Bool :=
  f.checkAnswered now && decide (1 ≤ f.languageCount) && decide (f.languageCount ≤ 4)
    && decide (1 ≤ f.templateCount) && decide (f.templateCount ≤ 256)
    && decide (f.checkSum = f.checkValue)

end Sys2Proof

namespace Sys2Proof.Machine

open Sys2Proof

/-- The end of the phrase store check (R35). -/
def PhraseStore.checked (now : Nat) (p : PhraseStore) : PhraseStore :=
  if p.flash.checks now then { p with state := .ready, index := p.flash.directories }
  else { p with state := .failed, index := [] }

/-- A template number is held by the store when it is below the template count (R32, log 7). -/
def State.holdsTemplate (s : State) (n : Nat) : Bool := decide (n < s.store.flash.templateCount)

/-- The template check of R7 and R13 refuses: the store is READY and does not hold the template. -/
def State.unknownTemplate (s : State) (n : Nat) : Bool := decide (s.store.state = .ready) && !s.holdsTemplate n

/-- The source of a NUMBER or DURATION item (R34). -/
inductive Source where
  | param1
  | param2
  | estimate
deriving DecidableEq, Repr

/-- An item of a template (R34). -/
inductive TemplateItem where
  | phrase (id : Nat)
  | number (src : Source)
  | duration (src : Source)
  | station
  | pause (ms : Nat)
deriving DecidableEq, Repr

/-- A template as it is read (R34): items that are left out are none. -/
structure Template where
  chime : Option Nat
  items : List TemplateItem
deriving DecidableEq, Repr

/-- The template with no items and no chime (R46). -/
def Template.empty : Template := ⟨none, []⟩

/-- An item of a template from its kind and value, or none where R34 leaves it out. -/
def templateItem (kind value : Nat) : Option TemplateItem :=
  match kind, value with
  | 0, v => if v ≤ 1023 then some (.phrase v) else none
  | 1, 0 => some (.number .param1)
  | 1, 1 => some (.number .param2)
  | 2, 0 => some (.duration .param1)
  | 2, 1 => some (.duration .param2)
  | 2, 2 => some (.duration .estimate)
  | 3, _ => some .station
  | 4, v => some (.pause (max 100 (min 500 v)))
  | _, _ => none

/-- A template from its 26 bytes (R34, R203): an item count above 8 is read as 8, a chime id above 7 as absent. -/
def templateOf (bs : List Byte) : Template where
  chime := if at1 bs 1 ≤ 7 then some (at1 bs 1) else none
  items := (List.range (min 8 (at1 bs 0))).filterMap fun i => templateItem (at1 bs (2 + 3 * i)) (at2 bs (3 + 3 * i))

/-- Read template `n`: none where the read gets no answer (R46). How many bytes that one read covers the manual leaves open:
the model reads all 26 bytes of the template at once, so an outage over items past its item count alone fails it too (the
model's choice, log 49). -/
def State.readTemplate (s : State) (n : Nat) : Option Template :=
  (s.store.flash.read s.now (s.store.flash.templateArea + Config.templateSize * n) Config.templateSize).map templateOf

/-- The answer of a look-up of a phrase in one language (R39, R46). -/
inductive Found (α : Type) where
  | present (x : α)
  | absent
  | failed
deriving DecidableEq, Repr

/-- A phrase directory record (R33, R203), with its duration and text length clamped. -/
def recordOf (id language : Nat) (piece : PieceTag) (bs : List Byte) : PhraseItem where
  id := id
  language := language
  audioAddress := at3 bs 0
  audioLength := at3 bs 3
  duration := max 80 (min 2500 (at2 bs 6))
  text := (bs.drop 9).take (min 40 (at1 bs 8))
  piece := piece

/-- Look a phrase up in one language's directory: an audio length of 0 marks it absent (R33, R39). How many bytes the read of
a record covers the manual leaves open: the model reads all 49 at once, so an outage over characters after the text length
alone fails it too, though nothing is made of them (R203; the model's choice, log 49). -/
def State.lookupIn (s : State) (language id : Nat) (piece : PieceTag) : Found PhraseItem :=
  match s.store.index[language]? with
  | none => .absent
  | some a =>
    match s.store.flash.read s.now (a + Config.recordSize * id) Config.recordSize with
    | none => .failed
    | some bs => if at3 bs 3 = 0 then .absent else .present (recordOf id language piece bs)

/-- Look a phrase up in the session language, and in the default language where it is absent (R39). -/
def State.lookup (s : State) (id : Nat) (piece : PieceTag) : Found PhraseItem :=
  match s.lookupIn s.panel.language id piece with
  | .absent =>
    if s.link.config.defaultLanguage = s.panel.language then .absent
    else s.lookupIn s.link.config.defaultLanguage id piece
  | r => r

/-- Count failed reads (R46, R51, R144). -/
def readFailed (n : Nat) (s : State) : State := s.onStore fun p => { p with readErrors := min Config.counterLimit (p.readErrors + n) }

end Sys2Proof.Machine
end

