-- ==== Sys2Proof/Machine/Composer.lean ====
section
/-! DEFINITION. The Script Composer (chapter 2): expansion of a template, limits, length estimate, display pieces. -/

namespace Sys2Proof.Machine

open Sys2Proof

/-- Items gathered by an expansion, with the number of reads that failed (R46). -/
structure Expansion where
  items : List ScriptItem
  failed : Nat
deriving DecidableEq, Repr

/-- Nothing expanded. -/
def Expansion.nil : Expansion := ⟨[], 0⟩

/-- One expansion after another. -/
def Expansion.append (a b : Expansion) : Expansion := ⟨a.items ++ b.items, a.failed + b.failed⟩

/-- All expansions in order. -/
def Expansion.concat : List Expansion → Expansion
  | [] => Expansion.nil
  | x :: xs => x.append (Expansion.concat xs)

/-- One phrase of the expansion (R39): absent in every language tried, or not read, it is left out (R46). -/
def State.expandPhrase (s : State) (piece : PieceTag) (id : Nat) : Expansion :=
  match s.lookup id piece with
  | .present x => ⟨[.phrase x], 0⟩
  | .absent => Expansion.nil
  | .failed => ⟨[], 1⟩

/-- The number phrase of a value: a value above 99 is spoken as 99 (R40). -/
def numberPhrase (v : Nat) : Nat := min v 99

/-- The phrases of a remaining time of `r` seconds (R41). -/
def durationPhrases (r : Nat) : List Nat :=
  if r < 60 then [105]
  else if r < 600 then
    let m := (r + 59) / 60
    [m, if m = 1 then 100 else 101]
  else
    let t := 5 * ((r + 150) / 300)
    let h := t / 60
    let m := t % 60
    let hours := [h, if h = 1 then 102 else 103]
    if h = 0 then [m, 101] else if m = 0 then hours else hours ++ [104, m, 101]

/-- The value of a source (R34): the entry's parameters or the remaining-time estimate. -/
def State.source (s : State) (e : Entry) : Source → Nat
  | .param1 => e.param1
  | .param2 => e.param2
  | .estimate => s.rem.estimate

/-- A STATION expansion: "Machine" and the station number, nothing in hall state OFF (R42). -/
def State.expandStation (s : State) : Expansion :=
  if s.hall.state = .off then Expansion.nil
  else (s.expandPhrase .text 106).append (s.expandPhrase .text (numberPhrase s.straps.station))

/-- The expansion of the item at place `i` of a template (R34, R39 to R42). -/
def State.expandItem (s : State) (e : Entry) (i : Nat) : TemplateItem → Expansion
  | .phrase id => s.expandPhrase .text id
  | .number src =>
    let v := numberPhrase (s.source e src)
    s.expandPhrase (.number v) v
  | .duration src =>
    let r := s.source e src
    Expansion.concat ((durationPhrases r).map (s.expandPhrase (.duration i r)))
  | .station => s.expandStation
  | .pause ms => ⟨[.pause ms], 0⟩

/-- The expansion of a template's items in order (step 4 of R38). -/
def State.expandItems (s : State) (e : Entry) (items : List TemplateItem) : Expansion :=
  Expansion.concat (items.zipIdx.map fun x => s.expandItem e x.2 x.1)

/-- Whether the station announcement is placed before the items (R42). -/
def State.announcesStation (s : State) (t : Template) : Bool :=
  decide (s.hall.state ≠ .off) && decide (t.items.head? ≠ some .station)
    && match s.link.config.policy with
      | .always => true
      | .never => false
      | .auto => s.busyOpen

/-- The class chime (R126). -/
def classChime : Cls → Nat
  | .safety => 0
  | .action => 1
  | .status => 2
  | .courtesy => 3

/-- The chime of a script on the SPEECH route (R43). -/
def speechChime (e : Entry) (t : Template) : Option Nat :=
  match t.chime with
  | some c => some c
  | none => if e.cls = .safety then some 0 else if e.channels.speech then none else some (classChime e.cls)

/-- The length of a script item (R45). -/
def ScriptItem.ms : ScriptItem → Nat
  | .phrase p => p.duration
  | .pause ms => ms

/-- The length estimate in units of 100 ms (R45). -/
def estimateOf (items : List ScriptItem) (chime warm : Bool) : Nat :=
  ((items.map ScriptItem.ms).sum + Config.itemGap * (items.length - 1) + (if chime then Config.chime else 0)
    + (if warm then Config.warmUp else 0) + 99) / 100

/-- Drop items from the end until the estimate is 255 or less (R45); `fuel` is the number of items. -/
def fitItems (chime warm : Bool) : Nat → List ScriptItem → List ScriptItem
  | 0, items => items
  | fuel + 1, items => if estimateOf items chime warm ≤ 255 then items else fitItems chime warm fuel items.dropLast

/-- The item limit of R44. -/
def limitItems (items : List ScriptItem) : List ScriptItem := items.take Config.itemLimit

/-- The piece a script item gives, where a DURATION item has not given its own yet (R139). -/
def pieceOf (seen : List Nat) : ScriptItem → Option Piece
  | .pause _ => none
  | .phrase p =>
    match p.piece with
    | .text => some (.text p.text)
    | .number v => some (.number v)
    | .duration i r => if i ∈ seen then none else some (.duration r)

/-- The DURATION items that have given their piece after an item. -/
def seenAfter (seen : List Nat) : ScriptItem → List Nat
  | .pause _ => seen
  | .phrase p =>
    match p.piece with
    | .duration i _ => i :: seen
    | _ => seen

/-- The display pieces of script items, in script order (R48, R139). -/
def piecesOf (seen : List Nat) : List ScriptItem → List Piece
  | [] => []
  | x :: xs => (pieceOf seen x).toList ++ piecesOf (seenAfter seen x) xs

/-- A composition: the script, the reads that failed, and whether items were dropped (R44, R46). -/
structure Composed where
  script : Script
  failed : Nat
  truncated : Bool
deriving DecidableEq, Repr

/-- The amplifier is read as off when it is OFF or WARMING (R183). -/
def State.ampOff (s : State) : Bool := decide (s.power.amp ≠ .on)

/-- The template of an entry: tag 74 is composed as though its template held phrase 107 alone (R173); a template that
cannot be read counts one failed read and holds nothing (R46). -/
def State.templateFor (s : State) (e : Entry) : Template × Nat :=
  if e.tag = 74 then (⟨none, [.phrase 107]⟩, 0)
  else
    match s.readTemplate e.template with
    | some t => (t, 0)
    | none => (Template.empty, 1)

/-- Composition on the SPEECH route, and of a silent service while the store is READY (R37, R38). Where a template holds no
items while R42 calls for the station prefix, R42's table and two lists differ: R38 names a lone pause where there is no
chime, R132 a tone-only service where the template names a chime or the class is SAFETY. In every such case the prefix is
placed, so the script is not empty, holds no pause, and is spoken after its chime, if any (the model's choice, log 45). -/
def State.composeSpeech (s : State) (e : Entry) : Composed :=
  let tf := s.templateFor e
  let chime := speechChime e tf.1
  if e.channels.speech then
    let lead := if s.announcesStation tf.1 then s.expandStation else Expansion.nil
    let all := lead.append (s.expandItems e tf.1.items)
    let limited := limitItems all.items
    let full := if limited = [] ∧ chime = none then [ScriptItem.pause 100] else limited
    let fitted := fitItems chime.isSome s.ampOff full.length full
    { script :=
        { chime := chime, items := fitted, estimate := max 1 (estimateOf fitted chime.isSome s.ampOff)
          pieces := piecesOf [] fitted }
      failed := tf.2 + all.failed
      truncated := decide (limited.length < all.items.length) || decide (fitted.length < full.length) }
  else
    let shown := s.expandItems e tf.1.items
    { script :=
        { chime := chime, items := [], estimate := max 1 (estimateOf [] chime.isSome s.ampOff)
          pieces := piecesOf [] (limitItems shown.items) }
      failed := tf.2 + shown.failed
      truncated := false }

/-- Composition on the FALLBACK route, and of a silent service while the store is FAILED (R36, R47). -/
def State.composeFallback (s : State) (e : Entry) : Composed where
  script :=
    { chime := some (classChime e.cls), items := [], estimate := estimateOf [] true s.ampOff, pieces := [] }
  failed := 0
  truncated := false

/-- Composition on the PIEZO route (R47): no item, no warm-up counted, the template read for its chime id alone. -/
def State.composePiezo (s : State) (e : Entry) : Composed :=
  let tf := if s.store.state = .ready then s.templateFor e else (Template.empty, 0)
  { script :=
      { chime := some (tf.1.chime.getD 0), items := [], estimate := estimateOf [] true false, pieces := [] }
    failed := tf.2
    truncated := false }

/-- Composition for the kind of service the entry gets (2.8); a silent service is composed by the same rules (R37, log 40). -/
def State.compose (s : State) (e : Entry) : Kind → Composed
  | .audible .speech => s.composeSpeech e
  | .audible .fallback => s.composeFallback e
  | .audible .piezo => s.composePiezo e
  | .silent => if s.store.state = .ready then s.composeSpeech e else s.composeFallback e

/-- The counters a composition moves (R44, R46). -/
def countComposition (c : Composed) (s : State) : State :=
  s.onStore fun p =>
    { p with
      readErrors := min Config.counterLimit (p.readErrors + c.failed)
      truncated := if c.truncated then bump p.truncated else p.truncated }

end Sys2Proof.Machine
end

