-- ==== Sys2Proof/Machine/Level.lean ====
section
/-! DEFINITION. The Level Unit (chapter 5): ambient ring, effective volume, level, gain, duty, sample hold. -/

namespace Sys2Proof.Machine

open Sys2Proof

/-- The ambient average A (R113): the mean rounded half up, 45 for an empty ring. -/
def ambientAverage (ring : List Nat) : Nat :=
  if ring = [] then 45 else (ring.sum + ring.length / 2) / ring.length

/-- A reading clamped to 30-110 dB (R110). -/
def clampReading (r : Int) : Nat := (max 30 (min 110 r)).toNat

/-- A sample joins the ring as the newest; of 8 the oldest leaves (R110). -/
def pushSample (ring : List Nat) (x : Nat) : List Nat :=
  if ring.length < Config.ringLimit then ring ++ [x] else ring.drop 1 ++ [x]

/-- The effective volume V (R114). -/
def effectiveVolume (cls : Cls) (vs : Nat) : Nat :=
  match cls with
  | .safety => max vs 4
  | .action => max vs 2
  | .status => vs
  | .courtesy => vs

/-- The tone duty of a level (R120). -/
def dutyOf (level : Nat) : Nat := min 128 (3 * (level - 40) + 2)

/-- The raw level (R116): base, lift, duck and bonus. -/
def rawLevel (a v nAdj : Nat) (cls : Cls) : Nat :=
  50 + 4 * v + min 15 ((a - 45) / 2) + (if cls = .safety then 6 else 0) - 6 * min nAdj 2

/-- The cap (R117, R122). -/
def levelCap (quiet : Bool) (cls : Cls) : Nat := if quiet ∧ cls ≠ .safety then 70 else 85

/-- The floor (R117). -/
def levelFloor (a : Nat) (cls : Cls) : Nat := max 40 (a + if cls = .safety then 6 else 3)

/-- The level, its gain code and its duty (R115 to R120). -/
def levelResult (a v nAdj : Nat) (quiet : Bool) (cls : Cls) : LevelResult :=
  let cap := levelCap quiet cls
  let low := levelFloor a cls
  let level := if low ≤ cap then min cap (max low (rawLevel a v nAdj cls)) else cap
  { level := level, gain := level - 40, duty := dutyOf level, masked := decide (cap < low) }

/-- The level computation of this moment for a service of a class (R115). -/
def State.computeLevel (s : State) (cls : Cls) : LevelResult :=
  levelResult (ambientAverage s.level.ring) (effectiveVolume cls s.panel.volume) s.nAdj s.level.quiet cls

/-- The duty of a key click at a session volume (R121). -/
def clickDuty (vs : Nat) : Nat := dutyOf (50 + 4 * vs)

/-- The gain code the amplifier plays at: the last applied level, or 20 during the test of a check (R119, R187). -/
def State.amplifierGain (s : State) : Nat :=
  match s.power.check with
  | .test _ _ => Config.checkGain
  | _ => s.level.lastG

/-- The amplifier produces output (R111): speech or its gaps, a chime on the loudspeaker, or the test of a check. -/
def State.outputting (s : State) : Bool :=
  decide (s.speech ≠ .idle)
    || (match s.tone.chime with
      | .playing c => decide (c.device = .speaker)
      | _ => false)
    || (match s.power.check with
      | .test _ _ => true
      | _ => false)

/-- The sample hold follows the output of the amplifier (R111). -/
def holdSampling (s : State) : State :=
  if s.outputting then s.onLevel fun l => { l with hold := .held }
  else
    match s.level.hold with
    | .held => s.onLevel fun l => { l with hold := .settling (s.after Config.settling) }
    | _ => s

end Sys2Proof.Machine
end

