-- ==== Sys2Proof/Machine/Tone.lean ====
section
/-! DEFINITION. The Tone Unit (chapter 6): patterns, the chime voice and the click voice. -/

namespace Sys2Proof.Machine

open Sys2Proof

/-- A step of a pattern (R125): a note by its pitch divider, or a rest, and its duration. -/
structure ToneStep where
  divider : Option Nat
  ms : Nat
deriving DecidableEq, Repr

/-- A note. -/
def note (divider ms : Nat) : ToneStep := ⟨some divider, ms⟩
/-- A rest. -/
def rest (ms : Nat) : ToneStep := ⟨none, ms⟩

/-- The eight chimes (R126). -/
def chimeSteps : Nat → List ToneStep
  | 0 => [note 200 80, rest 20, note 200 80, rest 20, note 200 80, rest 20, note 250 100]
  | 1 => [note 320 150, rest 50, note 250 200]
  | 2 => [note 400 180, rest 40, note 500 180]
  | 3 => [note 500 350, rest 50]
  | 4 => [note 500 120, note 400 120, note 320 160]
  | 5 => [note 320 120, note 400 120, note 500 160]
  | 6 => [note 250 60, rest 40, note 250 60, rest 240]
  | _ => [note 640 400]

/-- The click pattern (R126). -/
def clickSteps : List ToneStep := [note 125 40]

/-- The pitch in Hz of a divider (R125). -/
def pitch (divider : Nat) : Nat := Config.toneClock / divider

/-- A pattern's length (R125). -/
def patternLength (p : List ToneStep) : Nat := (p.map ToneStep.ms).sum

/-- From the start of a pattern to the end of its step `i` (R125, log 22). -/
def stepEnd (p : List ToneStep) (i : Nat) : Nat := patternLength (p.take (i + 1))

/-- The step a chime plays. -/
def Chime.stepOf (c : Chime) : Option ToneStep := (chimeSteps c.id)[c.step]?

/-- The length of the step a chime plays. -/
def Chime.stepLength (c : Chime) : Nat := (c.stepOf.map ToneStep.ms).getD 0

/-- The end of the step a chime plays: its own length from the instant it began, in the row of the pattern (R1, R125). -/
def Chime.stepPace (c : Chime) : Paced :=
  ⟨⟨c.stepStart + c.stepLength, c.stepLength⟩,
    ⟨c.start + stepEnd (chimeSteps c.id) c.step, stepEnd (chimeSteps c.id) c.step⟩⟩

/-- The end of a chime (R126, R128): its stated total, at which the last step is cut if need be (R125). -/
def Chime.endTimer (c : Chime) : Timer := ⟨c.start + Config.chime, Config.chime⟩

/-- The present pitch divider of the chime voice: absent while IDLE and in a rest (R124). While WAITING no step plays, so
none is present (the model's choice: R124 does not name that state, log 46). -/
def ChimeVoice.divider : ChimeVoice → Option Nat
  | .playing c => c.stepOf.bind ToneStep.divider
  | _ => none

/-- The present pitch divider of the click voice (R124, R126). -/
def ClickVoice.divider : ClickVoice → Option Nat
  | .playing _ _ => some 125
  | .idle => none

/-- The duty the chime voice drives its notes with: a square wave on the loudspeaker, D on the piezo, nothing while
muted (R129, R131). -/
def Chime.drivenDuty (c : Chime) : Nat :=
  if c.muted then 0 else match c.device with
    | .speaker => 128
    | .piezo => c.duty

/-- The chime voice holds the piezo (R135). -/
def State.piezoHeld (s : State) : Bool :=
  match s.tone.chime with
  | .playing c => decide (c.device = .piezo)
  | _ => false

/-- Whether the chime of a service is muted (R129). -/
def chimeMuted (e : Entry) (route : Route) (script : Script) : Bool :=
  decide (route = .speech) && !e.channels.tone && decide (e.cls ≠ .safety) && decide (script.items ≠ [])

/-- The device of a route's chime (R127, R132). -/
def routeDevice : Route → Device
  | .piezo => .piezo
  | _ => .speaker

/-- The chime voice begins to play now; on the piezo a running click stops (R127). -/
def playChime (c : Chime) (s : State) : State :=
  s.onTone fun t =>
    { t with
      chime := .playing { c with step := 0, start := s.now, stepStart := s.now }
      click := if c.device = .piezo then .idle else t.click }

/-- The chime voice waits for the warm-up (R127). -/
def awaitChime (c : Chime) (s : State) : State := s.onTone fun t => { t with chime := .waiting c }

/-- The chime voice becomes IDLE (R128, R130). -/
def stopChime (s : State) : State := s.onTone fun t => { t with chime := .idle }

/-- A key press asks for its click (R134, R135): none at volume 0, none while a chime holds the piezo. -/
def askClick (vs : Nat) (s : State) : State :=
  if vs = 0 ∨ s.piezoHeld then s
  else s.onTone fun t => { t with click := .playing (clickDuty vs) (s.after Config.click) }

end Sys2Proof.Machine
end

