-- ==== Sys2Proof/Machine/Display.lean ====
section
/-! DEFINITION. The Display Unit (chapter 7): prompt text, scrolling, blinking, the status line, icons, brightness,
and what the module shows of them. -/

namespace Sys2Proof.Machine

open Sys2Proof

/-! ### Characters the unit forms itself

R137 leaves the glyph of a code to the display module's font and the manual gives no codes: the codes of the digits, the
colon, the space and the capital letters are those of ASCII, DESIGN CHOICE, log 50. -/

/-- The character of a decimal digit, 0-9 (R140); its code, 48 for 0 and so on, is DESIGN CHOICE, log 50. -/
def digitChar (d : Nat) : Byte := byte (48 + d)

/-- The colon of h:mm (R140); its code 58 is DESIGN CHOICE, log 50. -/
def colonChar : Byte := byte 58

/-- The space (R137, R139, R144); its code 32 is DESIGN CHOICE, log 50. -/
def spaceChar : Byte := byte 32

/-! ### Texts -/

/-- The two digits of a number below 100; their codes are DESIGN CHOICE, log 50. -/
def twoDigits (n : Nat) : List Byte := [digitChar (n / 10), digitChar (n % 10)]

/-- A number below 100 in decimal without leading zeros (R140); the codes of the digits are DESIGN CHOICE, log 50. -/
def decimal (n : Nat) : List Byte := if n < 10 then [digitChar n] else twoDigits n

/-- Minutes as h:mm (R140); the codes of the digits and of the colon are DESIGN CHOICE, log 50. -/
def hoursMinutes (m : Nat) : List Byte := decimal (m / 60) ++ [colonChar] ++ twoDigits (m % 60)

/-- The started minutes of a number of seconds (R140, R145). -/
def startedMinutes (r : Nat) : Nat := (r + 59) / 60

/-- The fallback word of a class: ATTENTION, PLEASE ACT, INFO, NOTE (R36); the codes of its letters and its space are
DESIGN CHOICE, log 50. -/
def fallbackWord : Cls → List Byte
  | .safety => [65, 84, 84, 69, 78, 84, 73, 79, 78].map byte
  | .action => [80, 76, 69, 65, 83, 69, 32, 65, 67, 84].map byte
  | .status => [73, 78, 70, 79].map byte
  | .courtesy => [78, 79, 84, 69].map byte

/-- The word PHASE, a space and the phase id (R144); the codes of letters, space and digits are DESIGN CHOICE, log 50. -/
def phaseWord (id : Nat) : List Byte := [80, 72, 65, 83, 69].map byte ++ [spaceChar] ++ decimal id

/-- The characters of a piece (R139, R140); the codes of those the unit forms itself are DESIGN CHOICE, log 50. -/
def Piece.chars : Piece → List Byte
  | .text cs => cs
  | .number v => decimal v
  | .duration r => hoursMinutes (startedMinutes r)

/-- Words joined with one space between each and the next (R139); the space's code is DESIGN CHOICE, log 50. -/
def joinSpaced : List (List Byte) → List Byte
  | [] => []
  | [w] => w
  | w :: ws => w ++ [spaceChar] ++ joinSpaced ws

/-- The prompt text assembled from its pieces, at most 128 characters; the fallback word where none is left (R139). -/
def assembleText (cls : Cls) (pieces : List Piece) : List Byte :=
  let chars := (joinSpaced ((pieces.map Piece.chars).filter (· ≠ []))).take Config.textLimit
  if chars = [] then fallbackWord cls else chars

/-- The text a service posts on line 1, or none (R141). -/
def State.postedText (s : State) (e : Entry) (kind : Kind) (script : Script) : Option (List Byte) :=
  match kind with
  | .audible .speech => if e.channels.display then some (assembleText e.cls script.pieces) else none
  | .audible _ => some (fallbackWord e.cls)
  | .silent => if s.store.state = .ready then some (assembleText e.cls script.pieces) else some (fallbackWord e.cls)

/-! ### Scrolling (R138) -/

/-- A field's scroll cycle starts: position 0 and its first hold, where the text is longer than the field. -/
def Scroll.start (now length width : Nat) : Scroll :=
  if length ≤ width then ⟨0, none⟩ else ⟨0, some (Paced.begin now Config.scrollHold)⟩

/-- A hold or a step of a scroll ends now (R138): the next position is one of the same row, the return to 0 begins a new
one. -/
def Scroll.stepped (now length width : Nat) (sc : Scroll) (p : Paced) : Scroll :=
  let last := length - width
  if sc.pos < last then
    ⟨sc.pos + 1, some (p.next now (if sc.pos + 1 = last then Config.scrollHold else Config.scrollStep))⟩
  else ⟨0, some (Paced.begin now Config.scrollHold)⟩

/-- Length of the prompt text. -/
def Display.textLength (d : Display) : Nat :=
  match d.text with
  | some t => t.chars.length
  | none => 0

/-- The prompt field's cycle starts afresh. -/
def Display.restartLine1 (now : Nat) (d : Display) : Display :=
  { d with line1Scroll := Scroll.start now d.textLength Config.promptWidth }

/-- The phase field's cycle starts afresh. -/
def Display.restartPhase (now : Nat) (d : Display) : Display :=
  { d with phaseScroll := Scroll.start now d.phaseText.length Config.phaseWidth }

/-! ### Blinking (R143, R145) -/

/-- A blink mode with its phase started on. -/
def Blink.restart (now : Nat) : Blink → Blink
  | .steady => .steady
  | .safety _ _ => .safety true ⟨now + Config.slowBlink, Config.slowBlink⟩
  | .masked _ _ => .masked true ⟨now + Config.fastBlink, Config.fastBlink⟩

/-- The end of the blink phase of line 1. -/
def Blink.timer : Blink → Option Timer
  | .steady => none
  | .safety _ tm => some tm
  | .masked _ tm => some tm

/-- A half-period of line 1's blink ends now, and the next begins. -/
def Blink.toggled (now : Nat) : Blink → Blink
  | .steady => .steady
  | .safety on _ => .safety (!on) ⟨now + Config.slowBlink, Config.slowBlink⟩
  | .masked on _ => .masked (!on) ⟨now + Config.fastBlink, Config.fastBlink⟩

/-- The blink of the time field started on (R145). -/
def timeBlinkStart (now : Nat) : Option (Bool × Timer) := some (true, ⟨now + Config.slowBlink, Config.slowBlink⟩)

/-- The cycles that start afresh when the display returns to a shown mode (R138, R147, R181, log 23). -/
def Display.restartCycles (now : Nat) (d : Display) : Display :=
  { (d.restartLine1 now).restartPhase now with
    blink := d.blink.restart now
    timeBlink := d.timeBlink.bind fun _ => timeBlinkStart now }

/-! ### Postings -/

/-- The Prompt Sequencer posts the text of a service that starts (R141, R143). -/
def postText (text : Option (List Byte)) (cls : Cls) (s : State) : State :=
  match text with
  | none => s
  | some chars =>
    s.onDisplay fun d =>
      Display.restartLine1 s.now
        { d with
          text := some ⟨chars, cls⟩
          blink := if cls = .safety then .safety true (s.after Config.slowBlink) else .steady }

/-- The prompt text is removed (R141). -/
def removeText (s : State) : State :=
  s.onDisplay fun d => { d with text := none, line1Scroll := ⟨0, none⟩, blink := .steady }

/-- The Level Unit asks for the masked blink (R118, R143): nothing without a text, no restart in mode MASKED. -/
def askMaskedBlink (s : State) : State :=
  s.onDisplay fun d =>
    match d.text, d.blink with
    | none, _ => d
    | some _, .masked _ _ => d
    | some _, _ => { d with blink := .masked true (s.after Config.fastBlink) }

/-- The Reminder Unit posts the estimate and its running mark (R145). A paused field starts its blink when it becomes
paused, or when it is first shown paused (log 24). -/
def postEstimate (s : State) : State :=
  s.onDisplay fun d =>
    { d with
      timeShown := true
      minutes := startedMinutes s.rem.estimate
      paused := !s.rem.running
      timeBlink :=
        if s.rem.running then none
        else match d.timeBlink with
          | some b => some b
          | none => timeBlinkStart s.now }

/-- A decrement posts the new estimate (R145, R150). -/
def postDecrement (s : State) : State :=
  s.onDisplay fun d => { d with minutes := startedMinutes s.rem.estimate }

/-- The phase text of the phase ids held, and the reads that failed (R144). -/
def State.phaseLookup (s : State) (p : PhaseIds) : List Byte × Nat :=
  match s.store.state with
  | .ready =>
    match s.lookup p.phrase .text with
    | .present x => (x.text, 0)
    | .absent => ([], 0)
    | .failed => (phaseWord p.phase, 1)
  | _ => (phaseWord p.phase, 0)

/-- The phase text is looked up, again or for the first time (R144). -/
def lookUpPhase (s : State) : State :=
  match s.display.phase with
  | none => s
  | some p =>
    let r := s.phaseLookup p
    (readFailed r.2 s).onDisplay fun d => Display.restartPhase s.now { d with phaseText := r.1 }

/-- Brightness of a power mode (R147). -/
def brightnessOf : PowerMode → Nat
  | .active => 15
  | .dim => 4
  | .standby => 1
  | .sleep => 0

/-! ### What the module shows (R137, R145 to R147) -/

/-- The cell a character is shown in, as the code whose glyph stands there (R137): codes 0-31 show as a space, whose code is
DESIGN CHOICE, log 50. -/
def glyph (b : Byte) : Byte := if b.toNat < 32 then spaceChar else b

/-- A window of a text, filled with spaces (R137, R138); the space's code is DESIGN CHOICE, log 50. -/
def cells (text : List Byte) (pos width : Nat) : List Byte :=
  let shown := ((text.drop pos).take width).map glyph
  shown ++ List.replicate (width - shown.length) spaceChar

/-- The lines are shown in ACTIVE and DIM (R147). -/
def State.linesShown (s : State) : Bool := decide (s.power.mode = .active) || decide (s.power.mode = .dim)

/-- Line 1 in its blink phase is on (R143). -/
def Blink.on : Blink → Bool
  | .steady => true
  | .safety on _ => on
  | .masked on _ => on

/-- The 20 cells of line 1, or none where the power mode shows no lines. -/
def State.line1 (s : State) : Option (List Byte) :=
  if s.linesShown then
    some (match s.display.text with
      | some t => if s.display.blink.on then cells t.chars s.display.line1Scroll.pos Config.promptWidth
        else cells [] 0 Config.promptWidth
      | none => cells [] 0 Config.promptWidth)
  else none

/-- The time field's five cells, right-aligned (R145). -/
def State.timeField (s : State) : List Byte :=
  let on := match s.display.timeBlink with
    | some b => b.1
    | none => true
  if s.display.timeShown && on then
    let t := hoursMinutes s.display.minutes
    List.replicate (Config.timeWidth - t.length) spaceChar ++ t
  else cells [] 0 Config.timeWidth

/-- The 20 cells of line 2: phase field, separator, time field (R137). -/
def State.line2 (s : State) : Option (List Byte) :=
  if s.linesShown then
    some (cells s.display.phaseText s.display.phaseScroll.pos Config.phaseWidth ++ [spaceChar] ++ s.timeField)
  else none

/-- The six icons (R146); `volume` 0 is the struck-through speaker mark, `language` the digit shown. -/
structure Icons where
  power : Bool
  volume : Option Nat
  language : Option Nat
  speaking : Bool
  await : Bool
  speaker : Bool
deriving DecidableEq, Repr

/-- The entry in service. -/
def State.served (s : State) : Option Entry :=
  match s.seq.slot with
  | some v => s.seq.queue.find? fun e => e.tag = v.tag
  | none => none

/-- The icons as their owners hold them, before the power mode hides any (R146). -/
def State.iconStates (s : State) : Icons where
  power := decide (s.power.mode ≠ .sleep)
  volume := some s.panel.volume
  language := if (s.link.config.languages.list.filter id).length = 1 then none else some (s.panel.language + 1)
  speaking := match s.served with
    | some e => decide (e.state = .speaking)
    | none => false
  await := decide (s.panel.awaiting ≠ [])
  speaker := decide (s.power.result = .short) || decide (s.power.result = .open_)

/-- The icons the module shows (R147): POWER alone in STANDBY, none in SLEEP. -/
def State.icons (s : State) : Icons :=
  match s.power.mode with
  | .active => s.iconStates
  | .dim => s.iconStates
  | .standby => ⟨true, none, none, false, false, false⟩
  | .sleep => ⟨false, none, none, false, false, false⟩

end Sys2Proof.Machine
end

