-- ==== Sys2Proof/Machine/Power.lean ====
section
/-! DEFINITION. Power and Speaker Check (chapter 10): modes, activity, the mode timers, the amplifier, sleep and wake as
far as this block does them, and the speaker check. -/

namespace Sys2Proof.Machine

open Sys2Proof

/-! ### Modes and activity -/

/-- The power mode changes and is posted to the Display Unit (R147, R181). -/
def setMode (m : PowerMode) (s : State) : State :=
  if s.power.mode = m then s
  else
    (s.onPower fun p => { p with mode := m }).onDisplay fun d =>
      { (if m = .active then d.restartCycles s.now else d) with brightness := brightnessOf m }

/-- The dim and standby deadlines are held: the service slot holds an entry or a speaker check runs (R182). -/
def State.timersHeldNow (s : State) : Bool := s.seq.slot.isSome || decide (s.power.check ≠ .idle)

/-- Activity (R181); activity in SLEEP is a wake and is handled there. -/
def activity (s : State) : State :=
  if s.power.mode = .sleep then s
  else
    (setMode .active s).onPower fun p =>
      { p with
        standby := none
        dim := if s.timersHeldNow then p.dim else some (s.after Config.dim) }

/-- The standby deadline from now: the configured standby time in minutes, absent for 0 (R182). -/
def State.standbyFromNow (s : State) : Option Timer :=
  if s.link.config.standbyMinutes = 0 then none else some (s.after (s.link.config.standbyMinutes * Config.minute))

/-- The hold of the mode timers begins or ends with the slot and the check (R182). -/
def holdTimers (s : State) : State :=
  if s.timersHeldNow then s.onPower fun p => { p with timersHeld := true }
  else if s.power.timersHeld then
    match s.power.mode with
    | .active => s.onPower fun p => { p with timersHeld := false, dim := some (s.after Config.dim) }
    | .dim => s.onPower fun p => { p with timersHeld := false, standby := s.standbyFromNow }
    | _ => s.onPower fun p => { p with timersHeld := false }
  else s

/-- The entry to SLEEP is given up (R185). -/
def endAnnouncing (s : State) : State := s.onPower fun p => { p with announcing := false }

/-! ### Amplifier and speaker check -/

/-- A speaker check starts (R187): a warm-up where the amplifier is OFF, else the test at once. -/
def startCheck (powerOn : Bool) (s : State) : State :=
  if s.power.amp = .on then s.onPower fun p => { p with check := .test powerOn (s.after Config.checkTest) }
  else s.onPower fun p => { p with check := .warmUp powerOn, amp := .warming (s.after Config.warmUp) }

/-- The impedance in steps of 0.5 ohm, a half step rounded up, at most 31.5 ohm (R187). -/
def impedanceSteps (milliohms : Nat) : Nat := min 63 ((milliohms + 250) / 500)

/-- The result an impedance is classified into (R188), in steps of 0.5 ohm. -/
def classify (steps : Nat) : SpeakerResult :=
  if steps < 4 then .short else if steps ≤ 6 then .weak else if steps ≤ 31 then .ok
  else if steps ≤ 48 then .weak else .open_

/-- A result of SHORT or OPEN (R188). -/
def SpeakerResult.isFault (r : SpeakerResult) : Bool := decide (r = .short) || decide (r = .open_)

/-- A check ends with a result and an impedance (R188): its effects on the amplifier, the latch, the counter, and the
EVENT of a check that a SELFTEST cue asked for. -/
def endCheck (powerOn : Bool) (result : SpeakerResult) (steps : Nat) (s : State) : State :=
  let s1 := s.onPower fun p =>
    { p with
      check := .idle
      result := result
      impedance := steps
      amp := if result.isFault then .off else .on
      weakSpeaker := if result = .weak then bump p.weakSpeaker else p.weakSpeaker }
  if result.isFault then
    let s2 := latch (fun l => { l with speakerFault := true }) s1
    if powerOn then s2 else report (.event .speakerFault) s2
  else s1

/-- The diagnostic code of HELLO, formed from the present conditions (R198). -/
def State.diagnosticCode (s : State) : Byte :=
  let conds := (if s.store.state = .failed then [2] else []) ++ (if s.power.result.isFault then [3] else [])
    ++ (if s.hall.state = .fault .stuck then [4] else [])
  match conds with
  | [] => 0x01#8
  | [c] => byte c
  | c :: _ => byte (0x80 + c)

/-- HELLO is made (R198, R199). -/
def sayHello (s : State) : State := report (.hello s.diagnosticCode s.straps.station s.straps.zone) s

/-- HELLO is made, and the framer starts to take cues, when the later of the two start-up checks has ended (R198): it is
the first report of the empty queue, and the reports made before it follow (R195, log 43). -/
def helloIfChecked (s : State) : State :=
  if s.link.listening ∨ s.store.state = .checking ∨ s.power.check ≠ .idle then s
  else reportAll s.link.early (sayHello (s.onLink fun l => { l with listening := true, early := [] }))

end Sys2Proof.Machine
end

