-- ==== Sys2Proof/Machine/Service.lean ====
section
/-! DEFINITION. The prompt queue and the service slot (chapter 1), as far as they need no floor: order, entries,
capacity, the start of a service and the steps of its output. -/

namespace Sys2Proof.Machine

open Sys2Proof

/-! ### The queue (R4, R5) -/

/-- Entry `a` stands before entry `b` in queue order (R4). -/
def Entry.before (a b : Entry) : Bool :=
  decide (b.cls.val < a.cls.val)
    || (decide (a.cls = b.cls) && (decide (a.arrival < b.arrival)
      || (decide (a.arrival = b.arrival) && decide (a.made < b.made))))

/-- Put an entry at its place in queue order (R4). -/
def insertEntry (e : Entry) : List Entry → List Entry
  | [] => [e]
  | x :: xs => if e.before x then e :: x :: xs else x :: insertEntry e xs

/-- The entry that holds a tag. -/
def State.entry (s : State) (tag : Nat) : Option Entry := s.seq.queue.find? fun e => e.tag = tag

/-- The awaiting record that holds a tag. -/
def State.awaitingRecord (s : State) (tag : Nat) : Option Awaiting := s.panel.awaiting.find? fun a => a.tag = tag

/-- Change the entry of a tag where it stands. -/
def changeEntry (tag : Nat) (f : Entry → Entry) (s : State) : State :=
  s.onSeq fun q => { q with queue := q.queue.map fun e => if e.tag = tag then f e else e }

/-- A tag leaves the repeat list (R177). -/
def dropRepeat (tag : Nat) (s : State) : State :=
  s.onPanel fun p => { p with repeats := p.repeats.filter fun r => r.tag ≠ tag }

/-- An entry leaves the queue, and its tag the repeat list (R177). -/
def dropEntry (tag : Nat) (s : State) : State :=
  dropRepeat tag (s.onSeq fun q => { q with queue := q.queue.filter fun e => e.tag ≠ tag })

/-- A new entry joins the queue; an entry joining ends an entry to SLEEP (R4, R185). -/
def joinQueue (e : Entry) (s : State) : State :=
  endAnnouncing (s.onSeq fun q =>
    { q with queue := insertEntry { e with made := q.madeCount } q.queue, madeCount := q.madeCount + 1 })

/-- One internal drop is counted (R11, R13). -/
def countDrop (s : State) : State := s.onSeq fun q => { q with internalDrops := bump q.internalDrops }

/-- The victim of a full queue: of the QUEUED entries of the lowest class the one of the latest arrival, the last in
queue order, which is the last QUEUED entry of the queue (R11, R4). -/
def State.victim (s : State) : Option Entry := s.seq.queue.reverse.find? fun e => e.state = .queued

/-- The answer of the capacity check (R11). -/
inductive Capacity where
  | room
  | evict (victim : Entry)
  | full
deriving DecidableEq, Repr

/-- The capacity check for a new entry of a class (R11). -/
def State.capacity (s : State) (cls : Cls) : Capacity :=
  if s.seq.queue.length < Config.queueLimit then .room
  else
    match s.victim with
    | some v => if v.cls.val < cls.val then .evict v else .full
    | none => .full

/-- A victim is removed: DONE/DROPPED for a MACHINE entry, an internal drop for any other (R11). -/
def evict (v : Entry) (s : State) : State :=
  let s1 := dropEntry v.tag s
  if v.origin = .machine then report (.done v.tag .dropped) s1 else countDrop s1

/-! ### The service slot (R5) -/

/-- Change the service state of the slot. -/
def changeService (f : Service → Service) (s : State) : State := s.onSeq fun q => { q with slot := q.slot.map f }

/-- The slot empties: the service state is discarded, output stops where it stands and the prompt text is removed
(R5, R141). -/
def emptySlot (s : State) : State :=
  removeText (stopChime ((s.setSpeech .idle).onSeq fun q => { q with slot := none }))

/-- The entry in the slot returns to QUEUED with its stamp and its cut count, and the slot empties (R20, R21, R26). -/
def returnToQueue (s : State) : State :=
  match s.seq.slot with
  | some v => emptySlot (changeEntry v.tag (fun e => { e with state := .queued }) s)
  | none => s

/-! ### Output of an audible service (R22) -/

/-- An applied result (R115, R118, R119): the gain, and for a masked result the counter, the latch and the blink. -/
def applyLevel (r : LevelResult) (s : State) : State :=
  let s1 := s.onLevel fun l =>
    { l with lastG := r.gain, maskedPhrases := if r.masked then bump l.maskedPhrases else l.maskedPhrases }
  if r.masked then askMaskedBlink (latch (fun l => { l with masked := true }) s1) else s1

/-- The phrase id and language of a script item. -/
def ScriptItem.phraseOf : ScriptItem → Option (Nat × Nat)
  | .phrase p => some (p.id, p.language)
  | .pause _ => none

/-- The Speech Unit starts item `i` of the script (R49). -/
def startItem (items : List ScriptItem) (i : Nat) (s : State) : State :=
  match items[i]? with
  | some x => s.setSpeech (.playing i x.phraseOf s.now none)
  | none => s

/-- The chime voice's settings for a service (R127, R129). R124 lets a WAITING voice hold a pattern position too and names no
value before the pattern starts: the model puts step 0 with the instants 0, which `playChime` sets when the pattern starts and
nothing reads before (the model's choice, log 46). -/
def chimeFor (e : Entry) (route : Route) (script : Script) (r : LevelResult) (id : Nat) : Chime where
  id := id
  device := routeDevice route
  muted := chimeMuted e route script
  gain := r.gain
  duty := r.duty
  step := 0
  start := 0
  stepStart := 0

/-- Output first begins (R115, R127): the result of the start of service is applied, and the chime or the first item
starts. -/
def beginOutput (e : Entry) (route : Route) (script : Script) (r : LevelResult) (s : State) : State :=
  let s1 := changeService (fun v => { v with pendingLevel := none }) (applyLevel r s)
  match script.chime with
  | some id => playChime (chimeFor e route script r id) s1
  | none => startItem script.items 0 s1

/-- The amplifier must be warmed before a service of this route makes output (R22, R127, R183). -/
def State.needsWarmUp (s : State) (route : Route) : Bool := decide (route ≠ .piezo) && s.ampOff

/-- The warm-up of a service begins; the chime, if any, waits for its end (R127, R183). -/
def beginWarmUp (e : Entry) (route : Route) (script : Script) (r : LevelResult) (s : State) : State :=
  let s1 := s.onPower fun p => { p with amp := .warming (s.after Config.warmUp) }
  let s2 := changeService (fun v => { v with pendingLevel := some r }) s1
  match script.chime with
  | some id => awaitChime (chimeFor e route script r id) s2
  | none => s2

/-- An audible service starts (R22): the entry is SPEAKING without a deadline, activity, the text, the level, and then
the warm-up or the output. The slot already holds the entry with its script. -/
def startAudible (tag : Nat) (route : Route) (script : Script) (s : State) : State :=
  match s.entry tag with
  | none => s
  | some e =>
    let s1 := activity (changeEntry tag (fun x => { x with state := .speaking, deadline := none }) s)
    let s2 := postText (s1.postedText e (.audible route) script) e.cls s1
    let r := s2.computeLevel e.cls
    if s2.needsWarmUp route then beginWarmUp e route script r s2 else beginOutput e route script r s2

/-- A silent service starts (R28): the entry is SHOWING without a deadline, activity, the text, and 4,000 ms. -/
def startSilent (tag : Nat) (script : Script) (s : State) : State :=
  match s.entry tag with
  | none => s
  | some e =>
    let s1 := activity (changeEntry tag (fun x => { x with state := .showing, deadline := none }) s)
    let s2 := postText (s1.postedText e .silent script) e.cls s1
    changeService (fun v => { v with silentEnd := some (s.after Config.silentService) }) s2

/-- The Floor Unit tells the Sequencer "confirmed" (R21): the CLAIMING entry's service starts. -/
def seqConfirmed (s : State) : State :=
  match s.seq.slot with
  | some v =>
    match v.kind with
    | .audible route => startAudible v.tag route v.script s
    | .silent => s
  | none => s

/-! ### The Speech Unit (2.7) -/

/-- The script item being played. -/
def State.playedItem (s : State) : Option ScriptItem :=
  match s.speech, s.seq.slot with
  | .playing i _ _ _, some v => v.script.items[i]?
  | _, _ => none

/-- The end of the item being played (R50). -/
def State.itemTimer (s : State) : Option Timer :=
  match s.speech with
  | .playing _ _ start _ => s.playedItem.map fun x => ⟨start + x.ms, x.ms⟩
  | _ => none

/-- The phrase being played, with the instant of its start and the offset where a failed read ended its reading. -/
def State.playedPhrase (s : State) : Option (PhraseItem × Nat × Option Nat) :=
  match s.speech, s.playedItem with
  | .playing _ _ start stop, some (.phrase p) => some (p, start, stop)
  | _, _ => none

/-- The first read of a phrase's audio, made at its start, is answered (R51, log 36). -/
def State.firstReadAnswered (s : State) (p : PhraseItem) (start : Nat) : Bool :=
  s.store.flash.answers start p.audioAddress 1

/-- The wait for an answer to the first read of the phrase being played, where the read, made at the phrase's start, gets none:
its 5 ms run until they are told (R51, log 36). A phrase without audio is not read. -/
def State.firstReadWait (s : State) : Option Timer :=
  match s.playedPhrase with
  | some (p, start, none) =>
    if s.firstReadAnswered p start = true ∨ p.audioLength = 0 then none else some ⟨start + Config.readWait, Config.readWait⟩
  | _ => none

/-- The bytes of a phrase's audio that its duration leaves room for and its reading brings: up to the audio's length, 8
bytes to each millisecond of the duration (R50), up to the offset where a failed read ended the reading, and none where the
first read fails (R51). -/
def State.audioEnd (s : State) (p : PhraseItem) (start : Nat) (stop : Option Nat) : Nat :=
  if s.firstReadAnswered p start then
    min (stop.getD p.audioLength) (min p.audioLength (Config.audioBytesPerMs * p.duration))
  else 0

/-- The byte offset reached in the phrase's audio (2.7): 8 bytes a millisecond, up to the end of what is played (R50,
R51). -/
def State.byteOffset (s : State) : Option Nat :=
  s.playedPhrase.map fun x => min (s.audioEnd x.1 x.2.1 x.2.2) (Config.audioBytesPerMs * (s.now - x.2.1))

/-- The byte at offset `o` of a phrase's audio sounds when it falls due now: it is among those played, and it has been read
(R50, R51; log 36). -/
def State.byteSounds (s : State) (p : PhraseItem) (start : Nat) (stop : Option Nat) (o : Nat) : Bool :=
  decide (o < s.audioEnd p start stop) && Config.audioAtHand (p.audioAddress + o) s.now

/-- Phrase audio is driven now (R189): not a pause, not a gap, not the silence after the audio, after a failed read or for
bytes not yet read (R50, R51). -/
def State.drivingPhrase (s : State) : Bool :=
  match s.playedPhrase with
  | some x => s.byteSounds x.1 x.2.1 x.2.2 (Config.audioBytesPerMs * (s.now - x.2.1))
  | none => false

/-- A sounding chime drives a note on the loudspeaker now (R189, log 21). -/
def State.drivingChime (s : State) : Bool :=
  match s.tone.chime with
  | .playing c => decide (c.device = .speaker) && !c.muted && (s.tone.chime.divider).isSome
  | _ => false

/-- The amplifier drives output for a service (R189): a chime on the loudspeaker, script items, or the gaps between. -/
def State.drivingService (s : State) : Bool :=
  decide (s.power.amp = .on)
    && (decide (s.speech ≠ .idle)
      || match s.tone.chime with
        | .playing c => decide (c.device = .speaker)
        | _ => false)

end Sys2Proof.Machine
end

