-- ==== Sys2Proof/Machine/Hall.lean ====
section
/-! DEFINITION. The transmit list of the Hall Line Port and the content of own frames (3.3, R60, R61, R74). -/

namespace Sys2Proof.Machine

open Sys2Proof

/-- A frame of the list is a CLAIM. -/
def TxEntry.isClaim (x : TxEntry) : Bool :=
  match x.frame with
  | .claim _ => true
  | _ => false

/-- A frame of the list is a RELEASE. -/
def TxEntry.isRelease (x : TxEntry) : Bool :=
  match x.frame with
  | .release _ _ => true
  | _ => false

/-- A frame of the list is a PRESENCE. -/
def TxEntry.isPresence (x : TxEntry) : Bool :=
  match x.frame with
  | .presence _ => true
  | _ => false

/-- A frame of the list is a PRESENCE of one kind. -/
def TxEntry.isPresenceOf (k : PresenceKind) (x : TxEntry) : Bool := decide (x.frame = .presence k)

/-- A frame waits in the list: it is not the one on the line. -/
def TxEntry.waits (x : TxEntry) : Bool := !x.driving

/-- The hall state is FAULT. -/
def HallState.isFault : HallState → Bool
  | .fault _ => true
  | _ => false

/-- The hall state is LISTEN_IN or ON: the station takes part on the line (3.5). -/
def HallState.isUp : HallState → Bool
  | .listenIn _ => true
  | .on => true
  | _ => false

/-- The list after a CLAIM or RELEASE is handed over: in FAULT it is discarded at once (R60). -/
def handFrame (f : TxFrame) (s : State) : State :=
  if s.hall.state.isFault then s else s.onHall fun h => { h with txList := h.txList ++ [⟨f, false⟩] }

/-- The list after a PRESENCE is handed over (R60): it replaces the one the list holds and is the newest, but a final
PRESENCE is not replaced, and the one that meets it is discarded (log 16). The list so holds at most one PRESENCE; a
heartbeat on the line that is replaced runs on to its end (log 32). -/
def joinPresence (k : PresenceKind) (l : List TxEntry) : List TxEntry :=
  if l.any fun x => x.isPresenceOf .final then l else (l.filter fun x => !x.isPresence) ++ [⟨.presence k, false⟩]

/-- A PRESENCE is handed to the transmit list (R60, R73). -/
def handPresence (k : PresenceKind) (s : State) : State := s.onHall fun h => { h with txList := joinPresence k h.txList }

/-- The first frame to be served: RELEASE before CLAIM before PRESENCE, the oldest of a kind first (R60). -/
def firstFrame (l : List TxEntry) : Option TxFrame :=
  match l.find? TxEntry.isRelease with
  | some x => some x.frame
  | none =>
    match l.find? TxEntry.isClaim with
    | some x => some x.frame
    | none => (l.find? TxEntry.isPresence).map TxEntry.frame

/-- Mark the first frame of the list that equals `f` as the one on the line. -/
def markDriving (f : TxFrame) : List TxEntry → List TxEntry
  | [] => []
  | x :: xs => if x.frame = f then { x with driving := true } :: xs else x :: markDriving f xs

/-- The frame of the list that is on the line. -/
def HallPort.driven (h : HallPort) : Option TxFrame := (h.txList.find? TxEntry.driving).map TxEntry.frame

/-- The frame on the line stays in the list and waits again (R61, R62, R70). -/
def undriven (l : List TxEntry) : List TxEntry := l.map fun x => { x with driving := false }

/-- The frame on the line leaves the list (R63). -/
def withoutDriven (l : List TxEntry) : List TxEntry := l.filter TxEntry.waits

/-- The power mode a PRESENCE announces (R74). -/
def presenceMode : PowerMode → PresenceMode
  | .active => .active
  | .dim => .dim
  | .standby => .standby
  | .sleep => .sleeping

/-- The content a PRESENCE takes at its start (R74, R68, R71). -/
def State.presenceContent (s : State) (k : PresenceKind) : PresenceFrame where
  station := BitVec.ofNat 5 s.straps.station
  zone := BitVec.ofNat 3 s.straps.zone
  mode := if k = .final then .sleeping else presenceMode s.power.mode
  holding := decide (k ≠ .final) && decide (s.floor.own.state = .holding)
  hallState := if k = .recovery then .listenIn else if s.hall.state = .on then .on else .listenIn

/-- The frame that goes on the line for a frame of the list (R61, R74, R89). -/
def State.frameFor (s : State) : TxFrame → HallFrame
  | .claim c =>
    .claim
      { station := BitVec.ofNat 5 s.straps.station, zone := BitVec.ofNat 3 s.straps.zone, cls := c.cls
        bucket := BitVec.ofNat 4 c.bucket, length := BitVec.ofNat 8 c.length, seq := BitVec.ofNat 4 c.seq }
  | .release seq o =>
    .release
      { station := BitVec.ofNat 5 s.straps.station, zone := BitVec.ofNat 3 s.straps.zone, seq := BitVec.ofNat 4 seq
        outcome := o }
  | .presence k => .presence (s.presenceContent k)

end Sys2Proof.Machine
end

