-- ==== Sys2Proof/Machine/Floor.lean ====
section
/-! DEFINITION. The Floor Unit (chapter 4): live claims, the examination of a zone, the own claim from its request to its
release, preemption and overlap. -/

namespace Sys2Proof.Machine

open Sys2Proof

/-! ### Changing the view -/

/-- Change the record of a peer. -/
def changePeer (station : Nat) (f : Peer → Peer) (s : State) : State :=
  s.onFloor fun u => { u with peers := u.peers.map fun p => if p.station = station then f p else p }

/-- Change the own live claim. -/
def changeOwnClaim (f : LiveClaim → LiveClaim) (s : State) : State := s.onOwn fun o => { o with claim := o.claim.map f }

/-- The own live claim leaves the own record. -/
def clearOwnClaim (s : State) : State := s.onOwn fun o => { o with claim := none, released := false }

/-- The expiry of a claim confirmed now: its length and 1,000 ms (R85). -/
def State.confirmedExpiry (s : State) (c : LiveClaim) : Timer := s.after (c.length * 100 + Config.expiryMargin)

/-- A claim confirmed now (R85). -/
def State.confirmedClaim (s : State) (c : LiveClaim) : LiveClaim :=
  { c with confirmed := true, expiry := s.confirmedExpiry c }

/-- RELEASE(WITHDRAWN) for the own live claim is handed over, and the claim is a released one (R88, R92, R94). -/
def releaseWithdrawn (seq : Nat) (s : State) : State :=
  (handFrame (.release seq .withdrawn) s).onOwn fun o => { o with released := true }

/-- The own claim is lost: the own floor state becomes FREE, the counter moves, and the Sequencer is told (R92, R21). -/
def claimLost (s : State) : State :=
  returnToQueue
    ((s.onFloor fun u => { u with claimsLost := bump u.claimsLost }).onOwn fun o => { o with state := .free })

/-! ### Examination of a zone (R85) -/

/-- The own claim is confirmed (R91); a released claim's confirmation changes no own floor state (R88). -/
def confirmOwn (s : State) : State :=
  let s1 := changeOwnClaim s.confirmedClaim s
  if s.floor.own.state = .claiming ∧ s.floor.own.released = false then
    seqConfirmed
      ((s1.onFloor fun u => { u with claimsConfirmed := bump u.claimsConfirmed }).onOwn fun o =>
        { o with state := .holding })
  else s1

/-- The claim of a station is confirmed (R85). -/
def confirmClaim (station : Nat) (s : State) : State :=
  if station = s.straps.station then confirmOwn s
  else
    changePeer station (fun p => { p with claim := p.claim.map s.confirmedClaim, lastConfirmed := some s.now }) s

/-- Steps 1 and 2 of the examination (R85): without a holder the top-ranked claim is confirmed, once its settle window
has ended. Where that window still runs nobody is confirmed now, not the waiting own claim either, whose own window is over;
R92's special situation leaves that claim to the end of the window (the model follows R85's steps by its choice, log 51). -/
def confirmTop (z : Nat) (s : State) : State :=
  if (s.holderOf z).isSome then s
  else
    match topClaim (s.claimsIn z) with
    | some x => if x.2.windowEnded s.now then confirmClaim x.1 s else s
    | none => s

/-- The own claim is outranked in its zone by a live claim of the view (R92). -/
def State.ownOutranked (s : State) (c : LiveClaim) : Bool :=
  s.peerClaims.any fun x => decide (x.2.zone = c.zone) && (x.2.rankKey x.1).outranks (c.rankKey s.straps.station)

/-- Step 3 of the examination (R85, R92): an unconfirmed own claim of the zone, its window ended, that is outranked is
lost; a released claim is not lost again (R88). It is lost at once also to a claim whose settle window still runs, as when the
holder's RELEASE is heard within that window; the special situations of R85 and R92 decide it at the end of that window (the
model follows R85's steps by its choice, log 51). -/
def decideLoss (z : Nat) (s : State) : State :=
  match s.floor.own.claim with
  | some c =>
    if c.zone = z ∧ c.confirmed = false ∧ s.floor.own.released = false ∧ c.windowEnded s.now = true
        ∧ s.ownOutranked c = true then
      claimLost (releaseWithdrawn (c.seq.getD 0) s)
    else s
  | none => s

/-- An examination of a zone (R85). -/
def examine (z : Nat) (s : State) : State := decideLoss z (confirmTop z s)

/-- A live claim of a peer is removed and its zone is examined (R84). -/
def removePeerClaim (station : Nat) (s : State) : State :=
  match (s.peer station).bind Peer.claim with
  | some c => examine c.zone (changePeer station (fun p => { p with claim := none }) s)
  | none => s

/-- The own live claim is removed and its zone is examined (R84). -/
def removeOwnClaim (s : State) : State :=
  match s.floor.own.claim with
  | some c => examine c.zone (clearOwnClaim s)
  | none => s

/-! ### Preemption (R98, R99) -/

/-- A preempted claim: flagged, its expiry stamp the earlier of its present expiry and the end of the grace (R98). The other of
the two still bounds the claim's end (R1, log 47); a second preemption cannot extend the grace, so the first one's bound
stays. -/
def LiveClaim.preempted (heard : Nat) (c : LiveClaim) : LiveClaim :=
  let grace : Timer := ⟨heard + Config.grace, Config.grace⟩
  if grace.due < c.expiry.due then { c with preemptPending := true, expiry := grace, outer := some c.expiry }
  else { c with preemptPending := true, outer := some (c.outer.getD grace) }

/-- The preemption test for a CLAIM of a class heard in a zone (R98): a confirmed claim of strictly lower class is
preempted; PRESUMED takes no part (R87). The own holder gets a PREEMPT notice (R99). -/
def preempt (z : Nat) (cls : Cls) (heard : Nat) (s : State) : State :=
  match s.holderOf z with
  | none => s
  | some x =>
    match x.2.cls with
    | .presumed => s
    | .heard c =>
      if c.val < cls.val then
        if x.1 = s.straps.station then
          let s1 := changeOwnClaim (LiveClaim.preempted heard) s
          if s.floor.own.state = .holding then changeService (fun v => { v with preempt := true }) s1 else s1
        else changePeer x.1 (fun p => { p with claim := p.claim.map (LiveClaim.preempted heard) }) s
      else s

/-! ### The own claim -/

/-- A live claim made from a CLAIM frame heard at an instant (R81, R90). -/
def heardClaim (zone : Nat) (cls : Cls) (bucket length seq heard : Nat) : LiveClaim where
  zone := zone
  cls := .heard cls
  bucket := bucket
  length := length
  seq := some seq
  heard := heard
  settled := false
  confirmed := false
  expiry := ⟨heard + Config.settleWindow + length * 100 + Config.expiryMargin,
    Config.settleWindow + length * 100 + Config.expiryMargin⟩
  preemptPending := false
  outer := none

/-- A claim request of the Sequencer (R89): the CLAIM frame is made at once; it is held as the pending claim while the
outgoing claim of an earlier request is still on the line, taken back. -/
def requestClaim (cls : Cls) (arrival length : Nat) (s : State) : State :=
  let c : ClaimContent := ⟨cls, s.bucketOf arrival, length, s.floor.own.nextSeq⟩
  let s1 := s.onOwn fun o => { o with state := .claiming, gapEnd := none, nextSeq := (o.nextSeq + 1) % 16 }
  if s.floor.own.outgoing.isSome then s1.onOwn fun o => { o with pendingClaim := some c }
  else handFrame (.claim c) (s1.onOwn fun o => { o with outgoing := some ⟨c, .no⟩ })

/-- The earlier outgoing claim has been cleared: a pending claim becomes the outgoing one and is handed over (R89). -/
def promotePending (s : State) : State :=
  match s.floor.own.pendingClaim with
  | some c => handFrame (.claim c) (s.onOwn fun o => { o with pendingClaim := none, outgoing := some ⟨c, .no⟩ })
  | none => s

/-- The own CLAIM has left the list unsent (R60, R92, R94). -/
def claimUnsent (s : State) : State :=
  match s.floor.own.outgoing with
  | some o =>
    let s1 := s.onOwn fun w => { w with outgoing := none }
    match o.takenBack with
    | .outranked => claimLost s1
    | _ => promotePending s1
  | none => s

/-- The Floor Unit takes back its CLAIM (R60): a waiting one leaves the list unsent; one on the line runs on, marked. -/
def takeBack (why : TakenBack) (s : State) : State :=
  let s1 := s.onOwn fun o => { o with outgoing := o.outgoing.map fun x => { x with takenBack := why } }
  if s.hall.txList.any fun x => x.isClaim && x.driving then s1
  else claimUnsent (s1.onHall fun h => { h with txList := h.txList.filter fun x => !x.isClaim })

/-- A withdrawal (R94): the Sequencer gives up the claim of an entry that has left the slot. -/
def withdraw (s : State) : State :=
  if s.floor.own.state ≠ .claiming then s
  else
    let s1 := s.onOwn fun o => { o with state := .free }
    match s.floor.own.pendingClaim, s.floor.own.outgoing, s.floor.own.claim with
    | some _, _, _ => s1.onOwn fun o => { o with pendingClaim := none }
    | none, some _, _ => takeBack .withdrawn s1
    | none, none, some c => if s.floor.own.released then s1 else releaseWithdrawn (c.seq.getD 0) s1
    | none, none, none => s1

/-- The sequence of the claim a RELEASE is for: the own live claim's, or, where that has expired, the last value the
own sequence counter gave (R95). -/
def OwnFloor.releaseSeq (o : OwnFloor) : Nat :=
  match o.claim with
  | some c => c.seq.getD 0
  | none => (o.nextSeq + 15) % 16

/-- A release of the floor this station holds (R95); in any other state it makes no frame. -/
def releaseFloor (outcome : ReleaseOutcome) (s : State) : State :=
  if s.floor.own.state ≠ .holding then s
  else
    (handFrame (.release s.floor.own.releaseSeq outcome) s).onOwn fun o =>
      { o with
        released := o.claim.isSome
        state := if outcome = .complete then .gap else .free
        gapEnd := if outcome = .complete then some (s.after Config.turnGap) else none }

/-- The own CLAIM goes through (R90, R92, R94). -/
def ownClaimHeard (s : State) : State :=
  match s.floor.own.outgoing with
  | none => s
  | some o =>
    let c := heardClaim s.straps.zone o.content.cls o.content.bucket o.content.length o.content.seq s.now
    let s1 := (s.onFloor fun u => { u with claimsSent := bump u.claimsSent }).onOwn fun w =>
      { w with claim := some c, released := false, outgoing := none }
    let s2 := preempt s.straps.zone o.content.cls s.now s1
    let s3 := match o.takenBack with
      | .no => s2
      | .outranked => claimLost (releaseWithdrawn o.content.seq s2)
      | .withdrawn => releaseWithdrawn o.content.seq s2
    let s4 := if s.floor.own.claim.isSome then examine s.straps.zone s3 else s3
    promotePending s4

/-- The own RELEASE goes through (R96): the own live claim of that sequence is removed and the zone is examined. -/
def ownReleaseHeard (seq : Nat) (s : State) : State :=
  match s.floor.own.claim with
  | some c => if c.seq = some seq then examine s.straps.zone (clearOwnClaim s) else s
  | none => s

/-- The own live claim reaches its expiry (R83, R88, R93, R99). -/
def ownClaimExpired (s : State) : State :=
  match s.floor.own.claim with
  | none => s
  | some c =>
    let s1 := removeOwnClaim s
    if s.floor.own.state = .claiming ∧ s.floor.own.released = false then
      claimLost (handFrame (.release (c.seq.getD 0) .withdrawn) s1)
    else s1

/-- Entry to FAULT (R106): the own claim is given up without a frame, in every form; a CLAIMING entry returns to QUEUED
(R20), and the own floor state becomes FREE. -/
def floorFault (s : State) : State :=
  let s1 := if s.floor.own.state = .claiming then returnToQueue s else s
  removeOwnClaim (s1.onOwn fun o =>
    { o with state := .free, gapEnd := none, outgoing := none, pendingClaim := none, released := false })

/-! ### Frames of peers -/

/-- A peer record made by its first good frame (R75). -/
def newPeer (station zone heard : Nat) (presence : Presence) : Peer where
  station := station
  zone := zone
  presence := presence
  lastHeard := heard
  claim := none
  lastConfirmed := none

/-- Put a record into the view in station order. -/
def insertPeer (p : Peer) : List Peer → List Peer
  | [] => [p]
  | x :: xs => if p.station < x.station then p :: x :: xs else x :: insertPeer p xs

/-- A good frame from a peer makes or updates its record (R75, R76). -/
def hearPeer (station zone : Nat) (presence : Presence) (s : State) : State :=
  match s.peer station with
  | none => s.onFloor fun u => { u with peers := insertPeer (newPeer station zone s.now presence) u.peers }
  | some _ => changePeer station (fun p => { p with zone := zone, presence := presence, lastHeard := s.now }) s

/-- This station's CLAIM still waits for the same zone and the new claim outranks it: it is taken back (R81 step 4). -/
def takeBackIfOutranked (zone : Nat) (c : LiveClaim) (station : Nat) (s : State) : State :=
  match s.floor.own.outgoing with
  | some o =>
    if zone = s.straps.zone ∧ o.takenBack = .no
        ∧ (c.rankKey station).outranks ⟨o.content.cls.val, o.content.bucket, s.straps.station⟩ = true then
      takeBack .outranked s
    else s
  | none => s

/-- A good CLAIM frame from a peer (R81). -/
def hearClaim (f : ClaimFrame) (s : State) : State :=
  let station := f.station.toNat
  let old := (s.peer station).bind Peer.claim
  let c := heardClaim f.zone.toNat f.cls f.bucket.toNat f.length.toNat f.seq.toNat s.now
  let s1 := changePeer station (fun p => { p with claim := some c }) (hearPeer station f.zone.toNat .present s)
  let s2 := preempt f.zone.toNat f.cls s.now s1
  let s3 := takeBackIfOutranked f.zone.toNat c station s2
  match old with
  | some o => examine o.zone s3
  | none => s3

/-- A RELEASE of this sequence removes this claim: its sequence matches, or it is PRESUMED (R82). -/
def LiveClaim.releasedBy (c : LiveClaim) (seq : Nat) : Bool := decide (c.cls = .presumed) || decide (c.seq = some seq)

/-- A good RELEASE frame from a peer (R82). -/
def hearRelease (f : ReleaseFrame) (s : State) : State :=
  let station := f.station.toNat
  let s1 := hearPeer station f.zone.toNat .present s
  match (s1.peer station).bind Peer.claim with
  | some c => if c.releasedBy f.seq.toNat then removePeerClaim station s1 else s1
  | none => s1

/-- The expiry of a PRESUMED claim from its last holding PRESENCE (R87). -/
def State.presumedExpiry (s : State) : Timer := s.after Config.presumedLife

/-- A PRESUMED claim (R87). -/
def State.presumedClaim (s : State) (zone : Nat) (confirmed : Bool) : LiveClaim where
  zone := zone
  cls := .presumed
  bucket := 15
  length := 255
  seq := none
  heard := s.now
  settled := true
  confirmed := confirmed
  expiry := s.presumedExpiry
  preemptPending := false
  outer := none

/-- The test for overlap made on a PRESENCE (R101, R102): counted and latched, and the higher station number gets the
OVERLAP notice. A claim that the sender left behind in another zone (R79) is not the confirmed claim of this one. -/
def testOverlap (f : PresenceFrame) (s : State) : State :=
  let confirmed := match (s.peer f.station.toNat).bind Peer.claim with
    | some c => c.confirmed && decide (c.zone = s.straps.zone)
    | none => false
  if s.floor.own.state = .holding ∧ f.holding = true ∧ f.zone.toNat = s.straps.zone ∧ f.mode ≠ .sleeping
      ∧ confirmed = false then
    let s1 := latch (fun l => { l with overlap := true }) (s.onFloor fun u => { u with overlaps := bump u.overlaps })
    if f.station.toNat < s.straps.station then changeService (fun v => { v with overlap := true }) s1 else s1
  else s

/-- A holding PRESENCE makes or renews a PRESUMED claim, one without the flag removes it (R87). -/
def applyPresence (f : PresenceFrame) (s : State) : State :=
  let station := f.station.toNat
  match (s.peer station).bind Peer.claim with
  | none =>
    if f.holding then
      let confirmed := (s.holderOf f.zone.toNat).isNone
      examine f.zone.toNat
        (changePeer station (fun p =>
          { p with
            claim := some (s.presumedClaim f.zone.toNat confirmed)
            lastConfirmed := if confirmed then some s.now else p.lastConfirmed }) s)
    else s
  | some c =>
    if c.cls = .presumed then
      if f.holding then
        changePeer station (fun p =>
          { p with
            claim := some { c with expiry := s.presumedExpiry }
            lastConfirmed := if c.confirmed then some s.now else p.lastConfirmed }) s
      else removePeerClaim station s
    else s

/-- A good PRESENCE frame from a peer (R76, R87, R101). One that announces SLEEPING removes the peer's claim and makes
none (log 17). -/
def hearPresence (f : PresenceFrame) (s : State) : State :=
  let station := f.station.toNat
  if f.mode = .sleeping then removePeerClaim station (hearPeer station f.zone.toNat .asleep s)
  else applyPresence f (testOverlap f (hearPeer station f.zone.toNat .present s))

/-- A PRESENT peer becomes LOST (R77). -/
def peerBecomesLost (station : Nat) (s : State) : State :=
  removePeerClaim station
    (latch (fun l => { l with peerLost := true }) (changePeer station (fun p => { p with presence := .lost }) s))

/-- The view is cleared, with the own record but for its sequence counter (R78, R108). -/
def clearView (s : State) : State :=
  s.onFloor fun u => { u with peers := [], own := { OwnFloor.reset with nextSeq := u.own.nextSeq } }

end Sys2Proof.Machine
end

