-- ==== Sys2Proof/Machine/Sequencer.lean ====
section
/-! DEFINITION. The Prompt Sequencer (chapter 1): selection, boundaries and cuts, the end of a service, removals, and the
ways an entry is made. -/

namespace Sys2Proof.Machine

open Sys2Proof

/-! ### Selection (R17, R18) -/

/-- The route of an audible service selected now (R18). -/
def State.routeNow (s : State) : Route :=
  if s.power.result.isFault then .piezo else if s.store.state = .failed then .fallback else .speech

/-- The kind of service an entry gets when it is selected now (R18). -/
def State.kindFor (s : State) (e : Entry) : Kind :=
  if e.channels = ⟨false, false, true⟩ then .silent
  else if effectiveVolume e.cls s.panel.volume = 0 then .silent
  else if s.hall.state.isFault = true ∧ e.cls.val ≤ 1 then .silent
  else .audible s.routeNow

/-- A recovery attempt has fallen due and has neither succeeded nor failed (R17, R20). -/
def Recovery.open_ : Recovery → Bool
  | .waiting => true
  | .attempting _ => true
  | _ => false

/-- The hall state and the floor permit an audible service of an entry now (R17). -/
def State.audiblePermitted (s : State) (e : Entry) : Bool :=
  !s.hall.recovery.open_
    && match s.hall.state with
      | .off => true
      | .fault _ => true
      | .listenIn _ => decide (e.cls = .safety) && !s.outranked e.cls e.arrival
      | .on => !s.outranked e.cls e.arrival

/-- An entry is eligible for selection (R17); one whose deadline lies behind, whatever R1 allows, is as good as removed and
is taken no more (R16, log 2). -/
def State.eligible (s : State) (e : Entry) : Bool :=
  decide (e.state = .queued) && !lateAt e.deadline s.now && !s.seq.mask.masks e.cls && decide (s.power.check = .idle)
    && (decide (s.floor.own.state ≠ .gap) || decide (e.cls = .safety))
    && match s.kindFor e with
      | .silent => true
      | .audible _ => s.audiblePermitted e

/-- The slot takes an entry with its kind of service and its script (R5, R18). -/
def fillSlot (tag : Nat) (kind : Kind) (c : Composed) (s : State) : State :=
  countComposition c (s.onSeq fun q =>
    { q with
      slot := some
        { tag := tag, kind := kind, script := c.script, preempt := false, overlap := false, removal := none
          pendingLevel := none, silentEnd := none } })

/-- The slot takes an entry (R18): a silent one is shown, an audible one claims, or is spoken at once in OFF and
FAULT. -/
def takeEntry (e : Entry) (s : State) : State :=
  let kind := s.kindFor e
  let c := s.compose e kind
  let s1 := fillSlot e.tag kind c s
  match kind with
  | .silent => startSilent e.tag c.script s1
  | .audible route =>
    if s.hall.state.isUp then
      requestClaim e.cls e.arrival c.script.estimate (changeEntry e.tag (fun x => { x with state := .claiming }) s1)
    else startAudible e.tag route c.script s1

/-- Selection (R18): with the slot empty, the first eligible entry in queue order is taken. The instant at which the queue
has been asked is kept for the wait bucket's steps (R103). -/
def select (s : State) : State :=
  match s.seq.slot with
  | some _ => s
  | none =>
    let s1 := s.onSeq fun q => { q with askedAt := s.now }
    match s.seq.queue.find? s.eligible with
    | some e => takeEntry e s1
    | none => s1

/-- The question whether an entry is outranked is asked of it: QUEUED, with an audible service ahead, in LISTEN_IN and ON
(R17, R103). -/
def State.asksFor (s : State) (e : Entry) : Bool :=
  decide (e.state = .queued) && s.hall.state.isUp
    && match s.kindFor e with
      | .silent => false
      | .audible _ => true

/-- The next whole 2,000 ms of an entry's waiting time at which its wait bucket grows, after the selection last asked; at
bucket 15 none (R103). -/
def State.bucketTimer (s : State) (e : Entry) : Option Timer :=
  let k := bucketAt s.seq.askedAt e.arrival + 1
  if k ≤ 15 then some ⟨e.arrival + Config.bucketStep * k, Config.bucketStep⟩ else none

/-- A further whole 2,000 ms of an entry's waiting time has been reached since the selection last asked (R103). The bucket
reads the timebase itself (R89), so its step is not taken early. -/
def State.bucketGrown (s : State) (e : Entry) : Bool :=
  s.asksFor e && match s.bucketTimer e with
    | some tm => decide (tm.due ≤ s.now)
    | none => false

/-! ### Recovery attempts and the slot (R20, R68) -/

/-- The service slot holds an entry that is SPEAKING. -/
def State.slotSpeaks (s : State) : Bool :=
  match s.served with
  | some e => decide (e.state = .speaking)
  | none => false

/-- A recovery attempt starts: one PRESENCE is placed in the transmit list (R68). -/
def startAttempt (s : State) : State :=
  handPresence .recovery (s.onHall fun h => { h with recovery := .attempting s.now })

/-- An attempt that has waited for a service without a claim starts as soon as the slot no longer holds it (R20). -/
def startWaitingRecovery (s : State) : State :=
  if s.hall.recovery = .waiting ∧ s.slotSpeaks = false then startAttempt s else s

/-- What follows every step that can change the slot, the output or what is eligible: a waiting recovery attempt, the
selection, the sample hold and the hold of the mode timers (R18, R20, R111, R182). Nothing of it runs in SLEEP. The
selection that a removal (R29), a firing (R13) or a removal inside a session end (R167) asks for runs here, once, after the
last step of the command's own rule: at what point within those steps it runs the manual leaves open (the model's choice,
log 41). -/
def conclude (s : State) : State :=
  if s.awake then holdTimers (holdSampling (select (startWaitingRecovery s))) else s

/-! ### Entries that leave (R25, R27, R29, R175) -/

/-- An entry leaves the queue; a MACHINE entry is answered with DONE (R29). -/
def leaveWith (e : Entry) (outcome : DoneOutcome) (s : State) : State :=
  reportDone e.origin e.tag outcome (dropEntry e.tag s)

/-- A service stops and its entry is removed with the stored outcome (R23, R26, R29). -/
def stopRemoved (e : Entry) (outcome : DoneOutcome) (s : State) : State :=
  leaveWith e outcome (emptySlot (releaseFloor .cut s))

/-- A cut (R25). -/
def cutEntry (e : Entry) (s : State) : State :=
  let s1 := (emptySlot (releaseFloor .cut s)).onSeq fun q => { q with cuts := bump q.cuts }
  let count := min 3 (e.cutCount + 1)
  if e.cls.val ≤ 1 ∧ count = 3 then leaveWith e .cutOut s1
  else changeEntry e.tag (fun x => { x with state := .queued, cutCount := count, deadline := none }) s1

/-- A QUEUED entry of strictly higher, unmasked class waits (R24). -/
def State.higherWaits (s : State) (e : Entry) : Bool :=
  s.seq.queue.any fun x => decide (x.state = .queued) && decide (e.cls.val < x.cls.val) && !s.seq.mask.masks x.cls

/-- A boundary (R22, R23): the level is computed; then a pending removal stops the service, a notice or a higher class
cuts it, and otherwise it goes on with that level. -/
def atBoundary (e : Entry) (v : Service) (goOn : LevelResult → State → State) (s : State) : State :=
  let r := s.computeLevel e.cls
  match v.removal with
  | some o => stopRemoved e o s
  | none => if v.preempt || v.overlap || s.higherWaits e then cutEntry e s else goOn r s

/-- An awaiting record leaves (R175). -/
def dropAwaiting (tag : Nat) (s : State) : State :=
  s.onPanel fun p => { p with awaiting := p.awaiting.filter fun a => a.tag ≠ tag }

/-- An awaiting record is removed and its prompt answered (R30, R176, R178, R179). -/
def answerAwaiting (tag : Nat) (outcome : DoneOutcome) (s : State) : State :=
  report (.done tag outcome) (dropAwaiting tag s)

/-- The awaiting record of an entry that completes now (R27, R175). -/
def State.recordFor (s : State) (e : Entry) : Awaiting where
  tag := e.tag
  cls := e.cls
  template := e.template
  param1 := e.param1
  param2 := e.param2
  channels := e.channels
  repeatsLeft := e.repeatsLeft
  repeatInterval := e.repeatInterval
  spokenAt := s.now
  repeatDue := s.after (e.repeatInterval * 1000)

/-- A completing entry makes its awaiting record; of four records the oldest leaves first, UNACKNOWLEDGED (R175). -/
def makeAwaiting (e : Entry) (s : State) : State :=
  let s1 :=
    if s.panel.awaiting.length < Config.awaitingLimit then s
    else
      match s.panel.awaiting with
      | a :: _ => answerAwaiting a.tag .unacknowledged s
      | [] => s
  s1.onPanel fun p => { p with awaiting := p.awaiting ++ [s.recordFor e] }

/-- An entry is complete (R27). -/
def completeEntry (e : Entry) (s : State) : State :=
  let s1 :=
    if e.origin = .key then s
    else s.onPanel fun p => { p with lastCompleted := some ⟨e.template, e.param1, e.param2, e.cls, e.channels⟩ }
  if e.ackRequired then makeAwaiting e (dropEntry e.tag s1) else leaveWith e .completed s1

/-- The end of an audible service (R27). -/
def endService (e : Entry) (v : Service) (s : State) : State :=
  let s1 := emptySlot (activity (releaseFloor .complete s))
  match v.removal with
  | some o => leaveWith e o s1
  | none => completeEntry e s1

/-- The end of a silent service (R28). -/
def endSilent (e : Entry) (s : State) : State := completeEntry e (emptySlot (activity s))

/-- A removal that a CANCEL, an acknowledgement or a session end asks for (R29). The selection that follows an emptied slot
is `conclude`'s, after the last step of the command (the model's choice, log 41). -/
def removeEntry (tag : Nat) (outcome : DoneOutcome) (s : State) : State :=
  match s.entry tag with
  | none => s
  | some e =>
    match e.state with
    | .queued => leaveWith e outcome s
    | .claiming => leaveWith e outcome (emptySlot (withdraw s))
    | .speaking =>
      changeService (fun v => { v with removal := match v.removal with
        | some o => some o
        | none => some outcome }) s
    | .showing => leaveWith e outcome (emptySlot s)

/-- The deadline of an entry passes (R16). -/
def expireEntry (tag : Nat) (s : State) : State :=
  match s.entry tag with
  | none => s
  | some e =>
    if reachedAt e.deadline s.now then
      match e.state with
      | .queued => leaveWith e .expired s
      | .claiming => leaveWith e .expired (emptySlot (withdraw s))
      | _ => s
    else s

/-! ### Entries that are made (R6 to R14) -/

/-- What a cue's own checks answer (R192 steps 4 and 5). -/
inductive Handled where
  | taken (s : State)
  | refused (reason : Reason)
deriving DecidableEq, Repr

/-- The deadline of a PROMPT cue taken now: 0 gives none (R2). -/
def State.deadlineIn (s : State) (seconds : Nat) : Option Timer :=
  if seconds = 0 then none else some (s.after (seconds * 1000))

/-- The entry of a taken PROMPT cue (R12), with the arrival stamp and serial it is to have. -/
def State.promptEntry (s : State) (c : PromptCue) (arrival made : Nat) : Entry where
  tag := c.tag
  origin := .machine
  cls := c.cls
  template := c.template
  param1 := c.param1
  param2 := c.param2
  channels := c.channels
  ackRequired := c.ackRequired
  repeatsLeft := c.repeatsLeft
  repeatInterval := c.repeatInterval
  deadline := s.deadlineIn c.deadline
  arrival := arrival
  cutCount := 0
  state := .queued
  made := made

/-- The entry `old` is replaced in place (R8, R9): its arrival stamp and its place among equal stamps are kept, and its
tag leaves the repeat list (R177). -/
def replaceEntry (c : PromptCue) (old : Entry) (s : State) : State :=
  let s1 := dropRepeat old.tag s
  let s2 := s1.onSeq fun q =>
    { q with queue := insertEntry (s.promptEntry c old.arrival old.made) (q.queue.filter fun e => e.tag ≠ old.tag) }
  report (.queued c.tag) (report (.done c.tag .superseded) s2)

/-- A held awaiting record of the tag is superseded (R10). -/
def supersedeAwaiting (tag : Nat) (s : State) : State :=
  match s.awaitingRecord tag with
  | some _ => answerAwaiting tag .superseded s
  | none => s

/-- The victim of the capacity check, if there is one, is removed (R11). -/
def Capacity.clear (c : Capacity) (s : State) : State :=
  match c with
  | .evict v => Machine.evict v s
  | _ => s

/-- A new entry of a PROMPT cue (R10, R12): reports of the awaiting record, of the victim, then QUEUED. -/
def newPrompt (c : PromptCue) (cap : Capacity) (s : State) : State :=
  let s1 := cap.clear (supersedeAwaiting c.tag s)
  report (.queued c.tag) (joinQueue (s1.promptEntry c s1.now 0) s1)

/-- The PROMPT cue from its template check on (R7 to R12). -/
def enqueuePrompt (c : PromptCue) (s : State) : Handled :=
  if s.unknownTemplate c.template then .refused .unknownTemplate
  else
    match s.entry c.tag with
    | some e =>
      match e.state with
      | .queued => .taken (replaceEntry c e s)
      | .claiming => .taken (replaceEntry c e (emptySlot (withdraw s)))
      | .speaking => .refused .tagBusy
      | .showing => .refused .tagBusy
    | none =>
      match s.capacity c.cls with
      | .full => .refused .queueFull
      | cap => .taken (newPrompt c cap s)

/-- What a block that fires an internal prompt gives it (R13). -/
structure InternalPrompt where
  tag : Nat
  origin : Origin
  cls : Cls
  template : Nat
  param1 : Nat
  param2 : Nat
  deadline : Option Nat
deriving DecidableEq, Repr

/-- The entry of an internal prompt fired now (R2, R13). -/
def State.internalEntry (s : State) (p : InternalPrompt) : Entry where
  tag := p.tag
  origin := p.origin
  cls := p.cls
  template := p.template
  param1 := p.param1
  param2 := p.param2
  channels := ⟨true, true, true⟩
  ackRequired := false
  repeatsLeft := 0
  repeatInterval := 5
  deadline := p.deadline.map s.after
  arrival := s.now
  cutCount := 0
  state := .queued
  made := 0

/-- An internal prompt is merged, discarded or made as an entry (R13). The selection that R13 asks for is `conclude`'s,
after the last step of the command (the model's choice, log 41). -/
def internalPrompt (p : InternalPrompt) (s : State) : State :=
  if s.unknownTemplate p.template then countDrop s
  else if (s.entry p.tag).isSome then s
  else
    match s.capacity p.cls with
    | .full => countDrop s
    | cap => joinQueue (s.internalEntry p) (cap.clear s)

/-- The entry of a repeat that falls due now (R14). -/
def State.repeatEntry (s : State) (a : Awaiting) : Entry where
  tag := a.tag
  origin := .machine
  cls := a.cls
  template := a.template
  param1 := a.param1
  param2 := a.param2
  channels := a.channels
  ackRequired := true
  repeatsLeft := a.repeatsLeft - 1
  repeatInterval := a.repeatInterval
  deadline := none
  arrival := s.now
  cutCount := 0
  state := .queued
  made := 0

/-- A record passes to the queue as a repeat and its tag joins the repeat list (R14, R176, R177). -/
def makeRepeat (a : Awaiting) (cap : Capacity) (s : State) : State :=
  let s1 := joinQueue (s.repeatEntry a) (dropAwaiting a.tag (cap.clear s))
  report (.queued a.tag) (s1.onPanel fun p => { p with repeats := p.repeats ++ [⟨a.tag, a.spokenAt⟩] })

/-- The repeat of a record falls due (R176): UNACKNOWLEDGED without repeats left, a repeat entry where the queue has
room, and else one interval later. -/
def repeatFallsDue (a : Awaiting) (s : State) : State :=
  if a.repeatsLeft = 0 then answerAwaiting a.tag .unacknowledged s
  else
    match s.capacity a.cls with
    | .full =>
      s.onPanel fun p =>
        { p with
          awaiting := p.awaiting.map fun x =>
            if x.tag = a.tag then { x with repeatDue := s.after (a.repeatInterval * 1000) } else x }
    | cap => makeRepeat a cap s

/-- A CANCEL cue (R30). -/
def cancelTag (tag : Nat) (s : State) : Handled :=
  match s.entry tag with
  | some _ => .taken (removeEntry tag .cancelled s)
  | none =>
    match s.awaitingRecord tag with
    | some _ => .taken (answerAwaiting tag .cancelled s)
    | none => .refused .noSuchTag

/-! ### Steps of the output (R22, R27, R49 to R52, R128) -/

/-- The entry in service with its service state, where one is SPEAKING. -/
def State.speaking (s : State) : Option (Entry × Service) :=
  match s.served, s.seq.slot with
  | some e, some v => if e.state = .speaking then some (e, v) else none
  | _, _ => none

/-- The chime of a service ends (R128): the end of the service when the script has no items, else a boundary. -/
def chimeEnds (s : State) : State :=
  match s.tone.chime with
  | .playing c =>
    if c.endTimer.reached s.now then
      let s1 := stopChime s
      match s1.speaking with
      | some x =>
        if x.2.script.items = [] then endService x.1 x.2 s1
        else atBoundary x.1 x.2 (fun r st => startItem x.2.script.items 0 (applyLevel r st)) s1
      | none => s1
    else s
  | _ => s

/-- A script item ends (R52): the end of the script after the last one, else a boundary and the 40 ms gap. -/
def itemEnds (s : State) : State :=
  match s.speech with
  | .playing i _ _ _ =>
    if reachedAt s.itemTimer s.now then
      match s.speaking with
      | some x =>
        if x.2.script.items.length ≤ i + 1 then endService x.1 x.2 (s.setSpeech .idle)
        else
          atBoundary x.1 x.2 (fun r st => (applyLevel r st).setSpeech (.gap (i + 1) (st.after Config.itemGap))) s
      | none => s
    else s
  | _ => s

/-- The gap after an item ends and the next item starts (R49). -/
def itemGapEnds (s : State) : State :=
  match s.speech, s.seq.slot with
  | .gap n tm, some v => if tm.reached s.now then startItem v.script.items n s else s
  | _, _ => s

/-- A silent service reaches its end (R28). -/
def silentServiceEnds (s : State) : State :=
  match s.served, s.seq.slot with
  | some e, some v => if e.state = .showing ∧ reachedAt v.silentEnd s.now = true then endSilent e s else s
  | _, _ => s

/-- A read of phrase audio gets no answer within 5 ms (R51), which no read of the phrase can have waited before its 5th
millisecond: counted once, and the rest of the phrase is silence from the sample now due (log 36). -/
def phraseReadTimesOut (s : State) : State :=
  match s.speech, s.byteOffset with
  | .playing i phrase start none, some offset =>
    if (Timer.mk (start + Config.readWait) Config.readWait).reached s.now then
      (readFailed 1 s).setSpeech (.playing i phrase start (some offset))
    else s
  | _, _ => s

/-- The warm-up of the amplifier ends (R183): the test of a check begins, or the output of the service. -/
def warmUpEnds (s : State) : State :=
  match s.power.amp with
  | .warming tm =>
    if tm.reached s.now then
      let s1 := s.onPower fun p => { p with amp := .on }
      match s.power.check with
      | .warmUp powerOn => s1.onPower fun p => { p with check := .test powerOn (s.after Config.checkTest) }
      | _ =>
        match s1.speaking with
        | some x =>
          match x.2.kind, x.2.pendingLevel with
          | .audible route, some r => beginOutput x.1 route x.2.script r s1
          | _, _ => s1
        | none => s1
    else s
  | _ => s

/-- The result and the impedance a fault in service records (R189). -/
def faultResult : SpeakerFaultKind → SpeakerResult × Nat
  | .overcurrent => (.short, 0)
  | .openLine => (.open_, 63)

/-- The current sense can show this fault now (R189). -/
def State.senses (s : State) (kind : SpeakerFaultKind) : Bool :=
  s.drivingService && match kind with
    | .overcurrent => true
    | .openLine => s.drivingChime || s.drivingPhrase

/-- The entry in service stops and is queued again, or leaves with its stored outcome (R26). -/
def stopForFault (s : State) : State :=
  match s.speaking with
  | some x =>
    match x.2.removal with
    | some o => stopRemoved x.1 o s
    | none => returnToQueue (releaseFloor .cut s)
  | none => s

/-- A speaker fault during service output (R189). -/
def speakerFails (kind : SpeakerFaultKind) (s : State) : State :=
  if s.senses kind then
    let r := faultResult kind
    let s1 := s.onPower fun p => { p with amp := .off, result := r.1, impedance := r.2 }
    report (.event .speakerFault) (latch (fun l => { l with speakerFault := true }) (stopForFault s1))
  else s

end Sys2Proof.Machine
end

