-- ==== Sys2Proof/Machine/Reminder.lean ====
section
/-! DEFINITION. The Reminder Unit (chapter 8): the estimate, the countdown marks and the reminder slots. -/

namespace Sys2Proof.Machine

open Sys2Proof

/-! ### Countdown marks -/

/-- An ARMED mark is crossed by a change of the estimate (R152). -/
def Mark.crossed (old new : Nat) (m : Mark) : Bool :=
  decide (m.state = .armed) && decide (m.value ≤ old) && decide (new < m.value)

/-- Of two marks with their indices, the one that fires: the lower value, the earlier one where they are equal (R152). -/
def lowerMark (a : Option (Nat × Mark)) (b : Nat × Mark) : Option (Nat × Mark) :=
  match a with
  | none => some b
  | some x => if b.2.value < x.2.value then some b else some x

/-- The mark that fires at a change of the estimate: of the crossed ARMED marks the lowest (R152). -/
def firingMark (marks : Four Mark) (old new : Nat) : Option Nat :=
  (([(0, marks.a0), (1, marks.a1), (2, marks.a2), (3, marks.a3)].filter fun x => x.2.crossed old new).foldl
    lowerMark none).map Prod.fst

/-- A crossed ARMED mark becomes SPENT, whether it fires or not (R152). -/
def Mark.spendIfCrossed (old new : Nat) (m : Mark) : Mark := if m.crossed old new then { m with state := .spent } else m

/-- The internal prompt of a mark (R153): param1 is the estimate after the change that crossed it. -/
def State.markPrompt (s : State) (i new : Nat) : InternalPrompt where
  tag := 68 + i
  origin := .mark
  cls := .status
  template := s.link.config.countdownTemplate
  param1 := new
  param2 := 0
  deadline := some Config.markDeadline

/-- A firing is activity, and it ends an entry to SLEEP (R153, R159, R185); it restarts no IDLE-mode slot (R160). -/
def fire (p : InternalPrompt) (s : State) : State := endAnnouncing (activity (internalPrompt p s))

/-- The crossing test (R152): at most one mark fires, and every crossed ARMED mark becomes SPENT. -/
def crossMarks (old new : Nat) (s : State) : State :=
  let s1 := s.onRem fun u => { u with marks := u.marks.map (Mark.spendIfCrossed old new) }
  match firingMark s.rem.marks old new with
  | some i => fire (s.markPrompt i new) s1
  | none => s1

/-- The re-arm test of a mark (R154). -/
def Mark.rearm (new : Nat) (m : Mark) : Mark :=
  if m.state = .spent ∧ m.value + Config.markHysteresis ≤ new then { m with state := .armed } else m

/-- The state a mark gets with its value at a CONFIGURE, and after a soft reset (R151). -/
def Mark.fresh (value : Nat) : Mark := ⟨value, if value = 0 then .unused else .armed⟩

/-! ### The estimate -/

/-- A taken PROGRESS cue (R149), its five steps in order. A prompt that step 1 fires is selected and composed after step 5,
so that an ESTIMATE item speaks the new R: whether R13's selection runs before step 2 the manual leaves open (the model's
choice, log 41). -/
def progressTaken (remaining : Nat) (running : Bool) (s : State) : State :=
  postEstimate ((crossMarks s.rem.estimate remaining s).onRem fun u =>
    { u with
      estimate := remaining
      running := running
      marks := u.marks.map (Mark.rearm remaining)
      secondPhase := if running then some (s.after Config.second) else none })

/-- The next second phase, from the decrement that falls due now (R150, log 39). -/
def moveSecond (s : State) : State := s.onRem fun u => { u with secondPhase := some (s.after Config.second) }

/-- A decrement falls due (R150). A prompt that the crossing fires is selected after the last step (log 41). -/
def decrement (s : State) : State :=
  match s.rem.secondPhase with
  | some tm =>
    if s.rem.running = true ∧ tm.reached s.now = true then
      if s.rem.estimate = 0 then moveSecond s
      else
        let new := s.rem.estimate - 1
        moveSecond (postDecrement (crossMarks s.rem.estimate new (s.onRem fun u => { u with estimate := new })))
    else s
  | none => s

/-! ### Reminder slots -/

/-- Change a slot's record. -/
def setSlot (n : Nat) (r : Option SlotRecord) (s : State) : State :=
  s.onRem fun u => { u with slots := u.slots.set n r }

/-- The remaining count a REMIND cue's count gives: 0 is UNLIMITED (R156). -/
def remainingOf (count : Nat) : Option Nat := if count = 0 then none else some count

/-- A slot programmed afresh (R157); ONE_SHOT and IDLE records hold no period and no count (R156). -/
def State.programmed (s : State) (mode : SlotMode) (delay period count template : Nat) (cls : Cls) (param1 : Nat)
    (persistent : Bool) : SlotRecord where
  mode := mode
  delay := delay
  period := if mode = .periodic then period else 0
  nextPeriod := none
  remaining := if mode = .periodic then remainingOf count else none
  template := template
  cls := cls
  param1 := param1
  persistent := persistent
  nextFiring := some (s.after (delay * 1000))

/-- A taken REMIND cue (R156 to R158): a clear, a restart, or the reprogramming of a periodic slot without a restart. -/
def remindTaken (c : RemindCue) (s : State) : State :=
  match c with
  | .clear n => setSlot n none s
  | .program n mode delay period count template cls param1 persistent =>
    let afresh := s.programmed mode delay period count template cls param1 persistent
    match s.rem.slots.get n with
    | some r =>
      if r.mode = .periodic ∧ mode = .periodic then
        setSlot n (some
          { r with
            nextPeriod := some period
            remaining := remainingOf count
            template := template
            cls := cls
            param1 := param1
            persistent := persistent }) s
      else setSlot n (some afresh) s
    | none => setSlot n (some afresh) s

/-- The internal prompt of a slot (R159). -/
def slotPrompt (n : Nat) (r : SlotRecord) : InternalPrompt where
  tag := 64 + n
  origin := .reminder
  cls := r.cls
  template := r.template
  param1 := r.param1
  param2 := 0
  deadline := none

/-- A periodic slot reloads (R159): a held next period becomes the period. -/
def SlotRecord.reloaded (now : Nat) (r : SlotRecord) : SlotRecord :=
  let period := match r.nextPeriod with
    | some p => p
    | none => r.period
  { r with period := period, nextPeriod := none, nextFiring := some ⟨now + period * 1000, period * 1000⟩ }

/-- What a slot becomes after a firing (R159). -/
def SlotRecord.fired (now : Nat) (r : SlotRecord) : Option SlotRecord :=
  match r.mode with
  | .oneShot => none
  | .idle => some { r with nextFiring := none }
  | .periodic =>
    match r.remaining with
    | none => some (r.reloaded now)
    | some k => if k ≤ 1 then none else some ({ r with remaining := some (k - 1) }.reloaded now)

/-- A slot fires (R159). -/
def slotFires (n : Nat) (s : State) : State :=
  match if n ≤ 3 then s.rem.slots.get n else none with
  | some r =>
    if reachedAt r.nextFiring s.now then setSlot n (r.fired s.now) (fire (slotPrompt n r) s) else s
  | none => s

/-- A slot in IDLE mode counts afresh from now (R160). -/
def SlotRecord.restarted (now : Nat) (r : SlotRecord) : SlotRecord :=
  if r.mode = .idle then { r with nextFiring := some ⟨now + r.delay * 1000, r.delay * 1000⟩ } else r

/-- A key press or a cue restarts every slot in IDLE mode (R160). -/
def restartIdleSlots (s : State) : State :=
  s.onRem fun u => { u with slots := u.slots.map (Option.map (SlotRecord.restarted s.now)) }

/-- A slot of scope SESSION is cleared (R161). -/
def keepPersistent (r : Option SlotRecord) : Option SlotRecord :=
  match r with
  | some x => if x.persistent then some x else none
  | none => none

/-- A session end clears every slot of scope SESSION (R161). -/
def clearSessionSlots (s : State) : State := s.onRem fun u => { u with slots := u.slots.map keepPersistent }

/-- The Reminder Unit after a soft reset (R148, R151, R155): the marks keep their values. -/
def ReminderUnit.softReset (u : ReminderUnit) : ReminderUnit where
  estimate := 0
  running := false
  secondPhase := none
  marks := u.marks.map fun m => Mark.fresh m.value
  slots := ⟨none, none, none, none⟩

end Sys2Proof.Machine
end

