-- ==== Sys2Proof/Machine/Panel.lean ====
section
/-! DEFINITION. Session and Panel (chapter 9): sessions, the six keys, acknowledgement. -/

namespace Sys2Proof.Machine

open Sys2Proof

/-! ### Sessions -/

/-- The session language and volume become the defaults (R166, R167). -/
def toDefaults (s : State) : State :=
  s.onPanel fun p => { p with language := s.link.config.defaultLanguage, volume := s.link.config.defaultVolume }

/-- The tags of the QUEUED entries of class STATUS or COURTESY, in queue order (R167 step 1). -/
def State.sessionTags (s : State) : List Nat :=
  (s.seq.queue.filter fun e => decide (e.state = .queued) && decide (e.cls.val ≤ 1)).map Entry.tag

/-- The removals of R167 step 1. -/
def removeQueued (s : State) : State := s.sessionTags.foldl (fun acc tag => removeEntry tag .cancelled acc) s

/-- The removal of R167 step 2: the entry in the slot, when its class is STATUS or COURTESY. -/
def removeServed (s : State) : State :=
  match s.served with
  | some e => if e.cls.val ≤ 1 then removeEntry e.tag .cancelled s else s
  | none => s

/-- Every awaiting record is removed, oldest spoken-at first (R167 step 3). -/
def clearAwaiting (s : State) : State :=
  (s.panel.awaiting.map Awaiting.tag).foldl (fun acc tag => answerAwaiting tag .cleared acc) s

/-- A session end (R167), its seven steps in order. A slot that step 2 empties is filled by the selection after step 7, in
the default language and volume: whether R29's selection runs between the steps the manual leaves open (the model's choice,
log 41). -/
def endSession (s : State) : State :=
  let s4 := clearSessionSlots (clearAwaiting (removeServed (removeQueued s)))
  let s6 := lookUpPhase (toDefaults (s4.onPanel fun p => { p with lastCompleted := none }))
  s6.onPanel fun p => { p with inSession := false }

/-- The start language in force: the cue's where it is enabled, else the default (R166 step 4). -/
def State.startLanguage (s : State) (language : Option Nat) : Nat :=
  match language with
  | some l => if s.link.config.languages.get l then l else s.link.config.defaultLanguage
  | none => s.link.config.defaultLanguage

/-- A session begin (R166), its five steps in order. -/
def beginSession (language : Option Nat) (s : State) : State :=
  let s1 := if s.panel.inSession then endSession s else s
  lookUpPhase (s1.onPanel fun p =>
    { p with inSession := true, volume := s1.link.config.defaultVolume, language := s1.startLanguage language })

/-- A SESSION cue (R166, R167). -/
def sessionTaken (c : SessionCue) (s : State) : State :=
  match c with
  | .end_ => endSession s
  | .begin_ language => beginSession language s

/-! ### Languages and volume -/

/-- The enabled languages, lowest first. -/
def enabledLanguages (ls : Four Bool) : List Nat := (List.range 4).filter ls.get

/-- The next enabled language above the present one, and after the highest the lowest (R173). -/
def nextLanguage (ls : Four Bool) (present : Nat) : Nat :=
  match (enabledLanguages ls).find? fun l => present < l with
  | some l => l
  | none => ((enabledLanguages ls).head?).getD present

/-- The internal prompt of the LANG key (R173). -/
def langPrompt : InternalPrompt := ⟨74, .key, .status, 0, 0, 0, none⟩

/-- The LANG key acts at its classification (R173): a short press takes the next enabled language, a long one the
default. -/
def actLang (long : Bool) (s : State) : State :=
  let chosen := if long then s.link.config.defaultLanguage else nextLanguage s.link.config.languages s.panel.language
  if s.panel.inSession = true ∧ chosen ≠ s.panel.language then
    internalPrompt langPrompt (lookUpPhase (s.onPanel fun p => { p with language := chosen }))
  else s

/-- VOL- and VOL+ step the session volume within a session (R174). -/
def stepVolume (up : Bool) (s : State) : State :=
  if s.panel.inSession then
    s.onPanel fun p => { p with volume := if up then min 7 (p.volume + 1) else p.volume - 1 }
  else s

/-! ### REPEAT, HELP, OK -/

/-- The class a REPEAT asks with (R171). -/
def repeatClass (c : Cls) : Cls := if c = .safety then .action else c

/-- A REPEAT press (R171). -/
def actRepeat (s : State) : State :=
  match s.panel.lastCompleted with
  | some r => internalPrompt ⟨72, .key, repeatClass r.cls, r.template, r.param1, r.param2, none⟩ s
  | none => s

/-- The phase id of the latest PHASE cue (R172). -/
def State.phaseId (s : State) : Nat := (s.display.phase.map PhaseIds.phase).getD 0

/-- A HELP press (R172). -/
def actHelp (s : State) : State :=
  match s.panel.helpTemplate with
  | some t => internalPrompt ⟨73, .key, .status, t, s.phaseId, 0, none⟩ s
  | none => s

/-- A repeat entry is SPEAKING or SHOWING: it counts as spoken now (R178). -/
def State.beingGiven (s : State) (tag : Nat) : Bool :=
  match s.entry tag with
  | some e => decide (e.state = .speaking) || decide (e.state = .showing)
  | none => false

/-- The candidates of an OK press with the stamps they count with (R178): the repeat entries, then the awaiting records, so
that of equal stamps a record is taken before a repeat entry. R178 states that of the record that a completion of this instant
has made; for any other equal stamps the order is the model's choice (log 27). -/
def State.okCandidates (s : State) : List (Nat × Nat) :=
  (s.panel.repeats.map fun r => (if s.beingGiven r.tag then s.now else r.spokenAt, r.tag))
    ++ s.panel.awaiting.map fun a => (a.spokenAt, a.tag)

/-- The later of two candidates; of equal stamps the one listed later (R178 "Special situations", log 27). -/
def laterSpoken (a : Option (Nat × Nat)) (b : Nat × Nat) : Option (Nat × Nat) :=
  match a with
  | none => some b
  | some x => if b.1 < x.1 then some x else some b

/-- A prompt is acknowledged: its record answered, or its repeat entry removed by its state (R178, R179). -/
def acknowledge (tag : Nat) (s : State) : State :=
  match s.awaitingRecord tag with
  | some _ => answerAwaiting tag .acked s
  | none => removeEntry tag .acked s

/-- An OK press (R178). -/
def actOk (s : State) : State :=
  match s.okCandidates.foldl laterSpoken none with
  | some x => acknowledge x.2 s
  | none => s

/-- An ACK cue (R179). -/
def ackTag (tag : Nat) (s : State) : Handled :=
  if (s.awaitingRecord tag).isSome || s.panel.repeats.any fun r => r.tag = tag then .taken (acknowledge tag s)
  else .refused .noSuchTag

/-! ### The keys (R169, R170) -/

/-- Set the state of a key. -/
def setKey (k : Key) (x : KeyState) (s : State) : State := s.onPanel fun p => { p with keys := p.keys.set k x }

/-- A key's input has come to a level now: its next change is taken when it has stood for 30 ms (R169, log 25). -/
def setInput (k : Key) (down : Bool) (s : State) : State :=
  s.onPanel fun p => { p with inputs := p.inputs.set k (KeyInput.fresh s.now down) }

/-- A change of a key's input can be taken now: 30 ms have passed since its last one (R169, log 25). -/
def State.debounced (s : State) (k : Key) : Bool := (s.panel.inputs.get k).debounce.reached s.now

/-- The press action of a key (R170); LANG acts at its classification. -/
def pressAction (k : Key) (s : State) : State :=
  match k with
  | .rep => actRepeat s
  | .hlp => actHelp s
  | .lng => s
  | .vdn => stepVolume false s
  | .vup => stepVolume true s
  | .ok => actOk s

/-- The session volume that a press clicks with: for VOL- and VOL+ the one after the change (R170, R174). -/
def State.clickVolume (s : State) (k : Key) : Nat :=
  match k with
  | .vdn => (stepVolume false s).panel.volume
  | .vup => (stepVolume true s).panel.volume
  | _ => s.panel.volume

/-- A press is activity and restarts the IDLE-mode slots; it ends an entry to SLEEP (R170, R185). -/
def pressActivity (s : State) : State := endAnnouncing (restartIdleSlots (activity s))

/-- A press is taken once its input has been down for 30 ms (R169, R170): activity, the click, the press action. -/
def pressKey (k : Key) (s : State) : State :=
  if s.panel.keys.get k = .up ∧ s.debounced k = true then
    setInput k true (setKey k (.pressed (s.after Config.longPress))
      (pressAction k (askClick (s.clickVolume k) (pressActivity s))))
  else s

/-- The classification of a press (R170, R173): LANG acts, then KEY is reported. -/
def classifyPress (k : Key) (long : Bool) (s : State) : State :=
  report (.key k long) (if k = .lng then actLang long s else s)

/-- A key comes up (R169, R170): a PRESSED one is classified, as LONG where its 1,500 ms lie behind, whatever R1 allows
(log 2), and else as SHORT. -/
def keyComesUp (k : Key) (s : State) : State :=
  match s.panel.keys.get k with
  | .up => s
  | .pressed tm => classifyPress k (tm.late s.now) (setKey k .up s)
  | .long => setKey k .up s
  | .blocked => setKey k .up s

/-- A release is taken once its input has been up for 30 ms (R169). A KEY_RELEASE of a key that is UP, which R169 knows no
event for, tells that its input has come up: it reports nothing and leaves the key UP, and the 30 ms of the input run from
it, so a press within them is not taken (the model's choice, log 25). -/
def releaseKey (k : Key) (s : State) : State :=
  if s.debounced k then setInput k false (keyComesUp k s) else s

/-- The change of a key's input to down that has woken the part (R186): a key that was held at the entry to SLEEP has come
up since, and the press can be taken 30 ms from now (log 25). -/
def inputWakes (k : Key) (s : State) : State := setInput k true (keyComesUp k s)

/-- A press becomes a long one (R169, R170). -/
def holdKey (k : Key) (s : State) : State :=
  match s.panel.keys.get k with
  | .pressed tm => if tm.reached s.now then classifyPress k true (setKey k .long s) else s
  | _ => s

/-- The key states a reset leaves (R165): BLOCKED where the key is down. -/
def blockedKeys (down : Keys Bool) : Keys KeyState := down.map fun d => if d then .blocked else .up

/-- The keys that are down as far as the part has taken or seen their changes. -/
def State.keysDown (s : State) : Keys Bool := s.panel.inputs.map KeyInput.down

/-- Session and Panel after a soft reset (R165). -/
def Panel.softReset (now : Nat) (config : Settings) (down : Keys Bool) : Panel where
  inSession := false
  language := config.defaultLanguage
  volume := config.defaultVolume
  keys := blockedKeys down
  inputs := freshInputs now down
  lastCompleted := none
  helpTemplate := none
  awaiting := []
  repeats := []

end Sys2Proof.Machine
end

