-- ==== Sys2Proof/Machine/Sleep.lean ====
section
/-! DEFINITION. Entry to SLEEP, wake, and the two mode deadlines (10.2, 10.4). -/

namespace Sys2Proof.Machine

open Sys2Proof

/-- A partial frame is discarded and counted; in HUNT there is none (R191, log 8). -/
def discardPartial (s : State) : State :=
  match s.link.framer with
  | .hunt => s
  | _ => s.onLink fun l => { l with framer := .hunt, framingErrors := bump l.framingErrors }

/-- The Hall Line Port on entry to SLEEP (R71): nothing waits, nothing is scheduled, and the line is SILENT. -/
def HallPort.asleep (h : HallPort) : HallPort :=
  { h with
    line := .silent, idleCounting := false, txList := [], onLine := none
    heartbeat := none, recovery := .none_, finalTimer := none }

/-- The part enters SLEEP (R185). -/
def enterSleep (s : State) : State :=
  let s1 := (setMode .sleep s).onPower fun p =>
    { p with announcing := false, amp := .off, dim := none, standby := none, timersHeld := false }
  let s2 := (s1.onHall HallPort.asleep).onOwn fun o => { o with outgoing := none, pendingClaim := none }
  discardPartial ((s2.onLevel fun l => { l with sampleDue := none }).onRem fun u => { u with secondPhase := none })

/-- The announcement of an entry to SLEEP ends (R185). -/
def announcementEnds (s : State) : State := if s.power.announcing then enterSleep s else s

/-- The first heartbeat after an entry to LISTEN_IN (R73). -/
def State.firstHeartbeat (s : State) : Timer := s.after (Config.firstHeartbeat * s.straps.station)

/-- The hall state becomes LISTEN_IN (R65, R73). -/
def enterListenIn (s : State) : State :=
  s.onHall fun h =>
    { h with state := .listenIn (s.after Config.listenIn), heartbeat := some s.firstHeartbeat, recovery := .none_ }

/-- The Hall Line Port on wake (R72). -/
def wakeHall (s : State) : State :=
  match s.hall.state with
  | .off => s
  | .fault .duplicate => s.onHall fun h => { h with line := .waitIdle, watch := s.after Config.stuck }
  | _ => enterListenIn (s.onHall fun h => { h with line := .waitIdle, watch := s.after Config.stuck })

/-- The part wakes (R186). -/
def wakeUp (s : State) : State :=
  let s1 := (setMode .active s).onPower fun p => { p with dim := some (s.after Config.dim) }
  let s2 := wakeHall (clearView s1)
  let s3 := s2.onLevel fun l =>
    { l with ring := [], hold := .open_, sampleDue := some (s.after Config.sample) }
  s3.onRem fun u => { u with secondPhase := if u.running then some (s.after Config.second) else none }

/-- What wakes the part finds it asleep, or changes nothing (R186). -/
def wakeIfAsleep (s : State) : State := if s.awake then s else wakeUp s

/-- The dim deadline passes (R182). -/
def dimPasses (s : State) : State :=
  if s.power.mode = .active ∧ s.power.timersHeld = false ∧ reachedAt s.power.dim s.now = true then
    (setMode .dim s).onPower fun p => { p with dim := none, standby := s.standbyFromNow }
  else s

/-- The standby deadline passes (R182). -/
def standbyPasses (s : State) : State :=
  if s.power.mode = .dim ∧ s.power.timersHeld = false ∧ reachedAt s.power.standby s.now = true then
    (setMode .standby s).onPower fun p => { p with standby := none, amp := if p.amp = .on then .off else p.amp }
  else s

end Sys2Proof.Machine
end

