-- ==== Sys2Proof/Machine/HallEvents.lean ====
section
/-! DEFINITION. The events of the hall line (chapter 3): frames heard, own frames, bit errors, the hall states, and the
timers of the port and of the Floor Unit. -/

namespace Sys2Proof.Machine

open Sys2Proof

/-! ### Entry to FAULT and recovery (R67 to R69) -/

/-- The Hall Line Port on an entry to FAULT (R67, R69). -/
def HallPort.faulted (now : Nat) (cause : FaultCause) (h : HallPort) : HallPort :=
  { h with
    line := if h.line = .sending then .waitIdle else h.line
    txList := []
    onLine := none
    state := .fault cause
    errorRun := 0
    heartbeat := none
    recovery := if cause = .duplicate then .none_ else .scheduled ⟨now + Config.recovery, Config.recovery⟩
    finalTimer := none }

/-- The latch and the EVENT of an entry to FAULT (R67, R69). -/
def tellFault (cause : FaultCause) (s : State) : State :=
  if cause = .duplicate then
    report (.event .duplicateStation) (latch (fun l => { l with duplicateStation := true }) s)
  else report (.event .hallFault) (latch (fun l => { l with hallFault := true }) s)

/-- The hall state becomes FAULT from LISTEN_IN or ON (R67, R69, R20, R106); a final PRESENCE that was in the list was
not sent, and the announcement of SLEEP ends (R71). -/
def enterFault (cause : FaultCause) (s : State) : State :=
  announcementEnds (tellFault cause (floorFault (s.onHall (HallPort.faulted s.now cause))))

/-- Frames of a kind of PRESENCE leave the list; one on the line is abandoned (R68, R71, log 16). -/
def HallPort.withoutPresence (k : PresenceKind) (h : HallPort) : HallPort :=
  if h.driven = some (.presence k) then
    { h with txList := h.txList.filter fun x => !x.isPresenceOf k, onLine := none, line := .waitIdle }
  else { h with txList := h.txList.filter fun x => !x.isPresenceOf k }

/-- A recovery attempt in progress fails: its PRESENCE leaves the list, and the next attempt falls due 10,000 ms after
its start (R68). -/
def attemptFails (s : State) : State :=
  match s.hall.recovery with
  | .attempting start =>
    s.onHall fun h =>
      { h.withoutPresence .recovery with recovery := .scheduled ⟨start + Config.recovery, Config.recovery⟩ }
  | _ => s

/-- A good frame with this station's own number was heard (R69); a recovery attempt that runs is cancelled (log 33). -/
def duplicateHeard (s : State) : State :=
  match s.hall.state with
  | .off => s
  | .fault .duplicate => s
  | .fault _ =>
    tellFault .duplicate (s.onHall fun h =>
      { h.withoutPresence .recovery with state := .fault .duplicate, recovery := .none_ })
  | _ => enterFault .duplicate s

/-! ### Frames heard (R55, R59) -/

/-- A recessive bit is heard: the stuck-line watch starts afresh (R56, log 44). -/
def watchAfresh (s : State) : State := s.onHall fun h => { h with watch := s.after Config.stuck }

/-- The bits of a frame are heard: a recessive bit among them starts the watch afresh (R56). -/
def watchBits (bits : List Bool) (s : State) : State := if bits.any id then watchAfresh s else s

/-- The port follows a frame from its start bit: it is idle or receiving, or counts the idle time after a frame it has
followed (R55, log 12). -/
def HallPort.follows (h : HallPort) : Bool :=
  match h.line with
  | .silent => false
  | .idle => true
  | .receiving => true
  | _ => h.idleCounting

/-- A bad frame: counted, and nothing of it reaches another block (R59). -/
def frameBad (counting : Bool) (s : State) : State :=
  s.onHall fun h =>
    { h with
      badFrames := bump h.badFrames
      line := if counting then .receiving else .waitIdle
      idleCounting := counting }

/-- The Floor Unit is handed a good frame of a peer (R59). -/
def handedOver (f : HallFrame) (s : State) : State :=
  match f with
  | .claim c => hearClaim c s
  | .release r => hearRelease r s
  | .presence p => hearPresence p s

/-- A good frame from another station: counted; a duplicate is not handed on (R59, R69). -/
def frameGood (f : HallFrame) (s : State) : State :=
  let s1 := s.onHall fun h =>
    { h with
      framesReceived := bump h.framesReceived, line := .receiving, idleCounting := true
      watch := s.after Config.stuck }
  if f.station.toNat = s.straps.station then duplicateHeard s1 else handedOver f s1

/-- A frame followed from its start bit, with the fields it carries and a check that matches (R59). -/
def frameHeard (f : HallFrame) (s : State) : State :=
  if s.hall.follows then if f.good then frameGood f s else frameBad false s else s

/-- The bits of a frame followed from its start bit, judged (R59). -/
def bitsHeard (bits : List Bool) (s : State) : State :=
  if s.hall.follows then
    match judge bits with
    | .good f => frameGood f s
    | .badCheck => frameBad true (watchBits bits s)
    | .bad => frameBad false (watchBits bits s)
  else s

/-- 7 recessive bit times have been heard, or the idle time of a followed frame has passed (R55). -/
def lineIdles (s : State) : State :=
  if s.hall.line = .waitIdle ∨ (s.hall.idleCounting = true ∧ s.hall.line ≠ .silent) then
    s.onHall fun h => { h with line := .idle, idleCounting := false, watch := s.after Config.stuck }
  else s

/-! ### Own frames (R61 to R63) -/

/-- The port starts the first frame of the list (R61): the content of a PRESENCE is taken now (R74). -/
def frameStarts (s : State) : State :=
  match s.hall.line, firstFrame s.hall.txList with
  | .idle, some f =>
    s.onHall fun h =>
      { h with
        line := .sending, idleCounting := false, txList := markDriving f (undriven h.txList)
        onLine := some (s.frameFor f), watch := s.after Config.stuck }
  | _, _ => s

/-- The frame the port is driving (R61): the marked one of the list, or the heartbeat that a later PRESENCE has replaced in
the list while it was on the line (R60, log 32). -/
def HallPort.sendingFrame (h : HallPort) : Option TxFrame :=
  if h.line = .sending then
    match h.driven with
    | some f => some f
    | none => h.onLine.map fun _ => .presence .heartbeat
  else none

/-- The own CLAIM on the line has been taken back (R60). -/
def State.claimTakenBack (s : State) : Bool :=
  match s.floor.own.outgoing with
  | some o => decide (o.takenBack ≠ .no)
  | none => false

/-- A CLAIM that has been taken back leaves the list without a retry when it is lost or abandoned (R60, R61, R62). -/
def dropTakenBack (f : TxFrame) (s : State) : State :=
  match f with
  | .claim _ =>
    if s.claimTakenBack then claimUnsent (s.onHall fun h => { h with txList := h.txList.filter fun x => !x.isClaim })
    else s
  | _ => s

/-- A loss of arbitration (R61): the frame waits again and the winning frame is received. -/
def arbitrationLost (s : State) : State :=
  match s.hall.sendingFrame with
  | some f =>
    dropTakenBack f (s.onHall fun h =>
      { h with line := .receiving, idleCounting := false, txList := undriven h.txList, onLine := none })
  | none => s

/-- A bit error (R62), as far as the own frame: the frame is abandoned, the error counted, the run extended. -/
def HallPort.bitFailed (h : HallPort) : HallPort :=
  { h with
    line := .waitIdle
    idleCounting := false
    txList := undriven h.txList
    onLine := none
    ownBitErrors := bump h.ownBitErrors
    errorRun := min Config.errorRun (h.errorRun + 1) }

/-- A recovery PRESENCE fails its attempt at the first bit error (R62, R68). -/
def failIfRecovery (f : TxFrame) (s : State) : State := if f = .presence .recovery then attemptFails s else s

/-- The run of bit errors has reached 16 in LISTEN_IN or ON (R62, R67). -/
def faultAtRun (s : State) : State :=
  if s.hall.errorRun = Config.errorRun ∧ s.hall.state.isUp = true then enterFault .errors s else s

/-- The frame that a station of the same number went on to send is received to its end and judged (R62 "Special
situations", R59, R69); the bits before the bit error are those both sent, so a good frame bears the own number (log 14). -/
def restHeard (rest : Option (List Bool)) (s : State) : State :=
  match rest with
  | some bits =>
    if s.hall.line = .silent then s
    else
      match judge bits with
      | .good f => if f.station.toNat = s.straps.station then frameGood f s else s
      | .badCheck => frameBad true (watchBits bits s)
      | .bad => frameBad false (watchBits bits s)
  | none => s

/-- A bit error (R62). -/
def bitErrs (rest : Option (List Bool)) (s : State) : State :=
  match s.hall.sendingFrame with
  | some f => restHeard rest (faultAtRun (failIfRecovery f (dropTakenBack f (s.onHall HallPort.bitFailed))))
  | none => s

/-- The own frame on the line goes through (R63): it leaves the list, the run of bit errors is over, and the idle time
after it is counted. -/
def HallPort.wentThrough (now : Nat) (h : HallPort) : HallPort :=
  { h with
    txList := withoutDriven h.txList, onLine := none, errorRun := 0, idleCounting := true
    watch := ⟨now + Config.stuck, Config.stuck⟩ }

/-- The own CLAIM goes through (R63, R90). -/
def ownClaimGoes (s : State) : State :=
  match s.hall.sendingFrame with
  | some (.claim _) => ownClaimHeard (s.onHall (HallPort.wentThrough s.now))
  | _ => s

/-- The own RELEASE goes through (R63, R96). -/
def ownReleaseGoes (s : State) : State :=
  match s.hall.sendingFrame with
  | some (.release seq _) => ownReleaseHeard seq (s.onHall (HallPort.wentThrough s.now))
  | _ => s

/-- A recovery PRESENCE that goes through restores the hall (R68). -/
def hallRestored (s : State) : State := report (.event .hallRestored) (enterListenIn s)

/-- The own PRESENCE goes through (R63, R68, R71). -/
def ownPresenceGoes (s : State) : State :=
  match s.hall.sendingFrame with
  | some (.presence .recovery) => hallRestored (s.onHall (HallPort.wentThrough s.now))
  | some (.presence .final) =>
    announcementEnds ((s.onHall (HallPort.wentThrough s.now)).onHall fun h => { h with finalTimer := none })
  | some (.presence .heartbeat) => s.onHall (HallPort.wentThrough s.now)
  | _ => s

/-- The line has been heard dominant for more than 10 ms (R56): the port waits for idle line (log 13). Nothing is stuck
before the 10 ms of the watch have run (log 44). -/
def lineSticks (s : State) : State :=
  if s.hall.line = .silent ∨ s.hall.watch.reached s.now = false then s
  else
    let s1 := s.onHall fun h =>
      { h with line := .waitIdle, idleCounting := false, txList := undriven h.txList, onLine := none }
    match s.hall.state with
    | .off => s
    | .fault .duplicate => s1
    | .fault _ => attemptFails (s1.onHall fun h => { h with state := .fault .stuck })
    | _ => enterFault .stuck s1

/-! ### Timers of the port (R65, R68, R71, R73) -/

/-- LISTEN_IN ends (R65). -/
def listenInEnds (s : State) : State :=
  match s.hall.state with
  | .listenIn tm => if tm.reached s.now then s.onHall fun h => { h with state := .on } else s
  | _ => s

/-- A heartbeat falls due (R73). -/
def heartbeatDue (s : State) : State :=
  match s.hall.heartbeat with
  | some tm =>
    if tm.reached s.now = true ∧ s.hall.state.isUp = true then
      handPresence .heartbeat (s.onHall fun h => { h with heartbeat := some (s.after Config.heartbeat) })
    else s
  | none => s

/-- A recovery attempt falls due (R68): it waits while the slot holds an entry that is SPEAKING (R20). -/
def recoveryDue (s : State) : State :=
  match s.hall.recovery with
  | .scheduled tm =>
    if tm.reached s.now then
      if s.slotSpeaks then s.onHall fun h => { h with recovery := .waiting } else startAttempt s
    else s
  | _ => s

/-- 100 ms pass without the recovery PRESENCE going through (R68). -/
def recoveryTimesOut (s : State) : State :=
  match s.hall.recovery with
  | .attempting start =>
    if (Timer.mk (start + Config.presenceTry) Config.presenceTry).reached s.now then attemptFails s else s
  | _ => s

/-- 100 ms pass without the final PRESENCE going through (R71): it is given up also where activity has called the entry to
SLEEP off before, though R185 says of one that waits then that it stays in the list and is sent; the part stays awake (the
model's choice, log 52). -/
def finalTimesOut (s : State) : State :=
  if reachedAt s.hall.finalTimer s.now then
    announcementEnds (s.onHall fun h => { h.withoutPresence .final with finalTimer := none })
  else s

/-! ### Timers of the Floor Unit (R77, R83, R85, R97) -/

/-- The end of a peer's silence that makes it LOST (R77). -/
def Peer.lostTimer (p : Peer) : Timer := ⟨p.lastHeard + Config.lost, Config.lost⟩

/-- A PRESENT peer has been silent for 6,500 ms (R77). -/
def peerSilent (station : Nat) (s : State) : State :=
  match s.peer station with
  | some p => if p.presence = .present ∧ p.lostTimer.reached s.now = true then peerBecomesLost station s else s
  | none => s

/-- A live claim reaches its expiry stamp (R83). -/
def claimExpires (station : Nat) (s : State) : State :=
  if station = s.straps.station then
    match s.floor.own.claim with
    | some c => if c.expiry.reached s.now then ownClaimExpired s else s
    | none => s
  else
    match (s.peer station).bind Peer.claim with
    | some c => if c.expiry.reached s.now then removePeerClaim station s else s
    | none => s

/-- The end of a claim's settle window (R79); a PRESUMED claim has none. -/
def LiveClaim.windowTimer (c : LiveClaim) : Timer := ⟨c.heard + Config.settleWindow, Config.settleWindow⟩

/-- A claim's settle window runs and has ended. -/
def LiveClaim.windowEnds (now : Nat) (c : LiveClaim) : Bool := !c.settled && c.windowTimer.reached now

/-- The claim with its settle window ended. -/
def LiveClaim.settle (c : LiveClaim) : LiveClaim := { c with settled := true }

/-- The settle window of a claim ends and its zone is examined (R85). -/
def settleEnds (station : Nat) (s : State) : State :=
  if station = s.straps.station then
    match s.floor.own.claim with
    | some c => if c.windowEnds s.now then examine c.zone (changeOwnClaim LiveClaim.settle s) else s
    | none => s
  else
    match (s.peer station).bind Peer.claim with
    | some c =>
      if c.windowEnds s.now then
        examine c.zone (changePeer station (fun p => { p with claim := p.claim.map LiveClaim.settle }) s)
      else s
    | none => s

/-- The turn gap ends (R97). -/
def turnGapEnds (s : State) : State :=
  if s.floor.own.state = .gap ∧ reachedAt s.floor.own.gapEnd s.now = true then
    s.onOwn fun o => { o with state := .free, gapEnd := none }
  else s

end Sys2Proof.Machine
end

