-- ==== Sys2Proof/Machine/Deadlines.lean ====
section
/-! DEFINITION. Every interval the part measures and the latest instant R1 allows each to end at: the timebase goes past
none of them before its end is taken (R1, log 2). -/

namespace Sys2Proof.Machine

open Sys2Proof

/-- The instant of the last byte of a partial frame. -/
def Framer.stamp : Framer → Option Nat
  | .hunt => none
  | .type stamp => some stamp
  | .length stamp _ => some stamp
  | .payload stamp _ _ _ => some stamp

/-- The longest gap after the last byte of a partial frame (R191). -/
def Framer.gap (f : Framer) : Option Timer := f.stamp.map fun stamp => ⟨stamp + Config.interByte, Config.interByte⟩

/-- The two intervals that bound a claim's end: its expiry, and the other of a preempted one (R83, R98, log 47). -/
def LiveClaim.ends (c : LiveClaim) : List Timer := c.expiry :: c.outer.toList

/-- The entries held back with the slot empty because a peer's claim outranks theirs, by the wait bucket they were last
asked with (R17, R103). -/
def State.heldEntries (s : State) : List Entry :=
  if s.seq.slot.isSome then []
  else s.seq.queue.filter fun e => s.asksFor e && s.outrankedWith e.cls (bucketAt s.seq.askedAt e.arrival)

/-- The timers of the service slot and the queue. -/
def State.queueTimers (s : State) : List Timer :=
  (s.seq.queue.filterMap fun e => if e.state = .queued ∨ e.state = .claiming then e.deadline else none)
    ++ (s.heldEntries.filterMap s.bucketTimer)
    ++ (s.panel.awaiting.map Awaiting.repeatDue) ++ ((s.seq.slot.bind Service.silentEnd).toList)

/-- The timers of speech, tones and the level. -/
def State.outputTimers (s : State) : List Timer :=
  s.itemTimer.toList ++ s.firstReadWait.toList
    ++ (match s.speech with
      | .gap _ tm => [tm]
      | _ => [])
    ++ (match s.tone.chime with
      | .playing c => c.endTimer :: c.stepPace.timers
      | _ => [])
    ++ (match s.tone.click with
      | .playing _ tm => [tm]
      | _ => [])
    ++ (match s.level.hold with
      | .settling tm => [tm]
      | _ => [])
    ++ s.level.sampleDue.toList

/-- The timers of the hall line and of the floor. -/
def State.hallTimers (s : State) : List Timer :=
  (match s.hall.state with
    | .listenIn tm => [tm]
    | _ => [])
    ++ s.hall.heartbeat.toList
    ++ (match s.hall.recovery with
      | .scheduled tm => [tm]
      | .attempting start => [⟨start + Config.presenceTry, Config.presenceTry⟩]
      | _ => [])
    ++ s.hall.finalTimer.toList
    ++ (s.liveClaims.flatMap fun x => x.2.ends)
    ++ (s.liveClaims.filterMap fun x => if x.2.settled then none else some x.2.windowTimer)
    ++ (s.floor.peers.filterMap fun p => if p.presence = .present then some p.lostTimer else none)
    ++ s.floor.own.gapEnd.toList

/-- The timers of the cue link, the Reminder Unit, the keys, the power block and the display. -/
def State.otherTimers (s : State) : List Timer :=
  s.link.framer.gap.toList ++ s.rem.secondPhase.toList
    ++ (s.rem.slots.list.filterMap fun r => r.bind SlotRecord.nextFiring)
    ++ ([s.panel.keys.rep, s.panel.keys.hlp, s.panel.keys.lng, s.panel.keys.vdn, s.panel.keys.vup,
        s.panel.keys.ok].filterMap fun k => match k with
      | .pressed tm => some tm
      | _ => none)
    ++ (if s.power.timersHeld then [] else
      (if s.power.mode = .active then s.power.dim.toList else [])
        ++ (if s.power.mode = .dim then s.power.standby.toList else []))
    ++ (match s.power.amp with
      | .warming tm => [tm]
      | _ => [])
    ++ (match s.power.check with
      | .test _ tm => [tm]
      | _ => [])
    ++ (if s.linesShown then
        (s.display.line1Scroll.timer.toList ++ s.display.phaseScroll.timer.toList).flatMap Paced.timers else [])
    ++ s.display.blink.timer.toList
    ++ (s.display.timeBlink.map Prod.snd).toList

/-- Every interval that runs now and whose end the part takes by itself. In SLEEP only a click can run (log 26), and the framer
is in HUNT (R191). -/
def State.runningTimers (s : State) : List Timer :=
  if s.awake then s.queueTimers ++ s.outputTimers ++ s.hallTimers ++ s.otherTimers
  else match s.tone.click with
    | .playing _ tm => [tm]
    | _ => []

/-- The latest instant at which an interval can end (R1). -/
def Timer.latest (tm : Timer) : Nat := tm.due + Config.tolerance tm.len

/-- The instant at which a command that names `t` is taken: not before the timebase (log 1), and not after the latest end R1
allows an interval that still runs, since that end comes first (R1, log 2). -/
def State.instant (t : Nat) (s : State) : Nat :=
  max s.now (s.runningTimers.foldl (fun acc tm => min acc tm.latest) t)

/-- The timebase when a command that names `t` is taken (R1). -/
def State.arrive (t : Nat) (s : State) : State := { s with now := s.instant t }

end Sys2Proof.Machine
end

