-- ==== Sys2Proof/Machine/CueLink.lean ====
section
/-! DEFINITION. The Cue Link Port (chapter 11): the receive framer, the checks of a cue, the cues this block owns, the
reset cue, and power-on. -/

namespace Sys2Proof.Machine

open Sys2Proof

/-! ### CONFIGURE (R193) -/

/-- The languages the phrase store holds (R32); while it is FAILED, language 0 alone (R193 step 1). -/
def State.storeLanguages (s : State) : Four Bool :=
  if s.store.state = .ready then
    ⟨decide (0 < s.store.index.length), decide (1 < s.store.index.length), decide (2 < s.store.index.length),
      decide (3 < s.store.index.length)⟩
  else ⟨true, false, false, false⟩

/-- The mask limited to the store's languages; language 0 alone where nothing is left (R193 step 1). -/
def State.limitLanguages (s : State) (mask : Four Bool) : Four Bool :=
  let held := s.storeLanguages
  let both : Four Bool := if s.store.state = .ready then
      ⟨mask.a0 && held.a0, mask.a1 && held.a1, mask.a2 && held.a2, mask.a3 && held.a3⟩
    else held
  if both.list.any id then both else ⟨true, false, false, false⟩

/-- A default language that is not enabled is replaced by the lowest enabled one (R193 step 2). -/
def settleDefault (languages : Four Bool) (l : Nat) : Nat :=
  if languages.get l then l else ((enabledLanguages languages).head?).getD 0

/-- The settings a taken CONFIGURE puts in force (R193 steps 1 to 3). -/
def State.settingsOf (s : State) (c : ConfigureCue) : Settings where
  languages := s.limitLanguages c.languages
  defaultLanguage := settleDefault (s.limitLanguages c.languages) c.defaultLanguage
  defaultVolume := c.defaultVolume
  standbyMinutes := c.standbyMinutes
  countdownTemplate := c.countdownTemplate
  policy := c.policy

/-- A taken CONFIGURE (R193). -/
def configureTaken (c : ConfigureCue) (s : State) : State :=
  let s1 := s.onLink fun l => { l with config := s.settingsOf c }
  let s2 := s1.onRem fun u => { u with marks := c.marks.map Mark.fresh }
  lookUpPhase (toDefaults s2)

/-! ### STATUS (R196, R201) -/

/-- Page 0 (R201). -/
def State.page0 (s : State) : List Byte :=
  let slotTag := match s.seq.slot with
    | some v => v.tag
    | none => 0
  let slotState := match s.served with
    | some e => e.state.slotCode
    | none => 0
  [ byte s.power.mode.code, byte s.hall.state.code, byte s.hall.state.causeCode, byte s.floor.own.state.code,
    byte (bit 0 s.panel.inSession), byte s.panel.language, byte s.panel.volume, byte (bit 0 s.link.locked),
    byte s.seq.queue.length, byte s.panel.awaiting.length, byte slotTag, byte slotState,
    byte (ambientAverage s.level.ring), byte s.level.lastG, byte s.power.result.code, byte s.power.impedance,
    byte s.store.state.code, byte s.seq.mask.code, byte (bit 0 s.level.quiet), byte s.link.latches.code ]

/-- Page 1 (R196, R201). -/
def State.page1 (s : State) : List Byte :=
  bytes2 s.hall.framesReceived ++ bytes2 s.hall.badFrames ++ bytes2 s.hall.ownBitErrors ++ bytes2 s.floor.claimsSent
    ++ bytes2 s.floor.claimsConfirmed ++ bytes2 s.floor.claimsLost ++ bytes2 s.seq.cuts ++ bytes2 s.floor.overlaps

/-- Page 2 (R196, R201). -/
def State.page2 (s : State) : List Byte :=
  bytes2 s.level.maskedPhrases ++ bytes2 s.store.readErrors ++ bytes2 s.seq.internalDrops ++ bytes2 s.link.refusals
    ++ bytes2 s.link.framingErrors ++ bytes2 s.link.reportsLost ++ bytes2 s.store.truncated
    ++ bytes2 s.power.weakSpeaker

/-- A mark on page 3 (R201). -/
def Mark.bytes (m : Mark) : List Byte := bytes2 m.value ++ [byte m.state.code]

/-- Page 3 (R163, R201). -/
def State.page3 (s : State) : List Byte :=
  bytes2 s.rem.estimate ++ [byte (bit 0 s.rem.running)] ++ (s.rem.marks.map Mark.bytes).list.flatten

/-- The time to the next firing, in started seconds; 65,535 for absent (R163, R201). -/
def SlotRecord.timeLeft (now : Nat) (r : SlotRecord) : Nat :=
  match r.nextFiring with
  | some tm => (tm.due - now + 999) / 1000
  | none => 65535

/-- A slot on page 4 (R201). -/
def slotBytes (now : Nat) : Option SlotRecord → List Byte
  | none => [0#8, 0#8, 0#8, 0xFF#8, 0xFF#8]
  | some r =>
    [byte (1 + 2 * r.mode.code + bit 3 r.persistent + 16 * r.cls.val), byte r.template, byte (r.remaining.getD 0)]
      ++ bytes2 (r.timeLeft now)

/-- Page 4 (R163, R201). -/
def State.page4 (s : State) : List Byte := (s.rem.slots.map (slotBytes s.now)).list.flatten

/-- The five pages read at one instant (R196). -/
def State.pages (s : State) : List Report :=
  [.statusReply 0 s.page0, .statusReply 1 s.page1, .statusReply 2 s.page2, .statusReply 3 s.page3,
    .statusReply 4 s.page4]

/-- A taken STATUS cue (R196): the pages are read, the latches cleared where it asks for it, the pages reported. -/
def statusTaken (clear : Bool) (s : State) : State :=
  reportAll s.pages (if clear then latch (fun _ => Latches.clear) s else s)

/-! ### The small cues (R194), SLEEP (R184) and SELFTEST (R187) -/

/-- A taken MASK cue (R15). -/
def maskTaken (m : ClassMask) (s : State) : State := s.onSeq fun q => { q with mask := m }

/-- A taken QUIET cue (R122). -/
def quietTaken (q : Bool) (s : State) : State := s.onLevel fun l => { l with quiet := q }

/-- A taken PHASE cue (R144, R172). -/
def phaseTaken (c : PhaseCue) (s : State) : State :=
  lookUpPhase ((s.onPanel fun p => { p with helpTemplate := c.help }).onDisplay fun d => { d with phase := some c.ids })

/-- The conditions of a SLEEP cue (R184). -/
def State.maySleep (s : State) : Bool :=
  !s.panel.inSession && decide (s.seq.queue = []) && decide (s.panel.awaiting = [])
    && s.rem.slots.list.all (fun r => r.isNone) && decide (s.power.check = .idle) && !s.power.announcing

/-- A taken SLEEP cue (R185): the final PRESENCE, or SLEEP at once in OFF and FAULT (R71). -/
def sleepTaken (s : State) : State :=
  if s.hall.state.isUp then
    (handPresence .final (s.onPower fun p => { p with announcing := true })).onHall fun h =>
      { h with finalTimer := some (s.after Config.presenceTry) }
  else enterSleep s

/-- The SLEEP cue (R184). -/
def handleSleep (s : State) : Handled := if s.maySleep then .taken (sleepTaken s) else .refused .notIdle

/-- A SELFTEST cue may be taken (R187). -/
def State.maySelftest (s : State) : Bool :=
  s.seq.slot.isNone && decide (s.floor.own.state ≠ .holding) && decide (s.power.check = .idle)

/-- The SELFTEST cue (R187). -/
def handleSelftest (s : State) : Handled := if s.maySelftest then .taken (startCheck false s) else .refused .busy

/-! ### The RESET cue (R199) -/

/-- The Hall Line Port on a soft reset (R70): a frame on the line is abandoned and the port waits for an idle line (log 15),
a CLAIM leaves the list, the rest stays. -/
def HallPort.softReset (h : HallPort) : HallPort :=
  { h with
    line := if h.sendingFrame.isSome then .waitIdle else h.line
    txList := (undriven h.txList).filter fun x => !x.isClaim
    onLine := none }

/-- The Floor Unit on a soft reset (R107): RELEASE(CUT) for a held floor, then the own claim is removed. -/
def softResetFloor (s : State) : State :=
  let s1 := (releaseFloor .cut s).onHall HallPort.softReset
  removeOwnClaim (s1.onOwn fun o =>
    { o with state := .free, gapEnd := none, outgoing := none, pendingClaim := none, released := false })

/-- The Sequencer on a soft reset (R31). -/
def Sequencer.softReset (q : Sequencer) : Sequencer := { q with queue := [], slot := none, mask := ⟨false, false, false⟩ }

/-- Power and Speaker Check on a soft reset (R180). -/
def Power.softReset (now : Nat) (p : Power) : Power :=
  { p with
    mode := .active
    announcing := false
    dim := some ⟨now + Config.dim, Config.dim⟩
    timersHeld := false
    standby := none
    amp := if p.amp = .on then .on else .off
    check := .idle }

/-- A soft reset (R199), its steps in order; the oldest report is the one being sent (R195, log 37). -/
def softReset (down : Keys Bool) (s : State) : State :=
  let s1 := softResetFloor s
  let s2 := (((s1.setSpeech .idle).onSeq Sequencer.softReset).onTone fun _ => ToneUnit.reset).onLevel fun l =>
    { l with hold := .settling (s.after Config.settling), quiet := false }
  let s3 := (s2.onRem ReminderUnit.softReset).onPanel fun _ => Panel.softReset s.now s.link.config down
  let s4 := (s3.onPower (Power.softReset s.now)).onDisplay fun _ => Display.reset
  sayHello (s4.onLink fun l => { l with reports := l.reports.take 1 })

/-! ### A cue (R192) -/

/-- The length of a cue's payload by its type (R192). -/
def cueLength (type : Byte) : Option Nat :=
  match type.toNat with
  | 1 => some 14
  | 2 => some 2
  | 3 => some 5
  | 4 => some 3
  | 5 => some 12
  | 6 => some 1
  | 7 => some 1
  | 8 => some 1
  | 9 => some 12
  | 10 => some 1
  | 11 => some 0
  | 12 => some 0
  | 13 => some 1
  | 14 => some 0
  | _ => none

/-- A field check that passes hands its fields on; one that fails refuses (R192 step 4). -/
def withFields {α : Type} (fields : Option α) (handle : α → Handled) : Handled :=
  match fields with
  | some x => handle x
  | none => .refused .badField

/-- The lock and field checks of a CONFIGURE (R192 steps 3 and 4, R193). -/
def handleConfigure (payload : List Byte) (s : State) : Handled :=
  if s.link.locked then .refused .configLocked
  else withFields (configureFields payload) fun c => .taken (configureTaken c s)

/-- The checks from the lock on, and the effect, by the cue's owner (R192 steps 3 to 5). -/
def handleCue (down : Keys Bool) (type : Byte) (payload : List Byte) (s : State) : Handled :=
  match type.toNat with
  | 1 => handleConfigure payload s
  | 2 => withFields (sessionFields payload) fun c => .taken (sessionTaken c s)
  | 3 => withFields (phaseFields payload) fun c => .taken (phaseTaken c s)
  | 4 => withFields (progressFields payload) fun c => .taken (progressTaken c.1 c.2 s)
  | 5 => withFields (promptFields payload) fun c => enqueuePrompt c s
  | 6 => withFields (tagField payload) fun c => cancelTag c s
  | 7 => withFields (tagField payload) fun c => ackTag c s
  | 8 => withFields (maskField payload) fun c => .taken (maskTaken c s)
  | 9 => withFields (remindFields payload) fun c => .taken (remindTaken c s)
  | 10 => withFields (flagField payload) fun c => .taken (quietTaken c s)
  | 11 => handleSleep s
  | 12 => handleSelftest s
  | 13 => withFields (flagField payload) fun c => .taken (statusTaken c s)
  | 14 => .taken (softReset down s)
  | _ => .refused .unknownCue

/-- The checks of a whole cue in their order (R192). -/
def checkCue (down : Keys Bool) (type : Byte) (payload : List Byte) (s : State) : Handled :=
  match cueLength type with
  | none => .refused .unknownCue
  | some n => if payload.length = n then handleCue down type payload s else .refused .badLength

/-- The tag byte of a REFUSED report (R192): the cue's own for PROMPT, CANCEL and ACK of the right length, else 0. -/
def refusedTag (type : Byte) (payload : List Byte) : Nat :=
  if 5 ≤ type.toNat ∧ type.toNat ≤ 7 ∧ cueLength type = some payload.length then at1 payload 0 else 0

/-- A taken CONFIGURE, SESSION or PROMPT locks the configuration (R192). -/
def lockFor (type : Byte) (s : State) : State :=
  if type.toNat = 1 ∨ type.toNat = 2 ∨ type.toNat = 5 then s.onLink fun l => { l with locked := true } else s

/-- A whole cue is activity and restarts the IDLE-mode slots before its checks (R192); it ends an entry to SLEEP, but for
a SLEEP cue, which its own rule refuses then (R185, log 10). -/
def cueActivity (type : Byte) (payload : List Byte) (s : State) : State :=
  let s1 := restartIdleSlots (activity s)
  if type = 0x0B#8 ∧ payload = [] then s1 else endAnnouncing s1

/-- A whole cue is taken or refused (R192). -/
def takeCue (down : Keys Bool) (type : Byte) (payload : List Byte) (s : State) : State :=
  let s1 := cueActivity type payload s
  match checkCue down type payload s1 with
  | .taken s2 => lockFor type s2
  | .refused r => refuse type (refusedTag type payload) r s1

/-! ### The receive framer (R191) -/

/-- The framer after one byte, and the cue that the byte makes whole (R191). -/
def CueLink.receive (now : Nat) (b : Byte) (l : CueLink) : CueLink × Option (Byte × List Byte) :=
  match l.framer with
  | .hunt => if b = 0x7E#8 then ({ l with framer := .type now }, none) else (l, none)
  | .type _ => ({ l with framer := .length now b }, none)
  | .length _ type =>
    if Config.payloadLimit < b.toNat then
      ({ l with framer := .hunt, framingErrors := bump l.framingErrors }, none)
    else if b = 0#8 then ({ l with framer := .hunt }, some (type, []))
    else ({ l with framer := .payload now type b.toNat [] }, none)
  | .payload _ type n got =>
    if n ≤ got.length + 1 then ({ l with framer := .hunt }, some (type, got ++ [b]))
    else ({ l with framer := .payload now type n (got ++ [b]) }, none)

/-- A partial frame whose 5 ms lie behind, whatever R1 allows, is discarded before anything more is heard (R191, log 2): a state
that has left its gap behind is met by no run, since the gap holds the timebase. -/
def dropStale (s : State) : State := if lateAt s.link.framer.gap s.now then discardPartial s else s

/-- A byte is heard (R191): discarded before HELLO; its start bit wakes the part from SLEEP (R186). -/
def receiveByte (down : Keys Bool) (s : State) (b : Byte) : State :=
  if s.link.listening then
    let s1 := dropStale (wakeIfAsleep s)
    let r := s1.link.receive s1.now b
    let s2 := s1.onLink fun _ => r.1
    match r.2 with
    | some c => takeCue down c.1 c.2 s2
    | none => s2
  else s

/-- Bytes are heard in order, and each cue that they complete is taken as it is completed. R18 runs the selection after each
event and knows no event that completes several cues, but the bytes that one command carries may hold whole cues beside its
own: the selection then runs once, in `conclude`, after the last byte of the command and not after each cue (the model's
choice, log 53). -/
def receiveBytes (down : Keys Bool) (bs : List Byte) (s : State) : State := bs.foldl (receiveByte down) s

/-- The bytes of a cue's frame (R191). -/
def cueFrame (type : Byte) (payload : List Byte) : List Byte := 0x7E#8 :: type :: byte payload.length :: payload

/-- The bytes of a cue's frame that the framer does not hold yet: a frame begun in the trail of an earlier command is
completed and not begun again (log 9). -/
def Framer.rest (f : Framer) (type : Byte) (payload : List Byte) : List Byte :=
  match f with
  | .hunt => cueFrame type payload
  | .type _ => type :: byte payload.length :: payload
  | .length _ ty => if ty = type then byte payload.length :: payload else cueFrame type payload
  | .payload _ ty n got =>
    if ty = type ∧ n = payload.length ∧ got = payload.take got.length then payload.drop got.length
    else cueFrame type payload

/-- A cue arrives (R191, R192). Cues that its trail completes are taken with it, before the one selection that follows the
command (the model's choice, log 53). -/
def cueArrives (down : Keys Bool) (type : Byte) (payload trail : List Byte) (s : State) : State :=
  let s1 := dropStale s
  receiveBytes down (s1.link.framer.rest type payload ++ trail) s1

/-- A byte with a bad stop bit is heard (R191). -/
def badStopHeard (s : State) : State := if s.link.listening then discardPartial (wakeIfAsleep s) else s

/-- Bytes are heard, and then the byte that discards the partial frame (R191). Whole cues among the bytes are taken in turn,
before the one selection that follows the command (the model's choice, log 53). -/
def frameDiscarded (rx : List Byte) (last : Byte) (badStop : Bool) (s : State) : State :=
  let s1 := receiveBytes s.keysDown rx s
  if badStop then badStopHeard s1 else receiveByte s1.keysDown s1 last

/-- More than 5 ms pass without a byte, as the gap after the last byte of the partial frame held measures them (R191). -/
def gapPasses (s : State) : State := if reachedAt s.link.framer.gap s.now then discardPartial s else s

/-- Bytes are heard 5 ms before `t`, or as soon after as the timebase allows, and then no more up to `t` (R191). Whole cues
among the bytes are taken then, and the one selection that follows the command runs at `t` (the model's choice, log 53). -/
def gapHeard (t : Nat) (rx : List Byte) (s : State) : State :=
  gapPasses ((receiveBytes s.keysDown rx (s.arrive (t - Config.interByte))).arrive t)

/-- The report being sent leaves the queue with its last byte (R195). -/
def reportLeaves (s : State) : State := s.onLink fun l => { l with reports := l.reports.drop 1 }

/-! ### Power-on (R197, R198) -/

/-- The Hall Line Port after a power-on reset (R64). -/
def HallPort.poweredOn (now station : Nat) : HallPort :=
  if station = 0 then HallPort.reset
  else
    { HallPort.reset with
      line := .waitIdle
      watch := ⟨now + Config.stuck, Config.stuck⟩
      state := .listenIn ⟨now + Config.listenIn, Config.listenIn⟩
      heartbeat := some ⟨now + Config.firstHeartbeat * station, Config.firstHeartbeat * station⟩ }

/-- Power and Speaker Check after a power-on reset that ends now (R180, R198). -/
def Power.poweredOn (now : Nat) : Power :=
  { Power.reset with
    dim := some ⟨now + Config.dim, Config.dim⟩
    amp := .warming ⟨now + Config.warmUp, Config.warmUp⟩ }

/-- The machine after a power-on reset that ends at `t` with these straps, keys and flash (R197, R198); the commands that
wait are the sender's, not the part's. -/
def poweredOn (t station zone : Nat) (down : Keys Bool) (flash : Flash) (waiting : List Instr) : State :=
  { State.reset with
    now := t
    pending := waiting
    straps := ⟨station, zone⟩
    store := { PhraseStore.reset with flash := flash.fitted }
    level := { LevelUnit.reset with sampleDue := some ⟨t + Config.sample, Config.sample⟩ }
    hall := HallPort.poweredOn t station
    panel := { Panel.reset with keys := blockedKeys down, inputs := freshInputs t down }
    power := Power.poweredOn t }

/-- The phrase store check ends (R35, R198). -/
def storeCheckEnds (s : State) : State :=
  if s.store.state = .checking then helloIfChecked (s.onStore (PhraseStore.checked s.now)) else s

/-- The test of a speaker check ends with a measured impedance (R187, R188). -/
def speakerCheckEnds (milliohms : Nat) (s : State) : State :=
  match s.power.check with
  | .test powerOn tm =>
    if tm.reached s.now then
      helloIfChecked (endCheck powerOn (classify (impedanceSteps milliohms)) (impedanceSteps milliohms) s)
    else s
  | _ => s

/-- Overcurrent is sensed during the test of a speaker check (R187). -/
def checkOvercurrent (s : State) : State :=
  match s.power.check with
  | .test powerOn _ => helloIfChecked (endCheck powerOn .short 0 s)
  | _ => s

end Sys2Proof.Machine
end

