-- ==== Sys2Proof/Machine/Outputs.lean ====
section
/-! DEFINITION. What the remaining timers do: repeats, tone steps, clicks, scrolling, blinking, sampling. -/

namespace Sys2Proof.Machine

open Sys2Proof

/-- The repeat of the record of a tag falls due (R176). -/
def repeatDueFor (tag : Nat) (s : State) : State :=
  match s.awaitingRecord tag with
  | some a => if a.repeatDue.reached s.now then repeatFallsDue a s else s
  | none => s

/-- A step of the chime's pattern ends and the next begins (R125); the end of the last step is the end of the chime. -/
def toneStepEnds (s : State) : State :=
  match s.tone.chime with
  | .playing c =>
    if c.stepPace.reached s.now = true ∧ c.step + 1 < (chimeSteps c.id).length then
      s.onTone fun u => { u with chime := .playing { c with step := c.step + 1, stepStart := s.now } }
    else s
  | _ => s

/-- The 40 ms of a click have run (R134). -/
def clickEnds (s : State) : State :=
  match s.tone.click with
  | .playing _ tm => if tm.reached s.now then s.onTone fun u => { u with click := .idle } else s
  | .idle => s

/-- A hold or a step of a scroll ends, unless the power mode shows no lines (R138). -/
def scrollStepped (field : ScrollField) (s : State) : State :=
  if s.linesShown then
    match field with
    | .prompt =>
      match s.display.line1Scroll.timer with
      | some tm =>
        if tm.reached s.now then
          s.onDisplay fun d =>
            { d with line1Scroll := d.line1Scroll.stepped s.now d.textLength Config.promptWidth tm }
        else s
      | none => s
    | .phase =>
      match s.display.phaseScroll.timer with
      | some tm =>
        if tm.reached s.now then
          s.onDisplay fun d =>
            { d with phaseScroll := d.phaseScroll.stepped s.now d.phaseText.length Config.phaseWidth tm }
        else s
      | none => s
  else s

/-- A half-period of a blink ends (R143, R145). -/
def blinkToggled (field : BlinkField) (s : State) : State :=
  match field with
  | .line1 => if reachedAt s.display.blink.timer s.now then s.onDisplay fun d => { d with blink := d.blink.toggled s.now } else s
  | .time =>
    match s.display.timeBlink with
    | some x =>
      if x.2.reached s.now then
        s.onDisplay fun d => { d with timeBlink := some (!x.1, s.after Config.slowBlink) }
      else s
    | none => s

/-- A sample falls due (R110): taken where the hold is OPEN, else skipped; the schedule moves on either way. -/
def sampleDue (reading : Int) (s : State) : State :=
  match s.level.sampleDue with
  | some tm =>
    if tm.reached s.now then
      s.onLevel fun l =>
        { l with
          sampleDue := some (s.after Config.sample)
          ring := if l.hold = .open_ then pushSample l.ring (clampReading reading) else l.ring }
    else s
  | none => s

/-- The end of SETTLING passes (R111). -/
def holdSettles (s : State) : State :=
  match s.level.hold with
  | .settling tm => if tm.reached s.now then s.onLevel fun l => { l with hold := .open_ } else s
  | _ => s

end Sys2Proof.Machine
end

