-- ==== Sys2Proof/Machine/StartUp.lean ====
section
/-! DEFINITION. The meanings of the commands of start-up and of the speaker check. -/

namespace Sys2Proof.Machine

open Sys2Proof Host

/-- A command that the part follows in every mode but SLEEP: its instant, then its effect (R185, log 26). -/
def whileAwake (t : Nat) (f : State → State) (s : State) : Outcome State Fault Refusal :=
  if s.awake then .next (f (s.arrive t)) else .next (s.arrive t)

/-- As `whileAwake`, and then what follows a step that can change the slot or what is eligible. -/
def concluding (t : Nat) (f : State → State) (s : State) : Outcome State Fault Refusal :=
  whileAwake t (fun st => conclude (f st)) s

/-- POWER_ON_RESET (R31, R64, R78, R108, R197, R198). The timebase takes the reading the environment gives (log 1). -/
def execPowerOnReset (t : Nat) (station : BitVec 5) (zone : BitVec 3) (down : Keys Bool) (flash : Flash) (s : State) :
    Outcome State Fault Refusal :=
  .next (poweredOn t station.toNat zone.toNat down flash s.pending)

/-- STORE_CHECK_END (R32, R35, R198). -/
def execStoreCheckEnd (t : Nat) (s : State) : Outcome State Fault Refusal := concluding t storeCheckEnds s

/-- SPEAKER_CHECK_END (R187, R188, R198). -/
def execSpeakerCheckEnd (t milliohms : Nat) (s : State) : Outcome State Fault Refusal :=
  concluding t (speakerCheckEnds milliohms) s

/-- SPEAKER_CHECK_OVERCURRENT (R187, R188, R198). -/
def execSpeakerCheckOvercurrent (t : Nat) (s : State) : Outcome State Fault Refusal := concluding t checkOvercurrent s

/-- WARM_UP_END (R183). -/
def execWarmUpEnd (t : Nat) (s : State) : Outcome State Fault Refusal := concluding t warmUpEnds s

/-- SPEAKER_FAULT (R26, R53, R130, R189). -/
def execSpeakerFault (t : Nat) (kind : SpeakerFaultKind) (s : State) : Outcome State Fault Refusal :=
  concluding t (speakerFails kind) s

end Sys2Proof.Machine
end

