-- ==== Sys2Proof/Machine/Cues.lean ====
section
/-! DEFINITION. The meanings of the cues and of the framing events of the cue link (chapter 11). -/

namespace Sys2Proof.Machine

open Sys2Proof Host

/-- A cue is heard whole at `t` (R191, R192): its frame, and then the bytes of a trail. -/
def hearCue (t : Nat) (down : Keys Bool) (type : Byte) (payload trail : List Byte) (s : State) :
    Outcome State Fault Refusal :=
  .next (conclude (cueArrives down type payload trail (s.arrive t)))

/-- CONFIGURE (type 01; R193). -/
def execConfigure (t : Nat) (payload : List Byte) (s : State) : Outcome State Fault Refusal :=
  hearCue t s.keysDown 0x01#8 payload [] s

/-- SESSION_BEGIN (type 02; R166). -/
def execSessionBegin (t : Nat) (payload : List Byte) (s : State) : Outcome State Fault Refusal :=
  hearCue t s.keysDown 0x02#8 payload [] s

/-- SESSION_END (type 02; R167). -/
def execSessionEnd (t : Nat) (payload : List Byte) (s : State) : Outcome State Fault Refusal :=
  hearCue t s.keysDown 0x02#8 payload [] s

/-- PHASE (type 03; R144, R172, R194). -/
def execPhase (t : Nat) (payload : List Byte) (s : State) : Outcome State Fault Refusal :=
  hearCue t s.keysDown 0x03#8 payload [] s

/-- PROGRESS (type 04; R149). -/
def execProgress (t : Nat) (payload : List Byte) (s : State) : Outcome State Fault Refusal :=
  hearCue t s.keysDown 0x04#8 payload [] s

/-- PROMPT (type 05; R6 to R12). -/
def execPrompt (t : Nat) (payload : List Byte) (s : State) : Outcome State Fault Refusal :=
  hearCue t s.keysDown 0x05#8 payload [] s

/-- CANCEL (type 06; R30). -/
def execCancel (t : Nat) (payload : List Byte) (s : State) : Outcome State Fault Refusal :=
  hearCue t s.keysDown 0x06#8 payload [] s

/-- ACK (type 07; R179). -/
def execAck (t : Nat) (payload : List Byte) (s : State) : Outcome State Fault Refusal :=
  hearCue t s.keysDown 0x07#8 payload [] s

/-- MASK (type 08; R15, R194). -/
def execMask (t : Nat) (payload : List Byte) (s : State) : Outcome State Fault Refusal :=
  hearCue t s.keysDown 0x08#8 payload [] s

/-- REMIND (type 09; R156 to R158). -/
def execRemind (t : Nat) (payload : List Byte) (s : State) : Outcome State Fault Refusal :=
  hearCue t s.keysDown 0x09#8 payload [] s

/-- REMIND_CLEAR (type 09; R156). -/
def execRemindClear (t : Nat) (payload : List Byte) (s : State) : Outcome State Fault Refusal :=
  hearCue t s.keysDown 0x09#8 payload [] s

/-- QUIET (type 0A; R122, R194). -/
def execQuiet (t : Nat) (payload : List Byte) (s : State) : Outcome State Fault Refusal :=
  hearCue t s.keysDown 0x0A#8 payload [] s

/-- SLEEP (type 0B; R184, R185). -/
def execSleep (t : Nat) (payload trail : List Byte) (s : State) : Outcome State Fault Refusal :=
  hearCue t s.keysDown 0x0B#8 payload trail s

/-- SELFTEST (type 0C; R187). -/
def execSelftest (t : Nat) (payload : List Byte) (s : State) : Outcome State Fault Refusal :=
  hearCue t s.keysDown 0x0C#8 payload [] s

/-- STATUS (type 0D; R196). -/
def execStatus (t : Nat) (payload : List Byte) (s : State) : Outcome State Fault Refusal :=
  hearCue t s.keysDown 0x0D#8 payload [] s

/-- RESET (type 0E; R199), with the key inputs as they stand then (R165). -/
def execReset (t : Nat) (payload : List Byte) (down : Keys Bool) (trail : List Byte) (s : State) :
    Outcome State Fault Refusal :=
  hearCue t down 0x0E#8 payload trail s

/-- UNKNOWN_CUE (R192): a whole cue of another type. -/
def execUnknownCue (t : Nat) (type : Byte) (payload : List Byte) (s : State) : Outcome State Fault Refusal :=
  hearCue t s.keysDown type payload [] s

/-- CUE_FRAME_DISCARD (R191). -/
def execCueFrameDiscard (t : Nat) (rx : List Byte) (last : Byte) (badStop : Bool) (s : State) :
    Outcome State Fault Refusal :=
  .next (conclude (frameDiscarded rx last badStop (s.arrive t)))

/-- INTER_BYTE_TIMEOUT (R191). -/
def execInterByteTimeout (t : Nat) (rx : List Byte) (s : State) : Outcome State Fault Refusal :=
  .next (conclude (gapHeard t rx s))

/-- REPORT_SENT (R195): in SLEEP too. -/
def execReportSent (t : Nat) (s : State) : Outcome State Fault Refusal := .next (reportLeaves (s.arrive t))

end Sys2Proof.Machine
end

