-- ==== Sys2Proof/Machine/Delivery.lean ====
section
/-! DEFINITION. The meanings of the commands of the queue, of service output, of the display and of the level. -/

namespace Sys2Proof.Machine

open Sys2Proof Host

/-- The waiting time of the entry of a tag reaches a further 2,000 ms, and the selection asks again (R103). -/
def bucketSteps (tag : Nat) (s : State) : State :=
  match s.entry tag with
  | some e => if s.bucketGrown e then conclude s else s
  | none => s

/-- WAIT_BUCKET_STEP (R103). -/
def execWaitBucketStep (t tag : Nat) (s : State) : Outcome State Fault Refusal := whileAwake t (bucketSteps tag) s

/-- DEADLINE (R16). -/
def execDeadline (t : Nat) (tag : Nat) (s : State) : Outcome State Fault Refusal :=
  concluding t (expireEntry tag) s

/-- CHIME_END (R128, R23, R27). -/
def execChimeEnd (t : Nat) (s : State) : Outcome State Fault Refusal :=
  concluding t chimeEnds s

/-- ITEM_END (R52, R23, R27). -/
def execItemEnd (t : Nat) (s : State) : Outcome State Fault Refusal :=
  concluding t itemEnds s

/-- ITEM_GAP_END (R49). -/
def execItemGapEnd (t : Nat) (s : State) : Outcome State Fault Refusal :=
  concluding t itemGapEnds s

/-- SILENT_SERVICE_END (R28). -/
def execSilentServiceEnd (t : Nat) (s : State) : Outcome State Fault Refusal :=
  concluding t silentServiceEnds s

/-- REPEAT_DUE (R14, R176). -/
def execRepeatDue (t tag : Nat) (s : State) : Outcome State Fault Refusal := concluding t (repeatDueFor tag) s

/-- PHRASE_READ_TIMEOUT (R51). -/
def execPhraseReadTimeout (t : Nat) (s : State) : Outcome State Fault Refusal :=
  whileAwake t phraseReadTimesOut s

/-- TONE_STEP_END (R125). -/
def execToneStepEnd (t : Nat) (s : State) : Outcome State Fault Refusal := whileAwake t toneStepEnds s

/-- CLICK_END (R134): a click that runs at the entry to SLEEP plays to its end (log 26). -/
def execClickEnd (t : Nat) (s : State) : Outcome State Fault Refusal := .next (clickEnds (s.arrive t))

/-- SCROLL_STEP (R138). -/
def execScrollStep (t : Nat) (field : ScrollField) (s : State) : Outcome State Fault Refusal :=
  whileAwake t (scrollStepped field) s

/-- BLINK_PHASE (R143, R145). -/
def execBlinkPhase (t : Nat) (field : BlinkField) (s : State) : Outcome State Fault Refusal :=
  whileAwake t (blinkToggled field) s

/-- AMBIENT_SAMPLE (R110, R111): `reading` is what AMB reads in dB. -/
def execAmbientSample (t : Nat) (reading : Int) (s : State) : Outcome State Fault Refusal :=
  whileAwake t (sampleDue reading) s

/-- SAMPLE_HOLD_SETTLED (R111). -/
def execSampleHoldSettled (t : Nat) (s : State) : Outcome State Fault Refusal := whileAwake t holdSettles s

end Sys2Proof.Machine
end

