-- ==== Sys2Proof/Machine/HallLine.lean ====
section
/-! DEFINITION. The meanings of the commands of the hall line (chapters 3 and 4). -/

namespace Sys2Proof.Machine

open Sys2Proof Host

/-- PEER_CLAIM (R59, R69, R75, R76, R81). -/
def execPeerClaim (t : Nat) (frame : ClaimFrame) (s : State) : Outcome State Fault Refusal :=
  concluding t (frameHeard (.claim frame)) s

/-- PEER_RELEASE (R59, R69, R75, R76, R82). -/
def execPeerRelease (t : Nat) (frame : ReleaseFrame) (s : State) : Outcome State Fault Refusal :=
  concluding t (frameHeard (.release frame)) s

/-- PEER_PRESENCE (R59, R69, R75, R76, R87, R101). -/
def execPeerPresence (t : Nat) (frame : PresenceFrame) (s : State) : Outcome State Fault Refusal :=
  concluding t (frameHeard (.presence frame)) s

/-- BAD_FRAME (R55, R59, R202). -/
def execBadFrame (t : Nat) (bits : List Bool) (s : State) : Outcome State Fault Refusal :=
  concluding t (bitsHeard bits) s

/-- FRAME_START (R61, R74). -/
def execFrameStart (t : Nat) (s : State) : Outcome State Fault Refusal :=
  whileAwake t frameStarts s

/-- ARBITRATION_LOSS (R61). -/
def execArbitrationLoss (t : Nat) (s : State) : Outcome State Fault Refusal :=
  concluding t arbitrationLost s

/-- BIT_ERROR (R59, R62, R67 to R69). -/
def execBitError (t : Nat) (rest : Option (List Bool)) (s : State) : Outcome State Fault Refusal :=
  concluding t (bitErrs rest) s

/-- STUCK_LINE (R56, R67, R68). -/
def execStuckLine (t : Nat) (s : State) : Outcome State Fault Refusal :=
  concluding t lineSticks s

/-- OWN_CLAIM_SENT (R63, R90). -/
def execOwnClaimSent (t : Nat) (s : State) : Outcome State Fault Refusal :=
  concluding t ownClaimGoes s

/-- OWN_RELEASE_SENT (R63, R96). -/
def execOwnReleaseSent (t : Nat) (s : State) : Outcome State Fault Refusal :=
  concluding t ownReleaseGoes s

/-- OWN_PRESENCE_SENT (R63, R68, R71). -/
def execOwnPresenceSent (t : Nat) (s : State) : Outcome State Fault Refusal :=
  concluding t ownPresenceGoes s

/-- LISTEN_IN_END (R65). -/
def execListenInEnd (t : Nat) (s : State) : Outcome State Fault Refusal :=
  concluding t listenInEnds s

/-- HEARTBEAT (R73). -/
def execHeartbeat (t : Nat) (s : State) : Outcome State Fault Refusal :=
  whileAwake t heartbeatDue s

/-- RECOVERY_ATTEMPT (R68, R20). -/
def execRecoveryAttempt (t : Nat) (s : State) : Outcome State Fault Refusal :=
  concluding t recoveryDue s

/-- RECOVERY_TIMEOUT (R68). -/
def execRecoveryTimeout (t : Nat) (s : State) : Outcome State Fault Refusal :=
  concluding t recoveryTimesOut s

/-- FINAL_PRESENCE_TIMEOUT (R71, R185). -/
def execFinalPresenceTimeout (t : Nat) (s : State) : Outcome State Fault Refusal :=
  concluding t finalTimesOut s

/-- PEER_LOST (R77). -/
def execPeerLost (t : Nat) (station : BitVec 5) (s : State) : Outcome State Fault Refusal :=
  concluding t (peerSilent station.toNat) s

/-- CLAIM_EXPIRY (R83, R86, R93, R99). -/
def execClaimExpiry (t : Nat) (station : BitVec 5) (s : State) : Outcome State Fault Refusal :=
  concluding t (claimExpires station.toNat) s

/-- SETTLE_WINDOW_END (R79, R85). -/
def execSettleWindowEnd (t : Nat) (station : BitVec 5) (s : State) : Outcome State Fault Refusal :=
  concluding t (settleEnds station.toNat) s

/-- TURN_GAP_END (R97). -/
def execTurnGapEnd (t : Nat) (s : State) : Outcome State Fault Refusal :=
  concluding t turnGapEnds s

/-- LINE_IDLE (R55). -/
def execLineIdle (t : Nat) (s : State) : Outcome State Fault Refusal :=
  whileAwake t lineIdles s

end Sys2Proof.Machine
end

