-- ==== Sys2Proof/Machine/PanelPower.lean ====
section
/-! DEFINITION. The meanings of the commands of the Reminder Unit, the keys and the power modes. -/

namespace Sys2Proof.Machine

open Sys2Proof Host

/-- ESTIMATE_DECREMENT (R150, R152, R153). -/
def execEstimateDecrement (t : Nat) (s : State) : Outcome State Fault Refusal :=
  concluding t decrement s

/-- SLOT_FIRING (R159). -/
def execSlotFiring (t : Nat) (slot : Nat) (s : State) : Outcome State Fault Refusal :=
  concluding t (slotFires slot) s

/-- A key's input that changes to down in SLEEP wakes the part (R186); awake, the part sees the input only through its
debounce. -/
def wakeByKey (k : Key) (s : State) : State := if s.awake then s else inputWakes k (wakeUp s)

/-- A key input that has been down for 30 ms at `t` changed to down 30 ms before, or as soon after as the timebase allows: in
SLEEP that change has woken the part (R186, log 25). -/
def wokenFor (t : Nat) (key : Key) (s : State) : State :=
  if s.awake then s else conclude (wakeByKey key (s.arrive (t - Config.debounce)))

/-- KEY_PRESS (R169, R170 to R174, R178): the key input has been down for 30 ms. In SLEEP the command stands for the wake, the
30 ms of the debounce that follow it, and the press (R186, log 25). -/
def execKeyPress (t : Nat) (key : Key) (s : State) : Outcome State Fault Refusal :=
  .next (conclude (pressKey key ((wokenFor t key s).arrive t)))

/-- KEY_RELEASE (R169, R170, R173): not taken in SLEEP (log 25). -/
def execKeyRelease (t : Nat) (key : Key) (s : State) : Outcome State Fault Refusal :=
  concluding t (releaseKey key) s

/-- KEY_LONG (R169, R170, R173). -/
def execKeyLong (t : Nat) (key : Key) (s : State) : Outcome State Fault Refusal :=
  concluding t (holdKey key) s

/-- DIM_DEADLINE (R182). -/
def execDimDeadline (t : Nat) (s : State) : Outcome State Fault Refusal :=
  whileAwake t dimPasses s

/-- STANDBY_DEADLINE (R182). -/
def execStandbyDeadline (t : Nat) (s : State) : Outcome State Fault Refusal :=
  whileAwake t standbyPasses s

/-- WAKE (R186): the first start bit on the cue link, or a key input that changes to down. The press of a key that woke
the part is taken by its own command, 30 ms later at the earliest. -/
def execWake (t : Nat) (cause : WakeCause) (s : State) : Outcome State Fault Refusal :=
  match cause with
  | .startBit => .next (conclude (wakeIfAsleep (s.arrive t)))
  | .key k => .next (conclude (wakeByKey k (s.arrive t)))

end Sys2Proof.Machine
end

