-- ==== Sys2Proof/Machine/Dispatch.lean ====
section
/-! DEFINITION. One arm for each command of the HG24. -/

namespace Sys2Proof.Machine

open Sys2Proof

def exec (i : Instr) (s : State) : Host.Outcome State Fault Refusal :=
  match i with
  | .powerOnReset t station zone down flash => Sys2Proof.Machine.execPowerOnReset t station zone down flash s
  | .storeCheckEnd t => Sys2Proof.Machine.execStoreCheckEnd t s
  | .speakerCheckEnd t milliohms => Sys2Proof.Machine.execSpeakerCheckEnd t milliohms s
  | .speakerCheckOvercurrent t => Sys2Proof.Machine.execSpeakerCheckOvercurrent t s
  | .warmUpEnd t => Sys2Proof.Machine.execWarmUpEnd t s
  | .speakerFault t kind => Sys2Proof.Machine.execSpeakerFault t kind s
  | .configure t payload => Sys2Proof.Machine.execConfigure t payload s
  | .sessionBegin t payload => Sys2Proof.Machine.execSessionBegin t payload s
  | .sessionEnd t payload => Sys2Proof.Machine.execSessionEnd t payload s
  | .phase t payload => Sys2Proof.Machine.execPhase t payload s
  | .progress t payload => Sys2Proof.Machine.execProgress t payload s
  | .prompt t payload => Sys2Proof.Machine.execPrompt t payload s
  | .cancel t payload => Sys2Proof.Machine.execCancel t payload s
  | .ack t payload => Sys2Proof.Machine.execAck t payload s
  | .mask t payload => Sys2Proof.Machine.execMask t payload s
  | .remind t payload => Sys2Proof.Machine.execRemind t payload s
  | .remindClear t payload => Sys2Proof.Machine.execRemindClear t payload s
  | .quiet t payload => Sys2Proof.Machine.execQuiet t payload s
  | .sleep t payload trail => Sys2Proof.Machine.execSleep t payload trail s
  | .selftest t payload => Sys2Proof.Machine.execSelftest t payload s
  | .status t payload => Sys2Proof.Machine.execStatus t payload s
  | .reset t payload down trail => Sys2Proof.Machine.execReset t payload down trail s
  | .unknownCue t type payload => Sys2Proof.Machine.execUnknownCue t type payload s
  | .cueFrameDiscard t rx last badStop => Sys2Proof.Machine.execCueFrameDiscard t rx last badStop s
  | .interByteTimeout t rx => Sys2Proof.Machine.execInterByteTimeout t rx s
  | .reportSent t => Sys2Proof.Machine.execReportSent t s
  | .peerClaim t frame => Sys2Proof.Machine.execPeerClaim t frame s
  | .peerRelease t frame => Sys2Proof.Machine.execPeerRelease t frame s
  | .peerPresence t frame => Sys2Proof.Machine.execPeerPresence t frame s
  | .badFrame t bits => Sys2Proof.Machine.execBadFrame t bits s
  | .frameStart t => Sys2Proof.Machine.execFrameStart t s
  | .arbitrationLoss t => Sys2Proof.Machine.execArbitrationLoss t s
  | .bitError t rest => Sys2Proof.Machine.execBitError t rest s
  | .stuckLine t => Sys2Proof.Machine.execStuckLine t s
  | .ownClaimSent t => Sys2Proof.Machine.execOwnClaimSent t s
  | .ownReleaseSent t => Sys2Proof.Machine.execOwnReleaseSent t s
  | .ownPresenceSent t => Sys2Proof.Machine.execOwnPresenceSent t s
  | .listenInEnd t => Sys2Proof.Machine.execListenInEnd t s
  | .heartbeat t => Sys2Proof.Machine.execHeartbeat t s
  | .recoveryAttempt t => Sys2Proof.Machine.execRecoveryAttempt t s
  | .recoveryTimeout t => Sys2Proof.Machine.execRecoveryTimeout t s
  | .finalPresenceTimeout t => Sys2Proof.Machine.execFinalPresenceTimeout t s
  | .peerLost t station => Sys2Proof.Machine.execPeerLost t station s
  | .claimExpiry t station => Sys2Proof.Machine.execClaimExpiry t station s
  | .settleWindowEnd t station => Sys2Proof.Machine.execSettleWindowEnd t station s
  | .turnGapEnd t => Sys2Proof.Machine.execTurnGapEnd t s
  | .waitBucketStep t tag => Sys2Proof.Machine.execWaitBucketStep t tag s
  | .deadline t tag => Sys2Proof.Machine.execDeadline t tag s
  | .chimeEnd t => Sys2Proof.Machine.execChimeEnd t s
  | .itemEnd t => Sys2Proof.Machine.execItemEnd t s
  | .itemGapEnd t => Sys2Proof.Machine.execItemGapEnd t s
  | .silentServiceEnd t => Sys2Proof.Machine.execSilentServiceEnd t s
  | .repeatDue t tag => Sys2Proof.Machine.execRepeatDue t tag s
  | .phraseReadTimeout t => Sys2Proof.Machine.execPhraseReadTimeout t s
  | .toneStepEnd t => Sys2Proof.Machine.execToneStepEnd t s
  | .clickEnd t => Sys2Proof.Machine.execClickEnd t s
  | .scrollStep t field => Sys2Proof.Machine.execScrollStep t field s
  | .blinkPhase t field => Sys2Proof.Machine.execBlinkPhase t field s
  | .ambientSample t reading => Sys2Proof.Machine.execAmbientSample t reading s
  | .sampleHoldSettled t => Sys2Proof.Machine.execSampleHoldSettled t s
  | .estimateDecrement t => Sys2Proof.Machine.execEstimateDecrement t s
  | .slotFiring t slot => Sys2Proof.Machine.execSlotFiring t slot s
  | .keyPress t key => Sys2Proof.Machine.execKeyPress t key s
  | .keyRelease t key => Sys2Proof.Machine.execKeyRelease t key s
  | .keyLong t key => Sys2Proof.Machine.execKeyLong t key s
  | .dimDeadline t => Sys2Proof.Machine.execDimDeadline t s
  | .standbyDeadline t => Sys2Proof.Machine.execStandbyDeadline t s
  | .wake t cause => Sys2Proof.Machine.execWake t cause s
  | .lineIdle t => Sys2Proof.Machine.execLineIdle t s

end Sys2Proof.Machine
end

