-- ==== Sys2Proof/Machine/Audio.lean ====
section
/-! DEFINITION. What is driven at the loudspeaker and at the piezo in the present millisecond (R49, R50, R119, R129, R131,
R134, R187, R203): the samples of phrase audio, the notes of the voices, the test tone. -/

namespace Sys2Proof.Machine

open Sys2Proof

/-- The two 4-bit codes of a byte of phrase audio: the sample in the high four bits is played first (R203). -/
def codesOf (b : Byte) : List (BitVec 4) := [b.extractLsb' 4 4, b.extractLsb' 0 4]

/-- The first `n` codes of a phrase's audio, read from the flash at the address of its directory record (R49, R203). -/
def PhraseItem.codes (p : PhraseItem) (flash : Flash) (n : Nat) : List (BitVec 4) :=
  ((flash.bytesAt p.audioAddress ((n + 1) / 2)).flatMap codesOf).take n

/-- Sample `k` of a phrase: the decoder, its predictor and step index zero at the start of the phrase, has taken the codes
up to that sample's own (R49). The value is the decoder's (free value, log 29). -/
def PhraseItem.sample (p : PhraseItem) (flash : Flash) (k : Nat) : Int := Config.adpcmSample (p.codes flash (k + 1))

/-- Sample `k` of the phrase being played, as it is driven: silence where its byte does not sound (R50, R51). -/
def State.drivenSample (s : State) (p : PhraseItem) (start : Nat) (stop : Option Nat) (k : Nat) : Int :=
  if s.byteSounds p start stop (k / 2) then p.sample s.store.flash k else 0

/-- The 16 samples of the millisecond that begins now (R50). -/
def State.speechSamples (s : State) (p : PhraseItem) (start : Nat) (stop : Option Nat) : List Int :=
  (List.range Config.samplesPerMs).map fun i => s.drivenSample p start stop (Config.samplesPerMs * (s.now - start) + i)

/-- What an output is driven with. -/
inductive Drive where
  /-- Nothing. -/
  | silence
  /-- A tone of this frequency in Hz, at the amplifier's gain. -/
  | tone (hz : Nat)
  /-- A square wave of this frequency in Hz and this duty (R131). -/
  | pulses (hz duty : Nat)
  /-- Samples of phrase audio, at the amplifier's gain. -/
  | samples (xs : List Int)
deriving DecidableEq, Repr

/-- What the note of a chime drives its device with; nothing in a rest and while it is muted (R125, R129). -/
def Chime.drive (c : Chime) (note : Nat → Drive) : Drive :=
  match c.muted, c.stepOf.bind ToneStep.divider with
  | false, some d => note (pitch d)
  | _, _ => .silence

/-- What the speech output drives: the samples of a phrase, silence in a pause and in a gap (R49, R50). -/
def State.speechDrive (s : State) : Drive :=
  match s.playedPhrase with
  | some x => .samples (s.speechSamples x.1 x.2.1 x.2.2)
  | none => .silence

/-- What the amplifier drives the loudspeaker with: the 1 kHz tone of a check's test (R187), the note of a chime on the
loudspeaker (R127, R129), or speech (R49); nothing while it is not ON (R183). -/
def State.speakerDrive (s : State) : Drive :=
  if s.ampOff then .silence
  else
    match s.power.check, s.tone.chime with
    | .test _ _, _ => .tone Config.checkTone
    | _, .playing c => if c.device = .speaker then c.drive .tone else s.speechDrive
    | _, _ => s.speechDrive

/-- What the piezo is driven with: the note of a chime on the piezo at its duty, or the click's (R124, R131, R134). -/
def State.piezoDrive (s : State) : Drive :=
  match s.tone.chime, s.tone.click with
  | .playing c, click =>
    if c.device = .piezo then c.drive fun hz => .pulses hz c.duty
    else match click with
      | .playing duty _ => .pulses (pitch 125) duty
      | .idle => .silence
  | _, .playing duty _ => .pulses (pitch 125) duty
  | _, .idle => .silence

end Sys2Proof.Machine
end

