-- ==== Sys2Proof/Safety.lean ====
section
/-! DEFINITION. What counts as a safe run: the bounds the manual gives its stores, the deadlines that have not been left
behind, and what the statements say of a step in the terms they share. -/

namespace Sys2Proof.Safety

open Sys2Proof Machine

/-! ### Deadlines (R1, log 2) -/

/-- Some interval has been left behind by more than R1 allows: no command leads there from a state that is not so, but the
wake of a part with a key PRESSED through SLEEP (log 2). -/
def Overdue (s : State) : Bool := s.runningTimers.any fun tm => tm.late s.now

/-! ### Bounds -/

/-- A counter within its range (00_scope.md "Counters"). -/
def counter (n : Nat) : Prop := n ≤ Config.counterLimit

/-- Every counter within its range, the run of bit errors at most 16 (R62, R196). -/
def CountersBounded (s : State) : Prop :=
  counter s.link.framingErrors ∧ counter s.link.refusals ∧ counter s.link.reportsLost ∧ counter s.seq.internalDrops
    ∧ counter s.seq.cuts ∧ counter s.store.readErrors ∧ counter s.store.truncated ∧ counter s.level.maskedPhrases
    ∧ counter s.hall.framesReceived ∧ counter s.hall.badFrames ∧ counter s.hall.ownBitErrors
    ∧ counter s.floor.claimsSent ∧ counter s.floor.claimsConfirmed ∧ counter s.floor.claimsLost
    ∧ counter s.floor.overlaps ∧ counter s.power.weakSpeaker ∧ s.hall.errorRun ≤ Config.errorRun

/-- The prompt queue stands in queue order (R4). -/
def QueueInOrder (s : State) : Prop := s.seq.queue.Pairwise fun a b => b.before a = false

/-- The stores within their capacities: 16 entries (R5), 4 awaiting records (R175), 16 reports (R195), 8 samples (R109);
before HELLO the report queue is empty, and the reports that wait leave room for it (R198, log 43). The prompt queue stands in
its order (R4). -/
def StoresBounded (s : State) : Prop :=
  s.seq.queue.length ≤ Config.queueLimit ∧ s.panel.awaiting.length ≤ Config.awaitingLimit
    ∧ s.link.reports.length ≤ Config.reportLimit ∧ s.level.ring.length ≤ Config.ringLimit
    ∧ s.link.early.length + 1 ≤ Config.reportLimit ∧ (s.link.listening = false → s.link.reports = []) ∧ QueueInOrder s

/-- The tag of an entry lies in the range of the block that made it (R3), and no entry of another block than the machine
controller needs acknowledgement (R2). -/
def TagInRange (e : Entry) : Prop :=
  (e.origin = .machine ∧ 1 ≤ e.tag ∧ e.tag ≤ 63)
    ∨ (e.origin = .reminder ∧ 64 ≤ e.tag ∧ e.tag ≤ 67 ∧ e.ackRequired = false)
    ∨ (e.origin = .mark ∧ 68 ≤ e.tag ∧ e.tag ≤ 71 ∧ e.ackRequired = false)
    ∨ (e.origin = .key ∧ 72 ≤ e.tag ∧ e.tag ≤ 74 ∧ e.ackRequired = false)

/-- A tag is held by at most one record among the prompt queue and the awaiting list, an entry's in the range of its block, an
awaiting record's in 1-63 (R3). -/
def TagsHeldOnce (s : State) : Prop :=
  (s.seq.queue.map Entry.tag ++ s.panel.awaiting.map Awaiting.tag).Nodup ∧ (∀ e ∈ s.seq.queue, TagInRange e)
    ∧ ∀ a ∈ s.panel.awaiting, 1 ≤ a.tag ∧ a.tag ≤ 63

/-- The view holds one record for each peer it has heard, in station order, of a number 1-31 that is not this station's own
(R75). -/
def OneRecordEach (s : State) : Prop :=
  (s.floor.peers.map Peer.station).Pairwise (· < ·)
    ∧ ∀ p ∈ s.floor.peers, 1 ≤ p.station ∧ p.station ≤ 31 ∧ p.station ≠ s.straps.station

/-- The values in their ranges: samples 30-110 dB and G 0-45 (R109), V_s and the default volume 0-7 (R165, R193), R at
most 43,200 s (R148). -/
def ValuesBounded (s : State) : Prop :=
  (∀ x ∈ s.level.ring, 30 ≤ x ∧ x ≤ 110) ∧ s.level.lastG ≤ 45 ∧ s.panel.volume ≤ 7
    ∧ s.link.config.defaultVolume ≤ 7 ∧ s.rem.estimate ≤ Config.paramLimit

/-- The flash's memory is in canonical form. -/
def MemoryCanonical (s : State) : Prop := s.store.flash.wf = true

/-- A pending level has a gain within 0-45: what a step needs to keep `ValuesBounded`. -/
def PendingBounded (s : State) : Prop :=
  ∀ v, s.seq.slot = some v → ∀ r, v.pendingLevel = some r → r.gain ≤ 45

/-! ### Hypotheses the statements share -/

/-- The part can take a cue from its start byte on: it is awake, HELLO has been made, and no partial frame is held
(R191, R198). -/
def CueReady (s : State) : Prop := s.power.mode ≠ .sleep ∧ s.link.listening = true ∧ s.link.framer = .hunt

/-- The selection that follows a step finds nothing to take: the slot is taken or the queue is empty (R18). -/
def NothingToSelect (s : State) : Prop := s.seq.slot.isSome = true ∨ s.seq.queue = []

/-- HELLO has been made, and one more report fits into the report queue (R195, R198). -/
def ReportFits (s : State) : Prop := s.link.listening = true ∧ s.link.reports.length < Config.reportLimit

/-- The port is driving this frame of its list (R61). -/
def Driving (s : State) (f : TxFrame) : Prop := s.hall.line = .sending ∧ s.hall.driven = some f

/-- The diagnostic code of HELLO for the three conditions of R198: store FAILED, speaker SHORT or OPEN, line STUCK. -/
def helloCode (failed fault stuck : Bool) : Byte :=
  match failed, fault, stuck with
  | false, false, false => 0x01#8
  | true, false, false => 0x02#8
  | false, true, false => 0x03#8
  | false, false, true => 0x04#8
  | true, _, _ => 0x82#8
  | false, true, true => 0x83#8

/-- The timebase has reached `due` when a command that names the instant `t` is taken (logs 1 and 2). -/
def DueAt (s : State) (t due : Nat) : Prop := due ≤ s.instant t

/-- Commands that have an effect in SLEEP: what wakes or resets the part, the bytes of the cue link, the reports still
queued, and the end of a click (R185, R186, R195, log 26). -/
def stirsSleep : Instr → Bool
  | .powerOnReset _ _ _ _ _ => true
  | .configure _ _ => true
  | .sessionBegin _ _ => true
  | .sessionEnd _ _ => true
  | .phase _ _ => true
  | .progress _ _ => true
  | .prompt _ _ => true
  | .cancel _ _ => true
  | .ack _ _ => true
  | .mask _ _ => true
  | .remind _ _ => true
  | .remindClear _ _ => true
  | .quiet _ _ => true
  | .sleep _ _ _ => true
  | .selftest _ _ => true
  | .status _ _ => true
  | .reset _ _ _ _ => true
  | .unknownCue _ _ _ => true
  | .cueFrameDiscard _ _ _ _ => true
  | .interByteTimeout _ _ => true
  | .reportSent _ => true
  | .clickEnd _ => true
  | .keyPress _ _ => true
  | .wake _ _ => true
  | _ => false

/-- The part holds a template, as the template check asks: a READY store has it, and a FAILED one is not asked (R7, R13). -/
def TemplateKnown (s : State) (template : Nat) : Prop := s.store.state = .ready → template < s.store.flash.templateCount

/-- A PROMPT payload with every field in its range (R6). -/
def PromptInRange (p : List Byte) : Prop :=
  p.length = 12 ∧ 1 ≤ at1 p 0 ∧ at1 p 0 ≤ 63 ∧ at1 p 1 ≤ 3 ∧ at2 p 3 ≤ 43200 ∧ at2 p 5 ≤ 43200 ∧ 1 ≤ at1 p 7
    ∧ at1 p 7 ≤ 7 ∧ at1 p 8 ≤ 1 ∧ at1 p 9 ≤ 3

/-- An entry carries the fields of a PROMPT payload, first delivery and uncut (R2, R8, R12). -/
def CarriesPrompt (p : List Byte) (e : Entry) : Prop :=
  e.origin = .machine ∧ e.cls.val = at1 p 1 ∧ e.template = at1 p 2 ∧ e.param1 = at2 p 3 ∧ e.param2 = at2 p 5
    ∧ e.channels = ⟨(at1 p 7).testBit 0, (at1 p 7).testBit 1, (at1 p 7).testBit 2⟩
    ∧ e.ackRequired = decide (at1 p 8 = 1) ∧ e.repeatsLeft = at1 p 9 ∧ e.repeatInterval = max 5 (min 60 (at1 p 10))
    ∧ e.cutCount = 0

/-- While it waits, an entry has the deadline of a PROMPT payload taken at `now`: 0 gives none (R2). -/
def HasPromptDeadline (p : List Byte) (now : Nat) (e : Entry) : Prop :=
  e.state = .queued → e.deadline = if at1 p 11 = 0 then none else some ⟨now + at1 p 11 * 1000, at1 p 11 * 1000⟩

/-! ### The capacity of the prompt queue -/

/-- The victim of the capacity check (R11): of the QUEUED entries of the lowest class that a QUEUED entry holds the one of the
latest arrival stamp, and among equal stamps the one that stands last. -/
def IsVictim (s : State) (v : Entry) : Prop :=
  v.state = .queued ∧ ∃ l r, s.seq.queue = l ++ v :: r
    ∧ (∀ x ∈ l ++ r, x.state = .queued → v.cls.val ≤ x.cls.val ∧ (x.cls = v.cls → x.arrival ≤ v.arrival))
    ∧ ∀ x ∈ r, x.state = .queued → x.cls = v.cls → x.arrival < v.arrival

/-- The capacity check refuses a new entry of a class (R11): the queue holds 16, and the victim's class is no lower. -/
def QueueFull (s : State) (cls : Nat) : Prop :=
  QueueInOrder s ∧ 16 ≤ s.seq.queue.length ∧ ∃ v, IsVictim s v ∧ cls ≤ v.cls.val

/-- The capacity check makes room for a new entry of a class by a victim of lower class (R11). -/
def Evicts (s : State) (cls : Nat) (v : Entry) : Prop :=
  QueueInOrder s ∧ 16 ≤ s.seq.queue.length ∧ IsVictim s v ∧ v.cls.val < cls

/-- The capacity check passes for a new entry of a class (R11). -/
def HasRoom (s : State) (cls : Nat) : Prop := s.seq.queue.length < 16 ∨ ∃ v, Evicts s cls v

/-- What a victim is answered with (R11): DONE/DROPPED for an entry of the machine controller, else nothing. -/
def victimReports (v : Entry) : List Report := if v.origin = .machine then [.done v.tag .dropped] else []

/-! ### What a frame speaks of: `s` before a command and `u` after it -/

/-- The Hall Line Port but for its list and its recovery schedule. -/
def LineKept (s u : State) : Prop :=
  u.hall.line = s.hall.line ∧ u.hall.idleCounting = s.hall.idleCounting ∧ u.hall.onLine = s.hall.onLine
    ∧ u.hall.state = s.hall.state ∧ u.hall.errorRun = s.hall.errorRun ∧ u.hall.heartbeat = s.hall.heartbeat
    ∧ u.hall.finalTimer = s.hall.finalTimer ∧ u.hall.watch = s.hall.watch
    ∧ u.hall.framesReceived = s.hall.framesReceived
    ∧ u.hall.badFrames = s.hall.badFrames ∧ u.hall.ownBitErrors = s.hall.ownBitErrors

/-- The neighbour view, the own live claim and the counters of the Floor Unit. -/
def ViewKept (s u : State) : Prop :=
  u.floor.peers = s.floor.peers ∧ u.floor.own.claim = s.floor.own.claim ∧ u.floor.own.released = s.floor.own.released
    ∧ u.floor.claimsSent = s.floor.claimsSent ∧ u.floor.claimsConfirmed = s.floor.claimsConfirmed
    ∧ u.floor.claimsLost = s.floor.claimsLost ∧ u.floor.overlaps = s.floor.overlaps

/-- The Reminder Unit. -/
def RemindersKept (s u : State) : Prop := u.rem = s.rem

/-- Estimate and marks of the Reminder Unit. -/
def EstimateKept (s u : State) : Prop :=
  u.rem.estimate = s.rem.estimate ∧ u.rem.running = s.rem.running ∧ u.rem.marks = s.rem.marks

/-- Session and Panel but for the repeat list. -/
def SessionKept (s u : State) : Prop :=
  u.panel.inSession = s.panel.inSession ∧ u.panel.language = s.panel.language ∧ u.panel.volume = s.panel.volume
    ∧ u.panel.keys = s.panel.keys ∧ u.panel.inputs = s.panel.inputs
    ∧ u.panel.lastCompleted = s.panel.lastCompleted
    ∧ u.panel.helpTemplate = s.panel.helpTemplate ∧ u.panel.awaiting = s.panel.awaiting

/-- Session and Panel. -/
def PanelKept (s u : State) : Prop := u.panel = s.panel

/-- The configuration with its lock, and whether cues are taken. -/
def SettingsKept (s u : State) : Prop :=
  u.link.config = s.link.config ∧ u.link.locked = s.link.locked ∧ u.link.listening = s.link.listening

/-- The framer and the counters of the cue link. -/
def FramerKept (s u : State) : Prop :=
  u.link.framer = s.link.framer ∧ u.link.framingErrors = s.link.framingErrors ∧ u.link.refusals = s.link.refusals

/-- The report queue, the reports held for HELLO and the count of lost reports. -/
def ReportsKept (s u : State) : Prop :=
  u.link.reports = s.link.reports ∧ u.link.early = s.link.early ∧ u.link.reportsLost = s.link.reportsLost

/-- The tags of the prompt queue in their order, the class mask, and the counters of the Sequencer. -/
def QueueKept (s u : State) : Prop :=
  u.seq.queue.map Entry.tag = s.seq.queue.map Entry.tag ∧ u.seq.mask = s.seq.mask
    ∧ u.seq.madeCount = s.seq.madeCount ∧ u.seq.internalDrops = s.seq.internalDrops ∧ u.seq.cuts = s.seq.cuts

/-- The phrase store but for the counters of composition. -/
def StoreKept (s u : State) : Prop :=
  u.store.state = s.store.state ∧ u.store.index = s.store.index ∧ u.store.flash = s.store.flash

/-- The ambient ring with its schedule, and quiet mode. -/
def LevelKept (s u : State) : Prop :=
  u.level.ring = s.level.ring ∧ u.level.sampleDue = s.level.sampleDue ∧ u.level.quiet = s.level.quiet

/-- The speaker check and its results. -/
def SpeakerKept (s u : State) : Prop :=
  u.power.check = s.power.check ∧ u.power.result = s.power.result ∧ u.power.impedance = s.power.impedance
    ∧ u.power.weakSpeaker = s.power.weakSpeaker

/-- The status line: phase ids and text, and the time field but for its blink. -/
def StatusLineKept (s u : State) : Prop :=
  u.display.phase = s.display.phase ∧ u.display.phaseText = s.display.phaseText
    ∧ u.display.timeShown = s.display.timeShown ∧ u.display.minutes = s.display.minutes
    ∧ u.display.paused = s.display.paused

/-- Everything a step of the hall line leaves but for its reports: the reminders, the panel, the settings, the cue link,
the queue's tags, the store, the ring, the speaker results and the status line. -/
def BesidesHallKept (s u : State) : Prop :=
  RemindersKept s u ∧ PanelKept s u ∧ SettingsKept s u ∧ FramerKept s u ∧ QueueKept s u ∧ StoreKept s u ∧ LevelKept s u
    ∧ SpeakerKept s u ∧ StatusLineKept s u

/-- Everything a step of a service leaves but for its reports: the line, the peers, the reminders, the settings, the cue
link, the store, the ring, the speaker results and the status line. -/
def BesidesServiceKept (s u : State) : Prop :=
  LineKept s u ∧ u.floor.peers = s.floor.peers ∧ RemindersKept s u ∧ SettingsKept s u ∧ FramerKept s u ∧ StoreKept s u
    ∧ LevelKept s u ∧ SpeakerKept s u ∧ StatusLineKept s u

/-! ### Selection and composition -/

/-- An entry that is selected now gets a silent service (R18): its channels hold DISPLAY alone, its effective volume is 0, or the
hall state is FAULT; the last two for class STATUS and COURTESY only. -/
def SilentNow (s : State) (e : Entry) : Prop :=
  e.channels = ⟨false, false, true⟩ ∨ (e.cls.val ≤ 1 ∧ s.panel.volume = 0)
    ∨ (e.cls.val ≤ 1 ∧ s.hall.state.isFault = true)

/-- No live claim of a peer in the own zone outranks the claim that an entry would send now (R17, R80, R103; log 48). -/
def FloorClear (s : State) (e : Entry) : Prop :=
  ∀ x ∈ s.peerClaims, x.2.zone = s.straps.zone →
    (x.2.rankKey x.1).outranks ⟨e.cls.val, min 15 ((s.now - e.arrival) / 2000), s.straps.station⟩ = false

/-- An audible service of an entry is permitted now (R17): no recovery attempt has fallen due, in LISTEN_IN the class is SAFETY,
and in LISTEN_IN and ON the floor is clear. -/
def AudibleNow (s : State) (e : Entry) : Prop :=
  s.hall.recovery ≠ .waiting ∧ (∀ start, s.hall.recovery ≠ .attempting start)
    ∧ (∀ tm, s.hall.state = .listenIn tm → e.cls = .safety) ∧ (s.hall.state.isUp = true → FloorClear s e)

/-- An entry may be selected now (R17): QUEUED, its class not masked, no check running, no GAP but for SAFETY, and the service it
would get permitted. An entry that has left its deadline behind by more than R1 allows is not (the model's choice, log 2). -/
def MaySelect (s : State) (e : Entry) : Prop :=
  e.state = .queued ∧ s.seq.mask.masks e.cls = false ∧ s.power.check = .idle
    ∧ (s.floor.own.state = .gap → e.cls = .safety) ∧ (SilentNow s e ∨ AudibleNow s e)
    ∧ ∀ tm, e.deadline = some tm → s.now ≤ tm.due + (tm.len + 99) / 100

/-- The selection takes this entry (R18): the slot is empty, and of the queue it is the first that may be selected. -/
def NextTaken (s : State) (e : Entry) : Prop :=
  s.seq.slot = none ∧ ∃ l r, s.seq.queue = l ++ e :: r ∧ (∀ x ∈ l, ¬ MaySelect s x) ∧ MaySelect s e

/-- The route of an audible service selected now (R18). -/
def RouteNow (s : State) (route : Route) : Prop :=
  (route = .piezo ↔ s.power.result = .short ∨ s.power.result = .open_) ∧ (route = .fallback → s.store.state = .failed)
    ∧ (route = .speech → s.store.state ≠ .failed)

/-- The queue with the entries of a tag changed. -/
def queueWith (tag : Nat) (f : Entry → Entry) (s : State) : List Entry :=
  s.seq.queue.map fun x => if x.tag = tag then f x else x

/-- The template an entry is composed from (R46, R173): phrase 107 alone for tag 74, and no items and no chime where the read of
its template gets no answer. -/
def templateOfEntry (s : State) (e : Entry) : Template :=
  if e.tag = 74 then ⟨none, [.phrase 107]⟩ else (s.readTemplate e.template).getD ⟨none, []⟩

/-- The template reads that fail in the composition of an entry (R46). -/
def templateMissed (s : State) (e : Entry) : Nat := if e.tag ≠ 74 ∧ (s.readTemplate e.template).isNone = true then 1 else 0

/-- The chime of a script on the SPEECH route (R43); chime 0 to 3 is the class chime of SAFETY to COURTESY (R126). -/
def chimeOf (e : Entry) (t : Template) : Option Nat :=
  match t.chime with
  | some c => some c
  | none => if e.cls = .safety then some 0 else if e.channels.speech = true then none else some (3 - e.cls.val)

/-- The station prefix is called for (R42); that it is where the template gives no items of its own is the model's choice,
log 45. -/
def PrefixPlaced (s : State) (t : Template) : Prop :=
  s.hall.state ≠ .off ∧ t.items.head? ≠ some .station
    ∧ (s.link.config.policy = .always ∨ s.link.config.policy = .auto ∧ s.busyOpen = true)

/-- The length of items with their gaps, a chime and a warm-up in units of 100 ms, rounded up (R45). -/
def unitsOf (s : State) (chime : Option Nat) (items : List ScriptItem) : Nat :=
  ((items.map ScriptItem.ms).sum + 40 * (items.length - 1) + (if chime.isSome then 400 else 0)
    + (if s.power.amp = .on then 0 else 120) + 99) / 100

/-- The counters of a composition (R44, R46): the failed reads, and the one script that lost items. -/
def CompositionCounted (failed : Nat) (dropped : Bool) (s u : State) : Prop :=
  u.store.readErrors = min 65535 (s.store.readErrors + failed)
    ∧ u.store.truncated = if dropped then min 65535 (s.store.truncated + 1) else s.store.truncated

/-- A script composed with SPEECH among the channels (R38, R42 to R46, R48): `lead` is the station prefix or nothing, `full` what
the two lists leave after the item limit, or the pause of 100 ms where they leave nothing and no chime stands before it; its
items are the most of them, from the first on, that give an estimate of 255 units or less. -/
def SpokenScript (s u : State) (e : Entry) (t : Template) (sc : Script) : Prop :=
  ∃ (lead : Expansion) (full : List ScriptItem),
    (PrefixPlaced s t → lead = s.expandStation) ∧ (¬ PrefixPlaced s t → lead = ⟨[], 0⟩)
      ∧ full =
          (if lead.items ++ (s.expandItems e t.items).items = [] ∧ chimeOf e t = none then [.pause 100]
            else (lead.items ++ (s.expandItems e t.items).items).take 12)
      ∧ sc.items <+: full ∧ unitsOf s (chimeOf e t) sc.items ≤ 255
      ∧ (∀ n, n ≤ full.length → unitsOf s (chimeOf e t) (full.take n) ≤ 255 → n ≤ sc.items.length)
      ∧ sc.chime = chimeOf e t ∧ sc.estimate = max 1 (unitsOf s (chimeOf e t) sc.items) ∧ sc.pieces = piecesOf [] sc.items
      ∧ CompositionCounted (templateMissed s e + lead.failed + (s.expandItems e t.items).failed)
          (decide (sc.items.length < (lead.items ++ (s.expandItems e t.items).items).length)) s u

/-- The script of an entry selected in the state `s`, by the kind of its service (R36 to R38, R47, R139; a silent service by the
store's state, log 40). -/
def ScriptComposed (s u : State) (e : Entry) (kind : Kind) (sc : Script) : Prop :=
  (kind = .audible .speech ∨ kind = .silent ∧ s.store.state = .ready →
      (e.channels.speech = true → SpokenScript s u e (templateOfEntry s e) sc)
        ∧ (e.channels.speech = false →
          sc.chime = chimeOf e (templateOfEntry s e) ∧ sc.items = []
            ∧ sc.estimate = max 1 (unitsOf s (chimeOf e (templateOfEntry s e)) [])
            ∧ sc.pieces = piecesOf [] ((s.expandItems e (templateOfEntry s e).items).items.take 12)
            ∧ CompositionCounted (templateMissed s e + (s.expandItems e (templateOfEntry s e).items).failed) false s u))
    ∧ (kind = .audible .fallback ∨ kind = .silent ∧ s.store.state ≠ .ready →
      sc = ⟨some (3 - e.cls.val), [], if s.power.amp = .on then 4 else 6, []⟩ ∧ CompositionCounted 0 false s u)
    ∧ (kind = .audible .piezo →
      (s.store.state = .ready →
          sc = ⟨some ((templateOfEntry s e).chime.getD 0), [], 4, []⟩ ∧ CompositionCounted (templateMissed s e) false s u)
        ∧ (s.store.state ≠ .ready → sc = ⟨some 0, [], 4, []⟩ ∧ CompositionCounted 0 false s u))

/-! ### The start of a service -/

/-- The level of a service of a class as the state gives it (R115): the ambient average, the effective volume, the adjacent
holders, quiet mode. -/
def levelNow (s : State) (cls : Cls) : LevelResult :=
  levelResult (ambientAverage s.level.ring) (effectiveVolume cls s.panel.volume) s.nAdj s.level.quiet cls

/-- A result of the level computation has been applied (R118, R119): its gain is G, and a masked one is counted and latched. -/
def LevelApplied (r : LevelResult) (s u : State) : Prop :=
  u.level.lastG = r.gain
    ∧ u.level.maskedPhrases = (if r.masked then min 65535 (s.level.maskedPhrases + 1) else s.level.maskedPhrases)
    ∧ u.link.latches = if r.masked then { s.link.latches with masked := true } else s.link.latches

/-- No result has been applied. -/
def LevelWaits (s u : State) : Prop :=
  u.level.lastG = s.level.lastG ∧ u.level.maskedPhrases = s.level.maskedPhrases ∧ u.link.latches = s.link.latches

/-- The blink of line 1 after a result has been applied at the instant `now` (R118, R143): a masked one sets MASKED, its phase
begun on, but where the mode is MASKED already or line 1 holds no text. -/
def blinkAfter (now : Nat) (r : LevelResult) (text : Option PromptText) (blink : Blink) : Blink :=
  if r.masked then
    match text, blink with
    | none, b => b
    | some _, .masked on tm => .masked on tm
    | some _, _ => .masked true ⟨now + 250, 250⟩
  else blink

/-- What a chime voice holds for a service (R124, R127, R129). -/
def ChimeOfService (e : Entry) (route : Route) (script : Script) (r : LevelResult) (id : Nat) (c : Chime) : Prop :=
  c.id = id ∧ c.device = (if route = .piezo then .piezo else .speaker) ∧ c.gain = r.gain ∧ c.duty = r.duty
    ∧ (c.muted = true ↔ route = .speech ∧ e.channels.tone = false ∧ e.cls ≠ .safety ∧ script.items ≠ [])

/-- The output of a service has begun now (R22, R49, R115, R127): its level is applied, and the chime plays from its first step,
on the piezo in place of a click, or, without a chime, the first item plays. -/
def OutputBegun (e : Entry) (route : Route) (script : Script) (r : LevelResult) (s u : State) : Prop :=
  LevelApplied r s u
    ∧ (∀ id, script.chime = some id →
        (∃ c, u.tone.chime = .playing c ∧ ChimeOfService e route script r id c ∧ c.step = 0 ∧ c.start = u.now
            ∧ c.stepStart = u.now)
          ∧ u.speech = s.speech ∧ u.tone.click = if route = .piezo then .idle else s.tone.click)
    ∧ (script.chime = none →
        u.tone = s.tone ∧ ∀ x, script.items[0]? = some x → u.speech = .playing 0 x.phraseOf u.now none)

/-- The warm-up of a service has begun now (R127, R183): 120 ms, the chime, if any, WAITING, and no output. -/
def WarmUpBegun (e : Entry) (route : Route) (script : Script) (r : LevelResult) (s u : State) : Prop :=
  LevelWaits s u ∧ u.power.amp = .warming ⟨u.now + 120, 120⟩ ∧ u.speech = s.speech ∧ u.tone.click = s.tone.click
    ∧ (∀ id, script.chime = some id → ∃ c, u.tone.chime = .waiting c ∧ ChimeOfService e route script r id c)
    ∧ (script.chime = none → u.tone.chime = s.tone.chime)

/-- The text of line 1 that pieces give (R139): their characters with one space between, the first 128; the class fallback word
where that is nothing (R36; the character codes are the model's choice, log 50). -/
def textOf (cls : Cls) (pieces : List Piece) : List Byte :=
  if (pieces.map Piece.chars).filter (· ≠ []) = [] then fallbackWord cls
  else ([spaceChar].intercalate ((pieces.map Piece.chars).filter (· ≠ []))).take 128

/-- The text a service posts when it starts (R141), or none. -/
def textPosted (s : State) (e : Entry) (kind : Kind) (script : Script) : Option (List Byte) :=
  match kind with
  | .audible .speech => if e.channels.display = true then some (textOf e.cls script.pieces) else none
  | .audible _ => some (fallbackWord e.cls)
  | .silent => some (if s.store.state = .ready then textOf e.cls script.pieces else fallbackWord e.cls)

/-- A text posted for a class stands on line 1 from its first character (R138, R141); with none posted, line 1 stays as it is. -/
def TextStands (text : Option (List Byte)) (cls : Cls) (s u : State) : Prop :=
  (∀ chars, text = some chars →
      u.display.text = some ⟨chars, cls⟩
        ∧ u.display.line1Scroll =
            (if chars.length ≤ 20 then ⟨0, none⟩
              else ⟨0, some ⟨⟨u.now + 1000, 1000⟩, ⟨u.now + 1000, 1000⟩⟩⟩))
    ∧ (text = none → u.display.text = s.display.text)

/-- The blink that a posting for a class starts at the instant `now` (R143). -/
def postedBlink (now : Nat) (cls : Cls) : Blink := if cls = .safety then .safety true ⟨now + 500, 500⟩ else .steady

/-- The audible service of an entry has started now, in the slot that `v` held before (R22, R115, R127, R141, R183): the text is
posted, and the output begins at the level of this moment, or, on the SPEECH and FALLBACK routes with the amplifier not ON, the
warm-up with that level waiting. A masked level blinks line 1 from the output's beginning on; a line 1 left blank does not
blink (R118, R141). -/
def ServiceStarted (e : Entry) (route : Route) (v : Service) (s u : State) : Prop :=
  u.power.mode = .active ∧ TextStands (textPosted s e (.audible route) v.script) e.cls s u
    ∧ (route ≠ .piezo → s.power.amp ≠ .on →
        u.seq.slot = some { v with pendingLevel := some (levelNow u e.cls) }
          ∧ WarmUpBegun e route v.script (levelNow u e.cls) s u
          ∧ (textPosted s e (.audible route) v.script ≠ none → u.display.blink = postedBlink u.now e.cls))
    ∧ (route = .piezo ∨ s.power.amp = .on →
        u.seq.slot = some { v with pendingLevel := none } ∧ u.power.amp = s.power.amp
          ∧ OutputBegun e route v.script (levelNow u e.cls) s u
          ∧ (textPosted s e (.audible route) v.script ≠ none →
              u.display.blink = blinkAfter u.now (levelNow u e.cls) u.display.text (postedBlink u.now e.cls)))
    ∧ (textPosted s e (.audible route) v.script = none → s.display.text = none → s.display.blink = .steady →
        u.display.blink = .steady)

/-- The silent service of an entry has started now (R28): 4,000 ms, its text on line 1, and no output, no level, no claim. -/
def SilentStarted (e : Entry) (v : Service) (s u : State) : Prop :=
  u.power.mode = .active ∧ v.silentEnd = some ⟨u.now + 4000, 4000⟩ ∧ v.pendingLevel = none
    ∧ TextStands (textPosted s e .silent v.script) e.cls s u ∧ u.display.blink = postedBlink u.now e.cls
    ∧ LevelWaits s u ∧ u.speech = s.speech ∧ u.tone = s.tone ∧ u.power.amp = s.power.amp ∧ u.floor = s.floor
    ∧ (s.hall.recovery ≠ .waiting → u.hall.txList = s.hall.txList)

/-! ### Frames a step hands over or takes back -/

/-- What the selection after a step may add to the transmit list: nothing, or the CLAIM of the entry it takes, with the next
sequence (R18, R89). -/
def NextClaim (s : State) (more : List TxEntry) : Prop :=
  more = [] ∨ ∃ c : ClaimContent, c.seq = s.floor.own.nextSeq ∧ more = [⟨.claim c, false⟩]

/-- The transmit list after a step begins with `l`; the CLAIM of the next entry alone may follow (R24). -/
def ListIs (l : List TxEntry) (s u : State) : Prop := ∃ more, NextClaim s more ∧ u.hall.txList = l ++ more

/-- The sequence a RELEASE of the floor carries: the own live claim's, or, where that has expired, the last value the own
sequence counter gave (R95). -/
def ReleaseSeq (o : OwnFloor) (seq : Nat) : Prop :=
  match o.claim with
  | some c => c.seq = some seq
  | none => seq = (o.nextSeq + 15) % 16

/-- A service stops short of its end (R95, R60): a held floor is given up with RELEASE(CUT), which joins the list before the
next entry's CLAIM, and one that is not held with no frame. Not asked in FAULT, where the list stays empty, nor of a recovery
attempt that waits for the slot. -/
def CutReleased (s u : State) : Prop :=
  s.hall.state.isFault = false → s.hall.recovery ≠ .waiting →
    (∀ seq, s.floor.own.state = .holding → ReleaseSeq s.floor.own seq →
        ListIs (s.hall.txList ++ [⟨.release seq .cut, false⟩]) s u ∧ u.floor.own.released = s.floor.own.claim.isSome
          ∧ (u.floor.own.state = .free ∨ u.floor.own.state = .claiming))
      ∧ (s.floor.own.state ≠ .holding → ListIs s.hall.txList s u)

/-- The service of the entry `e` has ended at the instant `t` (R27, R28, R95, R141): the slot, the output and line 1 are empty, the
entry has left a queue that held it alone, and its tag the repeat list (R177). A held floor is given up by an audible service with
RELEASE(COMPLETE) and is in GAP for 250 ms; a silent one leaves the floor as it is. The end is activity. -/
def ServiceEnded (t : Nat) (e : Entry) (s u : State) : Prop :=
  u.seq.slot = none ∧ u.seq.queue = [] ∧ u.speech = .idle ∧ u.tone.chime = .idle ∧ u.display.text = none
    ∧ u.panel.repeats = s.panel.repeats.filter (fun x => x.tag ≠ e.tag)
    ∧ (∀ seq, e.state = .speaking → s.floor.own.state = .holding → ReleaseSeq s.floor.own seq →
        s.hall.state.isFault = false → s.hall.recovery ≠ .waiting →
        u.hall.txList = s.hall.txList ++ [⟨.release seq .complete, false⟩]
          ∧ u.floor.own.released = s.floor.own.claim.isSome)
    ∧ (e.state = .speaking → s.floor.own.state = .holding →
        u.floor.own.state = .gap ∧ u.floor.own.gapEnd = some ⟨s.instant t + 250, 250⟩)
    ∧ (e.state = .showing ∨ s.floor.own.state ≠ .holding →
        u.floor.own = s.floor.own ∧ (s.hall.recovery ≠ .waiting → u.hall.txList = s.hall.txList))
    ∧ u.power.mode = .active ∧ u.panel.keys = s.panel.keys ∧ u.panel.inSession = s.panel.inSession
    ∧ BesidesServiceKept s u

/-- The claim of a CLAIMING entry is withdrawn (R94, R60, R89): for an own live claim RELEASE(WITHDRAWN) is handed over, and the
claim stays; an outgoing CLAIM that waits leaves the list unsent; one on the line runs on, marked; a pending one is dropped.
No claim is lost by it. -/
def ClaimWithdrawn (s u : State) : Prop :=
  s.floor.own.state = .claiming → s.hall.state.isFault = false → s.hall.recovery ≠ .waiting →
    u.floor.claimsLost = s.floor.claimsLost ∧ u.floor.own.claim = s.floor.own.claim
      ∧ (u.floor.own.state = .free ∨ u.floor.own.state = .claiming)
      ∧ (∀ c seq, s.floor.own.pendingClaim = none → s.floor.own.outgoing = none → s.floor.own.claim = some c →
          c.seq = some seq → s.floor.own.released = false →
          ListIs (s.hall.txList ++ [⟨.release seq .withdrawn, false⟩]) s u ∧ u.floor.own.released = true)
      ∧ (∀ o, s.floor.own.pendingClaim = none → s.floor.own.outgoing = some o →
          (∀ x ∈ s.hall.txList, x.isClaim = true → x.driving = false) →
          ListIs (s.hall.txList.filter fun x => !x.isClaim) s u)
      ∧ (∀ o, s.floor.own.pendingClaim = none → s.floor.own.outgoing = some o →
          (∃ x ∈ s.hall.txList, x.isClaim = true ∧ x.driving = true) →
          u.hall.txList = s.hall.txList ∧ u.floor.own.outgoing = some { o with takenBack := .withdrawn })
      ∧ (∀ p o, s.floor.own.pendingClaim = some p → s.floor.own.outgoing = some o →
          u.hall.txList = s.hall.txList ∧ u.floor.own.outgoing = some o
            ∧ ∀ q, u.floor.own.pendingClaim = some q → q.seq = s.floor.own.nextSeq)

/-- The own live claim that a CLAIM of this content makes when it goes through at the instant `t` (R81 step 2, R90). -/
def sentClaim (t : Nat) (c : ClaimContent) (s : State) : LiveClaim where
  zone := s.straps.zone
  cls := .heard c.cls
  bucket := c.bucket
  length := c.length
  seq := some c.seq
  heard := s.instant t
  settled := false
  confirmed := false
  expiry := ⟨s.instant t + 60 + c.length * 100 + 1000, 60 + c.length * 100 + 1000⟩
  preemptPending := false
  outer := none

/-- The entry in the slot has returned to the queue with its stamp, its cut count and its deadline, which it keeps while it is
not served again (R20, R21). -/
def EntryReturns (s u : State) : Prop :=
  ∀ v e, s.seq.slot = some v → s.entry v.tag = some e →
    ∃ e', u.entry v.tag = some e' ∧ e'.arrival = e.arrival ∧ e'.cutCount = e.cutCount
      ∧ (e'.state = .queued ∨ e'.state = .claiming → e'.deadline = e.deadline)

/-- The own claim of this sequence is lost (R21, R92, R93): counted; RELEASE(WITHDRAWN) joins the frames `l` that stay in the
list; the entry returns from the slot, from which the selection may take it again. -/
def ClaimLost (l : List TxEntry) (seq : Nat) (s u : State) : Prop :=
  u.floor.claimsLost = min 65535 (s.floor.claimsLost + 1)
    ∧ (u.floor.own.state = .free ∨ u.floor.own.state = .claiming)
    ∧ (s.hall.state.isFault = false → s.hall.recovery ≠ .waiting → ListIs (l ++ [⟨.release seq .withdrawn, false⟩]) s u)
    ∧ EntryReturns s u

/-- The own claim of this sequence is lost to one that outranks it (R21, R92, R93). While it is outranked still, at the instant
`t`, its entry waits, the slot is empty and the floor FREE (R17); else the selection may take it again. -/
def ClaimLostTo (t : Nat) (l : List TxEntry) (seq : Nat) (s u : State) : Prop :=
  ClaimLost l seq s u ∧ u.floor.claimsConfirmed = s.floor.claimsConfirmed
    ∧ (∀ v e route, s.seq.slot = some v → s.seq.queue = [e] → e.tag = v.tag → s.hall.state.isUp = true →
        s.hall.recovery ≠ .waiting → (s.arrive t).kindFor e = .audible route →
        (s.arrive t).outranked e.cls e.arrival = true →
        u.seq.slot = none ∧ u.seq.queue = [{ e with state := .queued }] ∧ u.floor.own.state = .free
          ∧ u.hall.txList = l ++ [⟨.release seq .withdrawn, false⟩])

/-- A claim confirmed at the instant `t`: its expiry is counted afresh from there (R85). -/
def confirmedAt (s : State) (t : Nat) (c : LiveClaim) : LiveClaim :=
  { c with confirmed := true, expiry := ⟨s.instant t + (c.length * 100 + 1000), c.length * 100 + 1000⟩ }

/-- The live claims of peers stay as they are, but for those of the stations `gone` and `but`. -/
def ClaimsStay (gone but : Nat) (s u : State) : Prop :=
  ∀ m, m ≠ gone → m ≠ but → (u.peer m).bind Peer.claim = (s.peer m).bind Peer.claim

/-- The examination of the zone `z` at the instant `t`, the live claim of the peer `gone` just removed from it (R84, R85), in its
three steps over the claims that remain. A holder, or a top-ranked claim still in its settle window: nobody is confirmed. Else the
top-ranked one is confirmed: a peer's with its last-confirmed stamp; the own one (R91), where it is CLAIMING and not released, is
counted, the station is HOLDING, and the entry in the slot is SPEAKING. An unconfirmed own claim, not released and its window
over, that one of them outranks is lost (R92), at once also to a claim still in its window (the model's choice, log 51). A window
counts as over as log 18 says. -/
def Examined (t z gone : Nat) (s u : State) : Prop :=
  let left := (s.claimsIn z).filter fun x => decide (x.1 ≠ gone)
  (((∃ x ∈ left, x.2.confirmed = true) ∨ ∀ x, topClaim left = some x → x.2.windowEnded (s.instant t) = false) →
      ClaimsStay gone gone s u ∧ u.floor.own.claim = s.floor.own.claim
        ∧ u.floor.claimsConfirmed = s.floor.claimsConfirmed)
    ∧ (∀ x, (∀ y ∈ left, y.2.confirmed = false) → topClaim left = some x → x.2.windowEnded (s.instant t) = true →
        ClaimsStay gone x.1 s u
          ∧ (x.1 ≠ s.straps.station →
              (∃ p, u.peer x.1 = some p ∧ p.claim = some (confirmedAt s t x.2) ∧ p.lastConfirmed = some (s.instant t))
                ∧ u.floor.own.claim = s.floor.own.claim ∧ u.floor.claimsConfirmed = s.floor.claimsConfirmed)
          ∧ (x.1 = s.straps.station →
              u.floor.own.claim = some (confirmedAt s t x.2) ∧ u.floor.claimsLost = s.floor.claimsLost
                ∧ (s.floor.own.state ≠ .claiming ∨ s.floor.own.released = true →
                    u.floor.claimsConfirmed = s.floor.claimsConfirmed)
                ∧ (s.floor.own.state = .claiming → s.floor.own.released = false →
                    u.floor.claimsConfirmed = min 65535 (s.floor.claimsConfirmed + 1)
                      ∧ ∀ v e route, s.seq.slot = some v → v.kind = .audible route → s.entry v.tag = some e →
                          u.floor.own.state = .holding ∧ u.entry v.tag = some { e with state := .speaking, deadline := none })))
    ∧ ∀ c seq y, s.floor.own.claim = some c → c.zone = z → c.seq = some seq → c.confirmed = false →
        s.floor.own.released = false → c.windowEnded (s.instant t) = true → y ∈ left → y.1 ≠ s.straps.station →
        (y.2.rankKey y.1).outranks (c.rankKey s.straps.station) = true →
        ClaimLost s.hall.txList seq s u ∧ u.floor.own.released = true

/-- A CLAIM of a peer in the own zone is heard while the own CLAIM `o` waits (R81 step 4, R92). Outranked, the waiting own CLAIM
leaves the list unsent: no RELEASE is made, the claim is counted as lost, and its entry returns; one on the line runs on, marked,
and nothing is lost yet. -/
def ClaimTakenBack (o : Outgoing) (s u : State) : Prop :=
  ((∀ x ∈ s.hall.txList, x.isClaim = true → x.driving = false) →
      u.floor.claimsLost = min 65535 (s.floor.claimsLost + 1)
        ∧ (u.floor.own.state = .free ∨ u.floor.own.state = .claiming) ∧ EntryReturns s u
        ∧ (s.hall.recovery ≠ .waiting → ListIs (s.hall.txList.filter fun x => !x.isClaim) s u))
    ∧ ((∃ x ∈ s.hall.txList, x.isClaim = true ∧ x.driving = true) →
      u.floor.claimsLost = s.floor.claimsLost ∧ u.floor.own.outgoing = some { o with takenBack := .outranked }
        ∧ (s.hall.recovery ≠ .waiting → u.hall.txList = s.hall.txList))

/-- What a bit error on the frame `f` leaves in the transmit list (R62): the frame waits in its place to be tried again; a CLAIM
that has been taken back leaves, and a claim request that has waited for it is handed over (R60, R89, R92); a recovery
PRESENCE leaves, and the next attempt is 10,000 ms after its start (R68). -/
def BitErrorLeaves (f : TxFrame) (s u : State) : Prop :=
  s.hall.recovery ≠ .waiting →
    (f ≠ .presence .recovery → (∀ c, f = .claim c → s.claimTakenBack = false) →
        ListIs (s.hall.txList.map fun x => ⟨x.frame, false⟩) s u)
      ∧ (∀ c o, f = .claim c → s.floor.own.outgoing = some o → o.takenBack = .outranked →
          ListIs ((s.hall.txList.filter fun x => !x.isClaim).map fun x => ⟨x.frame, false⟩) s u
            ∧ u.floor.claimsLost = min 65535 (s.floor.claimsLost + 1))
      ∧ (∀ c o, f = .claim c → s.floor.own.outgoing = some o → o.takenBack = .withdrawn →
          s.floor.own.pendingClaim = none →
          ListIs ((s.hall.txList.filter fun x => !x.isClaim).map fun x => ⟨x.frame, false⟩) s u
            ∧ u.floor.claimsLost = s.floor.claimsLost)
      ∧ (∀ c o p, f = .claim c → s.floor.own.outgoing = some o → o.takenBack = .withdrawn →
          s.floor.own.pendingClaim = some p → s.hall.state.isFault = false →
          u.hall.txList = ((s.hall.txList.filter fun x => !x.isClaim).map fun x => ⟨x.frame, false⟩) ++ [⟨.claim p, false⟩]
            ∧ u.floor.own.outgoing = some ⟨p, .no⟩)
      ∧ (∀ start, f = .presence .recovery → s.hall.recovery = .attempting start →
          ListIs ((s.hall.txList.filter fun x => decide (x.frame ≠ .presence .recovery)).map fun x => ⟨x.frame, false⟩) s u
            ∧ u.hall.recovery = .scheduled ⟨start + 10000, 10000⟩)

/-! ### Prompts that join, prompts that leave -/

/-- The victim `v` has left the queue for the new entry of a tag, and so has its tag the repeat list; every other tag stays; the
victim is counted unless it is the machine controller's (R11, R177). -/
def VictimMakesRoom (v : Entry) (tag : Nat) (s u : State) : Prop :=
  u.entry v.tag = none ∧ (u.entry tag).isSome = true
    ∧ (∀ n, n ≠ v.tag → n ≠ tag → (u.entry n).isSome = (s.entry n).isSome)
    ∧ (∀ r ∈ u.panel.repeats, r.tag ≠ v.tag)
    ∧ u.seq.internalDrops = if v.origin = .machine then s.seq.internalDrops else min 65535 (s.seq.internalDrops + 1)

/-- An internal prompt has been discarded: counted, with the queue as it was (R13). -/
def InternalDropped (s u : State) : Prop :=
  u.seq.queue.map Entry.tag = s.seq.queue.map Entry.tag ∧ u.seq.internalDrops = min 65535 (s.seq.internalDrops + 1)

/-- An internal prompt that finds no template or no place (R11, R13): it is discarded where the store lacks its template, and
where the tag is free and the queue is full; else a victim of lower class makes room. Of the reports, those of `tail` follow
the victim's. -/
def DroppedOrRoomMade (tag template : Nat) (cls : Cls) (tail : List Report) (s u : State) : Prop :=
  ((¬ TemplateKnown s template ∨ s.entry tag = none ∧ QueueFull s cls.val) →
      InternalDropped s u
        ∧ (s.link.listening = true → s.link.reports.length + tail.length ≤ 16 → u.link.reports = s.link.reports ++ tail))
    ∧ ∀ v, TemplateKnown s template → s.entry tag = none → Evicts s cls.val v →
        VictimMakesRoom v tag s u
          ∧ (s.link.listening = true → s.link.reports.length + tail.length + 1 ≤ 16 →
              u.link.reports = s.link.reports ++ victimReports v ++ tail)

/-- The armed mark `n` is crossed by a change of the estimate to `new` (R152). -/
def MarkCrossed (s : State) (new n : Nat) : Prop :=
  n ≤ 3 ∧ (s.rem.marks.get n).state = .armed ∧ (s.rem.marks.get n).value ≤ s.rem.estimate
    ∧ new < (s.rem.marks.get n).value

/-- Of the marks crossed by a change of the estimate to `new` the mark `n` fires: the one of the lowest value, among equal values
the lowest index (R152). -/
def MarkFires (s : State) (new n : Nat) : Prop :=
  MarkCrossed s new n
    ∧ ∀ m, MarkCrossed s new m → (s.rem.marks.get n).value < (s.rem.marks.get m).value
        ∨ (s.rem.marks.get n).value = (s.rem.marks.get m).value ∧ n ≤ m

/-- The mark `n` has asked for its prompt at the instant `t`, the estimate now `new` (R13, R153): an entry of class STATUS with
`new` as param1 and a deadline of 30 s; merged with an entry that holds its tag, whose fields stay; or dropped, or made in a
full queue in the place of a victim. The firing is activity. -/
def MarkPromptAsked (t n new : Nat) (s u : State) : Prop :=
  (TemplateKnown s s.link.config.countdownTemplate → HasRoom s 1 → s.entry (68 + n) = none →
      ∃ e, u.entry (68 + n) = some e ∧ e.origin = .mark ∧ e.cls = .status
        ∧ e.template = s.link.config.countdownTemplate ∧ e.param1 = new ∧ e.param2 = 0
        ∧ e.channels = ⟨true, true, true⟩ ∧ e.ackRequired = false ∧ e.arrival = s.instant t
        ∧ (e.state = .queued ∨ e.state = .claiming → e.deadline = some ⟨s.instant t + 30000, 30000⟩))
    ∧ (∀ e, s.entry (68 + n) = some e → TemplateKnown s s.link.config.countdownTemplate →
        QueueKept s u ∧ ReportsKept s u
          ∧ ∃ e', u.entry (68 + n) = some e' ∧ e'.template = e.template ∧ e'.param1 = e.param1 ∧ e'.arrival = e.arrival
            ∧ (e'.state = .queued ∨ e'.state = .claiming → e'.deadline = e.deadline))
    ∧ DroppedOrRoomMade (68 + n) s.link.config.countdownTemplate .status [] s u ∧ u.power.mode = .active

/-- The reports of a session end in their order (R167): the QUEUED entries of class STATUS and COURTESY, the entry in the slot
where it leaves at once, and the awaiting records, oldest first. -/
def sessionEndReports (s : State) : List Report :=
  ((s.seq.queue.filter fun e =>
      decide (e.state = .queued) && decide (e.cls.val ≤ 1) && decide (e.origin = .machine)).map fun e => .done e.tag .cancelled)
    ++ (match s.served with
      | some e =>
        if e.cls.val ≤ 1 ∧ (e.state = .claiming ∨ e.state = .showing) ∧ e.origin = .machine then [.done e.tag .cancelled] else []
      | none => [])
    ++ s.panel.awaiting.map fun a => .done a.tag .cleared

/-- What a session end leaves (R161, R167): the waiting and the silent prompts of class STATUS and COURTESY are gone, a spoken one
leaves at its next boundary, those of higher class stay; no awaiting record, no slot of scope SESSION; each answered once. -/
def SessionEnded (s u : State) : Prop :=
  u.panel.lastCompleted = none ∧ u.panel.awaiting = []
    ∧ (∀ n r, u.rem.slots.get n = some r → r.persistent = true)
    ∧ (∀ e ∈ u.seq.queue, e.state = .queued → 2 ≤ e.cls.val)
    ∧ (∀ e ∈ s.seq.queue, 2 ≤ e.cls.val → (u.entry e.tag).isSome = true)
    ∧ (∀ e ∈ s.seq.queue, e.state = .queued → e.cls.val ≤ 1 →
        u.entry e.tag = none ∧ ∀ r ∈ u.panel.repeats, r.tag ≠ e.tag)
    ∧ (∀ e v, s.served = some e → s.seq.slot = some v → e.cls.val ≤ 1 →
        (e.state = .speaking →
            u.seq.slot = some { v with removal := some (v.removal.getD .cancelled) } ∧ u.entry e.tag = some e)
          ∧ (e.state = .claiming ∨ e.state = .showing →
            u.entry e.tag = none ∧ (∀ r ∈ u.panel.repeats, r.tag ≠ e.tag)
              ∧ (∀ w, u.seq.slot = some w → w.tag ≠ e.tag))
          ∧ (e.state = .claiming → ClaimWithdrawn s u))
    ∧ (s.link.listening = true → s.link.reports.length + s.seq.queue.length + s.panel.awaiting.length ≤ 16 →
        u.link.reports = s.link.reports ++ sessionEndReports s)

/-- The stamp with which a repeat entry is a candidate of an OK press taken at `now` (R178). -/
def okStamp (s : State) (now : Nat) (r : RepeatItem) : Nat := if s.beingGiven r.tag then now else r.spokenAt

/-- A repeat entry is the most recently spoken prompt that awaits acknowledgement at `now` (R178). -/
def LatestSpoken (s : State) (now : Nat) (r : RepeatItem) : Prop :=
  r ∈ s.panel.repeats ∧ (∀ a ∈ s.panel.awaiting, a.tag ≠ r.tag ∧ a.spokenAt < okStamp s now r)
    ∧ ∀ x ∈ s.panel.repeats, x.tag = r.tag ∨ okStamp s now x < okStamp s now r

/-- A language that the LANG key has changed asks for its prompt (R173): tag 74, where the queue has room and nothing holds the
tag; a language left as it was asks for nothing. -/
def LangPromptFollows (t : Nat) (long : Bool) (s u : State) : Prop :=
  (u.panel.language ≠ s.panel.language → TemplateKnown s 0 → HasRoom s 1 → s.entry 74 = none →
      ∃ e, u.entry 74 = some e ∧ e.origin = .key ∧ e.cls = .status ∧ e.template = 0 ∧ e.param1 = 0 ∧ e.param2 = 0
        ∧ e.arrival = s.instant t ∧ e.deadline = none)
    ∧ (u.panel.language ≠ s.panel.language → DroppedOrRoomMade 74 0 .status [.key .lng long] s u)
    ∧ (u.panel.language = s.panel.language → QueueKept s u)

/-- The command `c`, taken at `t`, is the end of the service `v` of the entry `e` (R27, R28): the end of the chime of a
script without items, of its last item, or of the 4,000 ms of a silent service. A chime ends with its 400 ms. -/
def EndsService (c : Instr) (t : Nat) (s : State) (v : Service) (e : Entry) : Prop :=
  (c = .chimeEnd t ∧ e.state = .speaking ∧ v.script.items = []
      ∧ ∃ ch, s.tone.chime = .playing ch ∧ DueAt s t (ch.start + 400))
    ∨ (c = .itemEnd t ∧ e.state = .speaking
      ∧ ∃ i ph start stop x, s.speech = .playing i ph start stop ∧ v.script.items[i]? = some x
          ∧ v.script.items.length = i + 1 ∧ DueAt s t (start + x.ms))
    ∨ (c = .silentServiceEnd t ∧ e.state = .showing ∧ ∃ tm, v.silentEnd = some tm ∧ DueAt s t tm.due)

/-- The command `c`, taken at `t`, is a boundary of the service `v` (R22): the end of the chime of a script with items, or
of an item that is not the last. -/
def IsBoundary (c : Instr) (t : Nat) (s : State) (v : Service) : Prop :=
  (c = .chimeEnd t ∧ v.script.items ≠ []
      ∧ ∃ ch, s.tone.chime = .playing ch ∧ DueAt s t (ch.start + 400))
    ∨ (c = .itemEnd t
      ∧ ∃ i ph start stop x, s.speech = .playing i ph start stop ∧ v.script.items[i]? = some x
          ∧ i + 1 < v.script.items.length ∧ DueAt s t (start + x.ms))

end Sys2Proof.Safety
end

