-- ==== Sys2Proof/WellFormed.lean ====
section
/-! DEFINITION. Which operands name an event the manual knows: the ranges a sender keeps to. A command outside them is
still executed; what it does is then the model's reading of an event that cannot occur (log 3). -/

namespace Sys2Proof

open Machine

/-- A cue's payload as one frame can carry it (R191). -/
def payloadOk (p : List Byte) : Bool := decide (p.length ≤ Config.payloadLimit)

/-- A type byte that the table of cues does not hold (R192). -/
def unknownType (type : Byte) : Bool := decide (type.toNat = 0) || decide (14 < type.toNat)

/-- The flash fitted holds bytes at its own addresses, and an outage is a span of addresses and of time. -/
def Flash.fits (f : Flash) : Bool :=
  f.cells.all (fun c => decide (c.1 < Config.flashSize))
    && f.outages.all fun o => decide (o.fromMs ≤ o.toMs) && decide (o.lo ≤ o.hi)

/-- A station number that a frame can carry (R59). -/
def stationOk (n : BitVec 5) : Bool := decide (n ≠ 0#5)

/-- A tag an entry can hold (R3). -/
def entryTagOk (tag : Nat) : Bool := decide (1 ≤ tag) && decide (tag ≤ 74)

/-- The bits of a frame heard: from a dominant start bit, no longer than a CLAIM (R57). -/
def bitsOk (bits : List Bool) : Bool := decide (bits.head? = some false) && decide (bits.length ≤ 40)

/-- The operands of a command lie in the ranges their rows have. -/
def Instr.wf : Instr → Bool
  | .powerOnReset _ _ _ _ flash => flash.fits
  | .storeCheckEnd _ => true
  | .speakerCheckEnd _ _ => true
  | .speakerCheckOvercurrent _ => true
  | .warmUpEnd _ => true
  | .speakerFault _ _ => true
  | .configure _ p => payloadOk p
  | .sessionBegin _ p => payloadOk p && decide (at1 p 0 ≠ 0)
  | .sessionEnd _ p => payloadOk p && decide (at1 p 0 = 0)
  | .phase _ p => payloadOk p
  | .progress _ p => payloadOk p
  | .prompt _ p => payloadOk p
  | .cancel _ p => payloadOk p
  | .ack _ p => payloadOk p
  | .mask _ p => payloadOk p
  | .remind _ p => payloadOk p && decide (at2 p 2 ≠ 0)
  | .remindClear _ p => payloadOk p && decide (at2 p 2 = 0)
  | .quiet _ p => payloadOk p
  | .sleep _ p _ => payloadOk p
  | .selftest _ p => payloadOk p
  | .status _ p => payloadOk p
  | .reset _ p _ _ => payloadOk p
  | .unknownCue _ type p => unknownType type && payloadOk p
  | .cueFrameDiscard _ _ last badStop => badStop || decide (Config.payloadLimit < last.toNat)
  | .interByteTimeout _ _ => true
  | .reportSent _ => true
  | .peerClaim _ f => (HallFrame.claim f).good
  | .peerRelease _ f => (HallFrame.release f).good
  | .peerPresence _ f => (HallFrame.presence f).good
  | .badFrame _ bits => bitsOk bits
  | .frameStart _ => true
  | .arbitrationLoss _ => true
  | .bitError _ none => true
  | .bitError _ (some bits) => bitsOk bits
  | .stuckLine _ => true
  | .ownClaimSent _ => true
  | .ownReleaseSent _ => true
  | .ownPresenceSent _ => true
  | .listenInEnd _ => true
  | .heartbeat _ => true
  | .recoveryAttempt _ => true
  | .recoveryTimeout _ => true
  | .finalPresenceTimeout _ => true
  | .peerLost _ station => stationOk station
  | .claimExpiry _ station => stationOk station
  | .settleWindowEnd _ station => stationOk station
  | .turnGapEnd _ => true
  | .waitBucketStep _ tag => entryTagOk tag
  | .deadline _ tag => entryTagOk tag
  | .chimeEnd _ => true
  | .itemEnd _ => true
  | .itemGapEnd _ => true
  | .silentServiceEnd _ => true
  | .repeatDue _ tag => tagOk tag
  | .phraseReadTimeout _ => true
  | .toneStepEnd _ => true
  | .clickEnd _ => true
  | .scrollStep _ _ => true
  | .blinkPhase _ _ => true
  | .ambientSample _ _ => true
  | .sampleHoldSettled _ => true
  | .estimateDecrement _ => true
  | .slotFiring _ slot => decide (slot ≤ 3)
  | .keyPress _ _ => true
  | .keyRelease _ _ => true
  | .keyLong _ _ => true
  | .dimDeadline _ => true
  | .standbyDeadline _ => true
  | .wake _ _ => true
  | .lineIdle _ => true

end Sys2Proof
end

