-- ==== Sys2Proof/Certificates/Slice0/Obligations.lean ====
section
/-! DEFINITION. The statements for the provers. Each docstring names the rules of spec/ it rests on; where a statement
rests on a choice of the model it names the log entry. In all of them `s.instant t` is the instant at which a command that names
`t` is taken: `t` itself, but for what logs 1 and 2 say of a `t` in the past or past an interval that still runs. -/

open Sys2Proof Machine Safety

/-! ### The step, the environment, the invariants -/

/-- A step runs the command at the front of the queue, with the rest of the queue waiting (the row's interface for a
block; log 4).
With no command waiting the part idles: the step changes nothing (the model's choice, log 4). -/
def Obligations.StepRunsFrontCommand : Prop :=
  (∀ (c : Instr) (rest : List Instr) (s : State), step (s.withPending (c :: rest)) = exec c (s.withPending rest))
  ∧ ∀ s : State, s.pending = [] → step s = .next s

/-- Every command is carried out, in every state: it answers a next state, never a fault or a refusal; for a command whose
event the state does not allow this is the model's choice (log 3).
No command touches the commands that wait; none but a power-on reset moves the timebase back, or changes the straps or
the flash (R32, R197; the timebase of a command is log 1).
No command is taken later than the latest end R1 allows an interval that runs: none but a power-on reset moves the timebase
past it (a gap that brings its own bytes and, in SLEEP, a press that brings its own wake, taken first, may find the interval
gone), and where none holds it the command is taken at the instant it names (R1; that the timebase waits for an end not yet
taken is the model's choice, log 2). -/
def Obligations.CommandsKeepTheEnvironment : Prop :=
  (∀ (c : Instr) (s : State), ∃ u, exec c s = .next u
    ∧ u.pending = s.pending
    ∧ ((∀ t station zone down flash, c ≠ .powerOnReset t station zone down flash) →
        s.now ≤ u.now ∧ u.straps = s.straps ∧ u.store.flash = s.store.flash
          ∧ ((∀ t b rx, c ≠ .interByteTimeout t (b :: rx)) → (∀ t k, c = .keyPress t k → s.power.mode ≠ .sleep) →
              ∀ tm ∈ s.runningTimers, u.now ≤ max s.now (tm.due + (tm.len + 99) / 100))))
  ∧ ∀ (t : Nat) (s : State), (∀ tm ∈ s.runningTimers, t ≤ tm.due + (tm.len + 99) / 100) →
    s.instant t = max s.now t

/-- Every step keeps the counters at 65,535 or less and the run of bit errors at 16 or less (00_scope.md "Counters", R62,
R196). -/
def Obligations.StepKeepsCounters : Prop :=
  ∀ s u : State, CountersBounded s → step s = .next u → CountersBounded u

/-- Every step keeps the stores within their capacities: 16 prompts (R5), 4 awaiting records (R175), 16 reports (R195), 8
ambient samples (R109); the prompt queue stands in queue order (R4); before HELLO the report queue is empty (R198), and what the
model holds back for it leaves it room (the model's choice, log 43).
Every step keeps each tag to one holder among the prompt queue and the awaiting list, an entry's tag in the range of its block
and an awaiting record's in 1-63 (R3), and the view to one record for each peer, none for this station itself (R75). -/
def Obligations.StepKeepsStores : Prop :=
  (∀ s u : State, StoresBounded s → step s = .next u → StoresBounded u)
  ∧ (∀ s u : State, TagsHeldOnce s → step s = .next u → TagsHeldOnce u)
  ∧ ∀ s u : State, OneRecordEach s → step s = .next u → OneRecordEach u

/-- Every step keeps the values in their ranges: the samples, G, V_s, the default volume and R (R109, R119, R148, R165,
R193), the gain of a computed level that waits for the warm-up among them (R115). -/
def Obligations.StepKeepsValues : Prop :=
  ∀ s u : State, ValuesBounded s → PendingBounded s → step s = .next u → ValuesBounded u ∧ PendingBounded u

/-- Every step keeps the flash's memory in its canonical form (the model's form of R203's flash, log 6). -/
def Obligations.StepKeepsMemoryCanonical : Prop :=
  ∀ s u : State, MemoryCanonical s → step s = .next u → MemoryCanonical u

/-- The state after reset meets the invariants that the four statements before say every step keeps. -/
def Obligations.ResetMeetsInvariants : Prop :=
  CountersBounded State.reset ∧ StoresBounded State.reset ∧ TagsHeldOnce State.reset ∧ OneRecordEach State.reset
    ∧ ValuesBounded State.reset ∧ PendingBounded State.reset
    ∧ MemoryCanonical State.reset

/-- In SLEEP every command but those that wake or reset the part, carry bytes of the cue link, end a report or end a click
moves the timebase and nothing else (R185, R186, R195; the click is log 26). -/
def Obligations.SleepIsStill : Prop :=
  ∀ (c : Instr) (s u : State), s.power.mode = .sleep → stirsSleep c = false → exec c s = .next u →
    s.now ≤ u.now ∧ u = { s with now := u.now }

/-- What follows a step (a waiting recovery attempt, the selection, the sample hold, the hold of the mode timers) leaves
the line, the view, the reminders, the panel, the settings, the reports, the tags of the queue, the store, the ring, the
speaker results and the status line as they are (R18, R20, R111, R182).
The selection (R17, R18): with the slot empty the first entry of the queue that may be selected is taken, one that stands before it
and may not is passed over, and the slot holds it with the kind of service of that moment: a silent one is SHOWING and starts
(R28), an audible one is CLAIMING in LISTEN_IN and ON and starts at once in OFF and FAULT (R22). Where no entry may be selected the
slot stays empty. An entry that has left its deadline behind is not selected (the model's choice, log 2); that the selection runs
once after each command, and not between its steps, is the model's choice too (log 41), and so are the character codes of the
texts that the unit forms itself (log 50). -/
def Obligations.SelectionFrame : Prop :=
  (∀ s : State,
    (conclude s).now = s.now ∧ (conclude s).pending = s.pending ∧ (conclude s).straps = s.straps
      ∧ LineKept s (conclude s) ∧ ViewKept s (conclude s) ∧ RemindersKept s (conclude s) ∧ PanelKept s (conclude s)
      ∧ SettingsKept s (conclude s) ∧ FramerKept s (conclude s) ∧ ReportsKept s (conclude s)
      ∧ QueueKept s (conclude s) ∧ StoreKept s (conclude s) ∧ LevelKept s (conclude s) ∧ SpeakerKept s (conclude s)
      ∧ StatusLineKept s (conclude s) ∧ (s.seq.slot.isSome = true → (conclude s).seq = s.seq))
  ∧ (∀ s : State, s.power.mode ≠ .sleep → s.seq.slot = none → (∀ e ∈ s.seq.queue, ¬ MaySelect s e) →
    (conclude s).seq.slot = none ∧ (conclude s).seq.queue = s.seq.queue)
  ∧ ∀ (s : State) (e : Entry), s.power.mode ≠ .sleep → NextTaken s e →
    ∃ v, (conclude s).seq.slot = some v ∧ v.tag = e.tag ∧ v.preempt = false ∧ v.overlap = false ∧ v.removal = none
      ∧ (SilentNow s e →
          v.kind = .silent
            ∧ (conclude s).seq.queue = queueWith e.tag (fun x => { x with state := .showing, deadline := none }) s
            ∧ (s.entry e.tag = some e → SilentStarted e v s (conclude s)))
      ∧ (¬ SilentNow s e →
          (∃ route, v.kind = .audible route ∧ RouteNow s route
            ∧ (s.hall.state.isUp = false → s.entry e.tag = some e → ServiceStarted e route v s (conclude s)))
          ∧ (s.hall.state.isUp = true →
              (conclude s).seq.queue = queueWith e.tag (fun x => { x with state := .claiming }) s)
          ∧ (s.hall.state.isUp = false →
              (conclude s).seq.queue = queueWith e.tag (fun x => { x with state := .speaking, deadline := none }) s))

/-! ### Start-up and the speaker check -/

/-- POWER_ON_RESET (R31, R64, R73, R78, R108, R110, R148, R165, R180, R187, R193, R198): the state it leaves depends on the
straps, the keys, the flash and the instant alone. The stuck-line watch and the debounce of the keys start with it (the
model's reading, logs 25 and 44). -/
def Obligations.PowerOnResetStartsAfresh : Prop :=
  ∀ (t : Nat) (station : BitVec 5) (zone : BitVec 3) (down : Keys Bool) (flash : Flash) (s : State),
    ∃ u, exec (.powerOnReset t station zone down flash) s = .next u
      ∧ u.now = t ∧ u.pending = s.pending ∧ u.straps = ⟨station.toNat, zone.toNat⟩
      ∧ u.link = CueLink.reset ∧ u.seq = Sequencer.reset ∧ u.store.state = .checking ∧ u.store.index = []
      ∧ u.store.readErrors = 0 ∧ u.store.truncated = 0 ∧ u.speech = .idle ∧ u.tone = ⟨.idle, .idle⟩
      ∧ u.level = ⟨[], .open_, 0, false, 0, some ⟨t + 250, 250⟩⟩
      ∧ u.hall.state = (if station = 0#5 then .off else .listenIn ⟨t + 2500, 2500⟩)
      ∧ u.hall.heartbeat = (if station = 0#5 then none else some ⟨t + 100 * station.toNat, 100 * station.toNat⟩)
      ∧ u.hall.line = (if station = 0#5 then .silent else .waitIdle) ∧ u.hall.txList = []
      ∧ (station ≠ 0#5 → u.hall.watch = ⟨t + 10, 10⟩)
      ∧ u.floor = FloorUnit.reset ∧ u.rem = ReminderUnit.reset
      ∧ u.panel =
          { Panel.reset with
            keys := down.map fun d => if d then .blocked else .up
            inputs := down.map fun d => ⟨d, ⟨t + 30, 30⟩⟩ }
      ∧ u.power.mode = .active ∧ u.power.amp = .warming ⟨t + 120, 120⟩ ∧ u.power.check = .warmUp true
      ∧ u.power.result = .unknown ∧ u.power.weakSpeaker = 0 ∧ u.display = Display.reset
      ∧ ∀ r : State, r.pending = s.pending → exec (.powerOnReset t station zone down flash) r = .next u

/-- STORE_CHECK_END (R35, R198): the store becomes READY with its directories, or FAILED; when the speaker check has ended
before it, HELLO is made, the first report of the empty queue, with the code of the present conditions, and the framer
starts to take cues. All the reads of the check are tested at this instant (the model's choice, log 42); reports made
earlier follow HELLO (the model's choice, log 43). -/
def Obligations.StoreCheckEndGivesHello : Prop :=
  ∀ (t : Nat) (s : State), s.power.mode ≠ .sleep → s.store.state = .checking →
    ∃ u, exec (.storeCheckEnd t) s = .next u
      ∧ u.store.state = (if s.store.flash.checks (s.instant t) then .ready else .failed)
      ∧ u.store.index = (if s.store.flash.checks (s.instant t) then s.store.flash.directories else [])
      ∧ (s.power.check ≠ .idle → u.link.listening = s.link.listening ∧ ReportsKept s u)
      ∧ (s.power.check = .idle → s.link.listening = false → s.link.reports = [] → s.link.early.length ≤ 15 →
          u.link.listening = true ∧ u.link.early = [] ∧ u.link.reportsLost = s.link.reportsLost ∧
            ∃ code : Byte,
              u.link.reports = .hello code s.straps.station s.straps.zone :: s.link.early
                ∧ (u.store.state = .ready → s.power.result.isFault = false → s.hall.state ≠ .fault .stuck → code = 0x01#8)
                ∧ (u.store.state = .failed → s.power.result.isFault = false → s.hall.state ≠ .fault .stuck → code = 0x02#8)
                ∧ (u.store.state = .ready → s.power.result.isFault = true → s.hall.state ≠ .fault .stuck → code = 0x03#8)
                ∧ (u.store.state = .ready → s.power.result.isFault = false → s.hall.state = .fault .stuck → code = 0x04#8)
                ∧ (u.store.state = .failed → s.power.result.isFault = true → code = 0x82#8)
                ∧ (u.store.state = .failed → s.hall.state = .fault .stuck → code = 0x82#8)
                ∧ (u.store.state = .ready → s.power.result.isFault = true → s.hall.state = .fault .stuck → code = 0x83#8))
      ∧ LineKept s u ∧ ViewKept s u ∧ RemindersKept s u ∧ PanelKept s u ∧ FramerKept s u ∧ QueueKept s u ∧ LevelKept s u
      ∧ SpeakerKept s u ∧ StatusLineKept s u

/-- SPEAKER_CHECK_END (R187, R188): the measured impedance in steps of 0.5 ohm is classified, the amplifier follows the
result, a weak loudspeaker is counted, a fault latched; a SELFTEST's fault sends EVENT. The impedance operand in milliohms,
rounded to its nearest step, is the model's (log 20).
SPEAKER_CHECK_OVERCURRENT (R187, R188): the test ends at once with SHORT and 0.0 ohm.
The end of the power-on check, either way (R198): with the store check over, HELLO is made with the code of the present
conditions and the framer starts to take cues, the reports made earlier following it (the model's choice, log 43); while
the store check runs, no report is made. -/
def Obligations.SpeakerCheckClassifies : Prop :=
  (∀ (t milliohms : Nat) (s : State) (powerOn : Bool) (tm : Timer), s.power.mode ≠ .sleep →
    s.power.check = .test powerOn tm → DueAt s t tm.due → ReportFits s →
    ∃ u, exec (.speakerCheckEnd t milliohms) s = .next u
      ∧ u.power.check = .idle ∧ u.power.impedance = min 63 ((milliohms + 250) / 500)
      ∧ u.power.result =
          (if u.power.impedance < 4 then .short else if u.power.impedance ≤ 6 then .weak
            else if u.power.impedance ≤ 31 then .ok else if u.power.impedance ≤ 48 then .weak else .open_)
      ∧ u.power.amp = (if u.power.result = .short ∨ u.power.result = .open_ then .off else .on)
      ∧ u.power.weakSpeaker = (if u.power.result = .weak then min 65535 (s.power.weakSpeaker + 1) else s.power.weakSpeaker)
      ∧ u.link.latches.speakerFault =
          (decide (u.power.result = .short ∨ u.power.result = .open_) || s.link.latches.speakerFault)
      ∧ u.link.reports =
          (if (u.power.result = .short ∨ u.power.result = .open_) ∧ powerOn = false then
            s.link.reports ++ [.event .speakerFault] else s.link.reports)
      ∧ LineKept s u ∧ ViewKept s u ∧ RemindersKept s u ∧ PanelKept s u ∧ SettingsKept s u ∧ FramerKept s u ∧ QueueKept s u
      ∧ StoreKept s u ∧ LevelKept s u ∧ StatusLineKept s u)
  ∧ (∀ (t : Nat) (s : State) (powerOn : Bool) (tm : Timer), s.power.mode ≠ .sleep → s.power.check = .test powerOn tm →
    ReportFits s →
    ∃ u, exec (.speakerCheckOvercurrent t) s = .next u
      ∧ u.power.check = .idle ∧ u.power.result = .short ∧ u.power.impedance = 0 ∧ u.power.amp = .off
      ∧ u.power.weakSpeaker = s.power.weakSpeaker ∧ u.link.latches.speakerFault = true
      ∧ u.link.reports = (if powerOn then s.link.reports else s.link.reports ++ [.event .speakerFault])
      ∧ LineKept s u ∧ ViewKept s u ∧ RemindersKept s u ∧ PanelKept s u ∧ SettingsKept s u ∧ FramerKept s u ∧ QueueKept s u
      ∧ StoreKept s u ∧ LevelKept s u ∧ StatusLineKept s u)
  ∧ ∀ (t : Nat) (c : Instr) (s : State) (tm : Timer), s.power.mode ≠ .sleep → s.power.check = .test true tm →
    (c = .speakerCheckOvercurrent t ∨ DueAt s t tm.due ∧ ∃ milliohms, c = .speakerCheckEnd t milliohms) →
    s.link.listening = false → s.link.reports = [] → s.link.early.length ≤ 15 →
    ∃ u, exec c s = .next u
      ∧ u.power.check = .idle ∧ (c = .speakerCheckOvercurrent t → u.power.result = .short)
      ∧ (∀ milliohms, c = .speakerCheckEnd t milliohms →
          u.power.result = classify (min 63 ((milliohms + 250) / 500)))
      ∧ (s.store.state ≠ .checking →
          u.link.listening = true ∧ u.link.early = [] ∧ u.link.reportsLost = s.link.reportsLost
            ∧ u.link.reports =
                .hello (helloCode (s.store.state = .failed) u.power.result.isFault (s.hall.state = .fault .stuck))
                  s.straps.station s.straps.zone :: s.link.early)
      ∧ (s.store.state = .checking → u.link.listening = false ∧ ReportsKept s u)
      ∧ LineKept s u ∧ ViewKept s u ∧ RemindersKept s u ∧ PanelKept s u ∧ FramerKept s u ∧ QueueKept s u
      ∧ StoreKept s u ∧ LevelKept s u ∧ StatusLineKept s u

/-- WARM_UP_END (R115, R118, R127, R183, R187): the amplifier is ON; the test of a waiting check begins, its 1 kHz tone driven at
a gain code of 20, or the output of the service in the slot begins at the level computed at its start, which is applied now: a
masked one is counted and latched and blinks line 1. -/
def Obligations.WarmUpEndStartsOutput : Prop :=
  (∀ (t : Nat) (s : State) (tm : Timer) (powerOn : Bool), s.power.mode ≠ .sleep → s.power.amp = .warming tm →
    DueAt s t tm.due → s.power.check = .warmUp powerOn →
    ∃ u, exec (.warmUpEnd t) s = .next u
      ∧ u.power.amp = .on ∧ u.power.check = .test powerOn ⟨s.instant t + 300, 300⟩
      ∧ u.speakerDrive = .tone 1000 ∧ u.amplifierGain = 20
      ∧ LineKept s u ∧ ViewKept s u ∧ RemindersKept s u ∧ PanelKept s u ∧ SettingsKept s u ∧ FramerKept s u
      ∧ ReportsKept s u ∧ QueueKept s u ∧ StoreKept s u ∧ LevelKept s u ∧ StatusLineKept s u)
  ∧ ∀ (t : Nat) (s : State) (tm : Timer) (e : Entry) (v : Service) (route : Route) (r : LevelResult),
    s.power.mode ≠ .sleep → s.power.amp = .warming tm → DueAt s t tm.due → s.power.check = .idle →
    s.seq.slot = some v → s.served = some e → e.state = .speaking → v.kind = .audible route → v.pendingLevel = some r →
    ∃ u, exec (.warmUpEnd t) s = .next u
      ∧ u.now = s.instant t ∧ u.power.amp = .on ∧ u.seq.slot = some { v with pendingLevel := none }
      ∧ OutputBegun e route v.script r s u ∧ u.display.text = s.display.text
      ∧ u.display.blink = blinkAfter u.now r s.display.text s.display.blink
      ∧ LineKept s u ∧ ViewKept s u ∧ RemindersKept s u ∧ PanelKept s u ∧ SettingsKept s u ∧ FramerKept s u
      ∧ ReportsKept s u ∧ QueueKept s u ∧ StoreKept s u ∧ LevelKept s u ∧ SpeakerKept s u ∧ StatusLineKept s u

/-- SPEAKER_FAULT (R26, R189): output stops and the slot is empty, the amplifier is OFF, the result and the impedance are
recorded, the entry in service is QUEUED again with its arrival stamp and its cut count, the latch is set and EVENT is
sent; the selection then runs once on that state (log 41). With a removal pending, the entry leaves with its outcome
instead, its DONE before the EVENT. Either way a held floor is given up with RELEASE(CUT) (R95). -/
def Obligations.SpeakerFaultStopsOutput : Prop :=
  (∀ (t : Nat) (kind : SpeakerFaultKind) (s : State) (e : Entry) (v : Service), s.power.mode ≠ .sleep →
    (s.arrive t).senses kind = true → s.speaking = some (e, v) → v.removal = none → ReportFits s →
    ∃ w u, exec (.speakerFault t kind) s = .next u ∧ u = conclude w
      ∧ w.seq.slot = none ∧ w.speech = .idle ∧ w.tone.chime = .idle ∧ w.display.text = none
      ∧ w.entry e.tag = some { e with state := .queued } ∧ w.seq.cuts = s.seq.cuts ∧ CutReleased s u
      ∧ (∃ e', u.entry e.tag = some e' ∧ e'.cutCount = e.cutCount ∧ e'.arrival = e.arrival)
      ∧ u.power.amp = .off
      ∧ u.power.result = (if kind = .overcurrent then .short else .open_)
      ∧ u.power.impedance = (if kind = .overcurrent then 0 else 63)
      ∧ u.link.latches.speakerFault = true ∧ u.link.reports = s.link.reports ++ [.event .speakerFault]
      ∧ LineKept s u ∧ u.floor.peers = s.floor.peers ∧ RemindersKept s u ∧ PanelKept s u ∧ SettingsKept s u
      ∧ FramerKept s u ∧ QueueKept s u ∧ StoreKept s u ∧ LevelKept s u ∧ StatusLineKept s u)
  ∧ ∀ (t : Nat) (kind : SpeakerFaultKind) (s : State) (e : Entry) (v : Service) (o : DoneOutcome),
    s.power.mode ≠ .sleep → (s.arrive t).senses kind = true → s.speaking = some (e, v) → v.removal = some o →
    e.origin = .machine → s.link.listening = true → s.link.reports.length + 2 ≤ 16 →
    ∃ w u, exec (.speakerFault t kind) s = .next u ∧ u = conclude w
      ∧ w.seq.slot = none ∧ w.speech = .idle ∧ w.tone.chime = .idle ∧ CutReleased s u
      ∧ u.entry e.tag = none ∧ u.seq.cuts = s.seq.cuts ∧ u.power.amp = .off
      ∧ u.power.result = (if kind = .overcurrent then .short else .open_)
      ∧ u.link.latches.speakerFault = true
      ∧ u.link.reports = s.link.reports ++ [.done e.tag o, .event .speakerFault]
      ∧ LineKept s u ∧ u.floor.peers = s.floor.peers ∧ RemindersKept s u ∧ SessionKept s u ∧ SettingsKept s u
      ∧ FramerKept s u ∧ StoreKept s u ∧ LevelKept s u ∧ StatusLineKept s u

/-! ### The cue link and its cues -/

/-- The framer takes a frame of start byte, type, length and payload, heard without a pause, as one whole cue, and is in
HUNT again (R191, R192). -/
def Obligations.FramerTakesWholeCue : Prop :=
  ∀ (down : Keys Bool) (type : Byte) (payload : List Byte) (s : State), CueReady s → payload.length ≤ 24 →
    receiveBytes down (0x7E#8 :: type :: byte payload.length :: payload) s = takeCue down type payload s

/-- A partial frame is discarded and counted as one framing error: by a length byte of 25 to 255 or a byte with a bad stop
bit (CUE_FRAME_DISCARD), and by a gap of more than 5 ms (INTER_BYTE_TIMEOUT) (R191). No command is taken later than 6 ms, R1's
latest end of the gap, after the last byte of a partial frame still held (R1; the gap holds the timebase: the model's choice,
log 2), and in a state that has left its gap behind a byte completes nothing: it begins a frame or is none (log 2). A gap that
brings its bytes is measured from them: where the timebase cannot pass 5 ms, R1's tolerance less, after they are heard, the
partial frame stays (the model's reading, logs 2 and 9). -/
def Obligations.PartialFramesAreDiscarded : Prop :=
  (∀ (t : Nat) (type last : Byte) (s : State), CueReady s → 24 < last.toNat →
    ∃ u, exec (.cueFrameDiscard t [0x7E#8, type] last false) s = .next u
      ∧ u.link.framer = .hunt ∧ u.link.framingErrors = min 65535 (s.link.framingErrors + 1)
      ∧ u.link.refusals = s.link.refusals
      ∧ LineKept s u ∧ ViewKept s u ∧ RemindersKept s u ∧ PanelKept s u ∧ SettingsKept s u ∧ ReportsKept s u
      ∧ QueueKept s u ∧ StoreKept s u ∧ LevelKept s u ∧ SpeakerKept s u ∧ StatusLineKept s u)
  ∧ (∀ (t : Nat) (last : Byte) (s : State), s.power.mode ≠ .sleep → s.link.listening = true → s.link.framer ≠ .hunt →
    ∃ u, exec (.cueFrameDiscard t [] last true) s = .next u
      ∧ u.link.framer = .hunt ∧ u.link.framingErrors = min 65535 (s.link.framingErrors + 1)
      ∧ u.link.refusals = s.link.refusals
      ∧ LineKept s u ∧ ViewKept s u ∧ RemindersKept s u ∧ PanelKept s u ∧ SettingsKept s u ∧ ReportsKept s u
      ∧ QueueKept s u ∧ StoreKept s u ∧ LevelKept s u ∧ SpeakerKept s u ∧ StatusLineKept s u)
  ∧ (∀ (t stamp : Nat) (s : State), s.power.mode ≠ .sleep → s.link.framer.stamp = some stamp → DueAt s t (stamp + 5) →
    ∃ u, exec (.interByteTimeout t []) s = .next u
      ∧ u.link.framer = .hunt ∧ u.link.framingErrors = min 65535 (s.link.framingErrors + 1)
      ∧ u.link.refusals = s.link.refusals
      ∧ LineKept s u ∧ ViewKept s u ∧ RemindersKept s u ∧ PanelKept s u ∧ SettingsKept s u ∧ ReportsKept s u
      ∧ QueueKept s u ∧ StoreKept s u ∧ LevelKept s u ∧ SpeakerKept s u ∧ StatusLineKept s u)
  ∧ (∀ (t : Nat) (type : Byte) (s : State), CueReady s → s.instant (t - 5) + 5 ≤ s.instant t →
    ∃ u, exec (.interByteTimeout t [0x7E#8, type]) s = .next u
      ∧ u.link.framer = .hunt ∧ u.link.framingErrors = min 65535 (s.link.framingErrors + 1)
      ∧ u.link.refusals = s.link.refusals
      ∧ LineKept s u ∧ ViewKept s u ∧ RemindersKept s u ∧ PanelKept s u ∧ SettingsKept s u ∧ ReportsKept s u
      ∧ QueueKept s u ∧ StoreKept s u ∧ LevelKept s u ∧ SpeakerKept s u ∧ StatusLineKept s u)
  ∧ (∀ (t : Nat) (type : Byte) (s : State), CueReady s → s.instant t + 1 < s.instant (t - 5) + 5 →
    ∃ u, exec (.interByteTimeout t [0x7E#8, type]) s = .next u
      ∧ u.link.framer = .length (s.instant (t - 5)) type ∧ u.link.framingErrors = s.link.framingErrors)
  ∧ (∀ (t stamp : Nat) (s : State), s.power.mode ≠ .sleep → s.link.framer.stamp = some stamp → s.now ≤ stamp + 6 →
    s.instant t ≤ stamp + 6)
  ∧ ∀ (down : Keys Bool) (stamp : Nat) (b : Byte) (s : State), s.power.mode ≠ .sleep → s.link.listening = true →
    s.link.framer.stamp = some stamp → stamp + 6 < s.now →
    receiveByte down s b =
      { s with
        link :=
          { s.link with
            framer := if b = 0x7E#8 then .type s.now else .hunt
            framingErrors := min 65535 (s.link.framingErrors + 1) } }

/-- REPORT_SENT (R195): the oldest report leaves the queue, in SLEEP too, and nothing else changes.
A report joins the queue as the newest, or, where the queue holds 16, is lost: counted and latched, with the reports
already queued undisturbed (R195). Before HELLO a report waits for it, 15 at most, and is lost in the same way where they
do (the model's choice, log 43). -/
def Obligations.ReportsLeaveAndJoin : Prop :=
  (∀ (t : Nat) (s : State),
    exec (.reportSent t) s =
      .next { s with now := s.instant t, link := { s.link with reports := s.link.reports.drop 1 } })
  ∧ ∀ (r : Report) (s : State),
    (s.link.listening = true → s.link.reports.length < 16 →
        report r s = { s with link := { s.link with reports := s.link.reports ++ [r] } })
      ∧ (s.link.listening = false → s.link.early.length < 15 →
          report r s = { s with link := { s.link with early := s.link.early ++ [r] } })
      ∧ ((if s.link.listening then 16 ≤ s.link.reports.length else 15 ≤ s.link.early.length) →
          report r s =
            { s with
              link :=
                { s.link with
                  reportsLost := min 65535 (s.link.reportsLost + 1)
                  latches := { s.link.latches with reportsLost := true } } })

/-- A refused cue gets one REFUSED report with its type, its tag (for PROMPT, CANCEL and ACK of the right length) and the
reason, and one count; it leaves the lock, the configuration, the queue, the panel, the estimate and the marks (R192). An
unknown type is refused first (UNKNOWN_CUE), then a wrong length (BAD_LENGTH), then a CONFIGURE while LOCKED. -/
def Obligations.RefusedCuesChangeLittle : Prop :=
  (∀ (t : Nat) (down : Keys Bool) (type : Byte) (payload : List Byte) (s : State) (r : Reason), CueReady s →
    payload.length ≤ 24 → ReportFits s →
    checkCue down type payload (cueActivity type payload (s.arrive t)) = .refused r →
    ∃ u, hearCue t down type payload [] s = .next u
      ∧ u.link.reports = s.link.reports ++ [.refused type (refusedTag type payload) r]
      ∧ u.link.refusals = min 65535 (s.link.refusals + 1)
      ∧ LineKept s u ∧ ViewKept s u ∧ EstimateKept s u ∧ PanelKept s u ∧ SettingsKept s u ∧ QueueKept s u ∧ StoreKept s u
      ∧ LevelKept s u ∧ SpeakerKept s u ∧ StatusLineKept s u)
  ∧ (∀ (t : Nat) (type : Byte) (payload : List Byte) (s : State), CueReady s → payload.length ≤ 24 → ReportFits s →
    (type.toNat = 0 ∨ 14 < type.toNat) →
    ∃ u, exec (.unknownCue t type payload) s = .next u
      ∧ u.link.reports = s.link.reports ++ [.refused type 0 .unknownCue]
      ∧ u.link.refusals = min 65535 (s.link.refusals + 1))
  ∧ (∀ (down : Keys Bool) (type : Byte) (payload : List Byte) (s : State) (n : Nat), cueLength type = some n →
    payload.length ≠ n → checkCue down type payload s = .refused .badLength)
  ∧ ∀ (down : Keys Bool) (payload : List Byte) (s : State), payload.length = 14 → s.link.locked = true →
    checkCue down 0x01#8 payload s = .refused .configLocked

/-- CONFIGURE (R151, R165, R168, R192, R193): with every field in its range it is taken; the settings are replaced, a volume
above 7 is clamped, the marks are armed, the session values become the defaults and the configuration is LOCKED. -/
def Obligations.ConfigureTakesEffect : Prop :=
  ∀ (t : Nat) (p : List Byte) (s : State), CueReady s → s.link.locked = false → p.length = 14 →
    1 ≤ at1 p 0 → at1 p 0 ≤ 15 → at1 p 1 ≤ 3 → at1 p 13 ≤ 2 →
    (∀ i ∈ [4, 6, 8, 10], at2 p i = 0 ∨ 30 ≤ at2 p i ∧ at2 p i ≤ 7200) →
    ∃ u, exec (.configure t p) s = .next u
      ∧ u.link.locked = true ∧ u.link.config.defaultVolume = min 7 (at1 p 2)
      ∧ u.link.config.standbyMinutes = at1 p 3 ∧ u.link.config.countdownTemplate = at1 p 12
      ∧ (at1 p 13 = 0 → u.link.config.policy = .auto) ∧ (at1 p 13 = 1 → u.link.config.policy = .always)
      ∧ (at1 p 13 = 2 → u.link.config.policy = .never)
      ∧ (s.store.state ≠ .ready → u.link.config.languages = ⟨true, false, false, false⟩)
      ∧ (s.store.state = .ready → ∀ l, l ≤ 3 → u.link.config.languages.get l = true →
          ((at1 p 0).testBit l = true ∧ l < s.store.index.length) ∨ l = 0)
      ∧ (s.store.state = .ready → ∀ l, l ≤ 3 → (at1 p 0).testBit l = true → l < s.store.index.length →
          u.link.config.languages.get l = true)
      ∧ (u.link.config.languages.get (at1 p 1) = true → u.link.config.defaultLanguage = at1 p 1)
      ∧ u.link.config.languages.get u.link.config.defaultLanguage = true
      ∧ u.rem.marks =
          ⟨⟨at2 p 4, if at2 p 4 = 0 then .unused else .armed⟩, ⟨at2 p 6, if at2 p 6 = 0 then .unused else .armed⟩,
            ⟨at2 p 8, if at2 p 8 = 0 then .unused else .armed⟩, ⟨at2 p 10, if at2 p 10 = 0 then .unused else .armed⟩⟩
      ∧ u.rem.estimate = s.rem.estimate
      ∧ u.panel =
          { s.panel with language := u.link.config.defaultLanguage, volume := u.link.config.defaultVolume }
      ∧ LineKept s u ∧ ViewKept s u ∧ ReportsKept s u ∧ QueueKept s u ∧ StoreKept s u ∧ LevelKept s u ∧ SpeakerKept s u

/-- SESSION_BEGIN and SESSION_END (R161, R166, R167, R192): what either leaves of the session, its language and volume. An
end removes the waiting and the silent STATUS and COURTESY prompts, with DONE/CANCELLED for the machine controller's, marks a
spoken one to leave at its next boundary, answers every awaiting record with CLEARED, oldest first, and clears the session slots;
prompts of higher class stay. A begin within a session carries out that end first; outside one it clears nothing. That no tag
stands twice in the queue is R3, which every step keeps (StepKeepsStores). -/
def Obligations.SessionsBeginAndEnd : Prop :=
  (∀ (t : Nat) (p : List Byte) (s : State), CueReady s → p.length = 2 → at1 p 0 = 1 → (at1 p 1 ≤ 3 ∨ at1 p 1 = 255) →
    (s.seq.queue.map Entry.tag).Nodup →
    ∃ u, exec (.sessionBegin t p) s = .next u
      ∧ u.panel.inSession = true ∧ u.panel.volume = s.link.config.defaultVolume
      ∧ u.panel.language =
          (if at1 p 1 ≤ 3 ∧ s.link.config.languages.get (at1 p 1) = true then at1 p 1
            else s.link.config.defaultLanguage)
      ∧ (s.panel.inSession = true → SessionEnded s u)
      ∧ (s.panel.inSession = false →
          QueueKept s u ∧ ReportsKept s u ∧ ViewKept s u ∧ u.panel.awaiting = s.panel.awaiting
            ∧ u.panel.repeats = s.panel.repeats ∧ u.panel.lastCompleted = s.panel.lastCompleted
            ∧ ∀ n r, n ≤ 3 → s.rem.slots.get n = some r → r.mode ≠ .idle → u.rem.slots.get n = some r)
      ∧ u.panel.helpTemplate = s.panel.helpTemplate ∧ u.floor.peers = s.floor.peers
      ∧ u.link.locked = true ∧ u.link.config = s.link.config ∧ u.panel.keys = s.panel.keys
      ∧ u.panel.inputs = s.panel.inputs ∧ LineKept s u ∧ EstimateKept s u ∧ StoreKept s u ∧ LevelKept s u ∧ SpeakerKept s u)
  ∧ ∀ (t : Nat) (p : List Byte) (s : State), CueReady s → p.length = 2 → at1 p 0 = 0 →
    (s.seq.queue.map Entry.tag).Nodup →
    ∃ u, exec (.sessionEnd t p) s = .next u
      ∧ u.panel.inSession = false ∧ u.panel.volume = s.link.config.defaultVolume
      ∧ u.panel.language = s.link.config.defaultLanguage ∧ SessionEnded s u
      ∧ u.panel.helpTemplate = s.panel.helpTemplate ∧ u.floor.peers = s.floor.peers
      ∧ u.link.locked = true ∧ u.link.config = s.link.config ∧ u.panel.keys = s.panel.keys
      ∧ u.panel.inputs = s.panel.inputs ∧ LineKept s u ∧ EstimateKept s u ∧ StoreKept s u ∧ LevelKept s u ∧ SpeakerKept s u

/-- MASK, QUIET and PHASE (R15, R122, R144, R172, R194): each sets what it carries, sends no report and leaves the rest.
Where the store is not READY the phase text is the word PHASE, a space and the id; the codes of these characters are the
model's choice, log 50. -/
def Obligations.SmallSettingsAreApplied : Prop :=
  (∀ (t : Nat) (b : Byte) (s : State), CueReady s → b.toNat < 8 →
    ∃ u, exec (.mask t [b]) s = .next u
      ∧ u.seq.mask = ⟨b.toNat.testBit 2, b.toNat.testBit 1, b.toNat.testBit 0⟩
      ∧ u.seq.queue.map Entry.tag = s.seq.queue.map Entry.tag ∧ u.level.quiet = s.level.quiet
      ∧ LineKept s u ∧ ViewKept s u ∧ EstimateKept s u ∧ PanelKept s u ∧ SettingsKept s u ∧ FramerKept s u
      ∧ ReportsKept s u ∧ StoreKept s u ∧ SpeakerKept s u ∧ StatusLineKept s u)
  ∧ (∀ (t : Nat) (b : Byte) (s : State), CueReady s → b.toNat < 2 →
    ∃ u, exec (.quiet t [b]) s = .next u
      ∧ u.level.quiet = decide (b.toNat = 1) ∧ u.level.ring = s.level.ring
      ∧ LineKept s u ∧ ViewKept s u ∧ EstimateKept s u ∧ PanelKept s u ∧ SettingsKept s u ∧ FramerKept s u
      ∧ ReportsKept s u ∧ QueueKept s u ∧ StoreKept s u ∧ SpeakerKept s u ∧ StatusLineKept s u)
  ∧ ∀ (t : Nat) (p : List Byte) (s : State), CueReady s → p.length = 5 → at1 p 0 ≤ 31 → at2 p 1 ≤ 1023 →
    (at2 p 3 ≤ 255 ∨ at2 p 3 = 65535) →
    ∃ u, exec (.phase t p) s = .next u
      ∧ u.display.phase = some ⟨at1 p 0, at2 p 1⟩
      ∧ u.panel = { s.panel with helpTemplate := if at2 p 3 = 65535 then none else some (at2 p 3) }
      ∧ u.display.timeShown = s.display.timeShown ∧ u.display.minutes = s.display.minutes
      ∧ (s.store.state ≠ .ready → u.display.phaseText = phaseWord (at1 p 0))
      ∧ LineKept s u ∧ ViewKept s u ∧ EstimateKept s u ∧ SettingsKept s u ∧ FramerKept s u ∧ ReportsKept s u
      ∧ QueueKept s u ∧ StoreKept s u ∧ LevelKept s u ∧ SpeakerKept s u

/-- PROGRESS (R145, R149, R152, R154): the estimate clamped to 43,200 s, its running mark, its second phase, each mark
spent where the change crosses it and re-armed at its value plus 30, and the time field.
Of the armed marks it crosses the one of the lowest value, among equal values of the lowest index, asks for its prompt with the
new estimate as param1 and a deadline of 30 s, made, merged or dropped as R11 and R13 give it (R152, R153); where it crosses
none, the queue and the reports stay. -/
def Obligations.ProgressSetsTheEstimate : Prop :=
  ∀ (t : Nat) (p : List Byte) (s : State), CueReady s → p.length = 3 → at1 p 2 ≤ 1 →
    ∃ u, exec (.progress t p) s = .next u
      ∧ u.rem.estimate = min 43200 (at2 p 0) ∧ u.rem.running = decide (at1 p 2 = 1)
      ∧ u.rem.secondPhase = (if at1 p 2 = 1 then some ⟨s.instant t + 1000, 1000⟩ else none)
      ∧ (∀ n, (u.rem.marks.get n) =
          ⟨(s.rem.marks.get n).value,
            if (s.rem.marks.get n).state = .armed ∧ (s.rem.marks.get n).value ≤ s.rem.estimate
                ∧ min 43200 (at2 p 0) < (s.rem.marks.get n).value then .spent
            else if (s.rem.marks.get n).state = .spent ∧ (s.rem.marks.get n).value + 30 ≤ min 43200 (at2 p 0) then .armed
            else (s.rem.marks.get n).state⟩)
      ∧ ((∀ n, ¬ MarkCrossed s (min 43200 (at2 p 0)) n) → QueueKept s u ∧ ReportsKept s u ∧ PanelKept s u)
      ∧ (∀ n, MarkFires s (min 43200 (at2 p 0)) n → MarkPromptAsked t n (min 43200 (at2 p 0)) s u)
      ∧ u.display.timeShown = true ∧ u.display.minutes = (u.rem.estimate + 59) / 60
      ∧ u.display.paused = !u.rem.running
      ∧ LineKept s u ∧ ViewKept s u ∧ SessionKept s u ∧ SettingsKept s u ∧ FramerKept s u ∧ StoreKept s u ∧ LevelKept s u
      ∧ SpeakerKept s u

/-- PROMPT that makes an entry (R2, R6, R7, R10, R12, R192): with every field in range, its template known, its tag free and
the queue with room, an entry of origin MACHINE joins with the cue's fields and the instant as its arrival stamp; QUEUED is
sent, and the configuration is LOCKED. A tag that an awaiting record holds is free too: the record leaves with SUPERSEDED (R10).
A full queue makes room by its victim, DROPPED between the two, where the victim's class is lower (R11).
PROMPT with the tag of a QUEUED entry (R4, R8, R177): the entry is replaced in place, with SUPERSEDED for the old and
QUEUED for the new; the arrival stamp and the place among equal stamps are kept, and the tag leaves the repeat list. With the tag
of a CLAIMING entry (R9, R94) the same, once its claim is withdrawn.
It is refused with UNKNOWN_TEMPLATE where the READY store lacks the template, with TAG_BUSY where the tag is SPEAKING or SHOWING,
and with QUEUE_FULL where the capacity check finds no lower class, an awaiting record of its tag staying (R7, R8, R10, R11). -/
def Obligations.PromptMakesOrReplacesAnEntry : Prop :=
  (∀ (t : Nat) (p : List Byte) (s : State), CueReady s → PromptInRange p → TemplateKnown s (at1 p 2) →
    s.entry (at1 p 0) = none → s.awaitingRecord (at1 p 0) = none → s.seq.queue.length < 16 → ReportFits s →
    ∃ u, exec (.prompt t p) s = .next u
      ∧ u.link.reports = s.link.reports ++ [.queued (at1 p 0)] ∧ u.link.locked = true
      ∧ u.seq.queue.length = s.seq.queue.length + 1
      ∧ (∃ e, u.entry (at1 p 0) = some e ∧ CarriesPrompt p e ∧ e.arrival = s.instant t
          ∧ HasPromptDeadline p (s.instant t) e)
      ∧ LineKept s u ∧ ViewKept s u ∧ EstimateKept s u ∧ PanelKept s u ∧ StoreKept s u ∧ LevelKept s u ∧ SpeakerKept s u
      ∧ StatusLineKept s u)
  ∧ (∀ (t : Nat) (p : List Byte) (s : State) (a : Awaiting), CueReady s → PromptInRange p → TemplateKnown s (at1 p 2) →
    s.entry (at1 p 0) = none → s.awaitingRecord (at1 p 0) = some a → s.seq.queue.length < 16 →
    s.link.reports.length + 2 ≤ 16 →
    ∃ u, exec (.prompt t p) s = .next u
      ∧ u.link.reports = s.link.reports ++ [.done (at1 p 0) .superseded, .queued (at1 p 0)] ∧ u.link.locked = true
      ∧ u.seq.queue.length = s.seq.queue.length + 1
      ∧ u.panel = { s.panel with awaiting := s.panel.awaiting.filter fun x => x.tag ≠ at1 p 0 }
      ∧ (∃ e, u.entry (at1 p 0) = some e ∧ CarriesPrompt p e ∧ e.arrival = s.instant t
          ∧ HasPromptDeadline p (s.instant t) e)
      ∧ LineKept s u ∧ ViewKept s u ∧ EstimateKept s u ∧ StoreKept s u ∧ LevelKept s u ∧ SpeakerKept s u
      ∧ StatusLineKept s u)
  ∧ (∀ (t : Nat) (p : List Byte) (s : State) (v : Entry), CueReady s → PromptInRange p → TemplateKnown s (at1 p 2) →
    s.entry (at1 p 0) = none → Evicts s (at1 p 1) v → s.link.reports.length + 3 ≤ 16 →
    ∃ u, exec (.prompt t p) s = .next u
      ∧ (s.awaitingRecord (at1 p 0) = none →
          u.link.reports = s.link.reports ++ victimReports v ++ [.queued (at1 p 0)])
      ∧ (∀ a, s.awaitingRecord (at1 p 0) = some a →
          u.link.reports =
            s.link.reports ++ [.done (at1 p 0) .superseded] ++ victimReports v ++ [.queued (at1 p 0)])
      ∧ u.link.locked = true ∧ VictimMakesRoom v (at1 p 0) s u
      ∧ u.panel =
          { s.panel with
            awaiting := s.panel.awaiting.filter fun x => x.tag ≠ at1 p 0
            repeats := s.panel.repeats.filter fun r => r.tag ≠ v.tag }
      ∧ (∃ e, u.entry (at1 p 0) = some e ∧ CarriesPrompt p e ∧ e.arrival = s.instant t
          ∧ HasPromptDeadline p (s.instant t) e)
      ∧ LineKept s u ∧ ViewKept s u ∧ EstimateKept s u ∧ StoreKept s u ∧ LevelKept s u ∧ SpeakerKept s u
      ∧ StatusLineKept s u)
  ∧ (∀ (t : Nat) (p : List Byte) (s : State) (old : Entry), CueReady s → PromptInRange p → TemplateKnown s (at1 p 2) →
    s.entry (at1 p 0) = some old → (old.state = .queued ∨ old.state = .claiming) → s.link.reports.length + 2 ≤ 16 →
    ∃ u, exec (.prompt t p) s = .next u
      ∧ u.link.reports = s.link.reports ++ [.done (at1 p 0) .superseded, .queued (at1 p 0)] ∧ u.link.locked = true
      ∧ u.panel = { s.panel with repeats := s.panel.repeats.filter fun r => r.tag ≠ at1 p 0 }
      ∧ (∃ e, u.entry (at1 p 0) = some e ∧ CarriesPrompt p e ∧ e.arrival = old.arrival ∧ e.made = old.made
          ∧ HasPromptDeadline p (s.instant t) e)
      ∧ (old.state = .queued → ViewKept s u) ∧ (old.state = .claiming → ClaimWithdrawn s u ∧ u.floor.peers = s.floor.peers)
      ∧ LineKept s u ∧ EstimateKept s u ∧ StoreKept s u ∧ LevelKept s u ∧ SpeakerKept s u
      ∧ StatusLineKept s u)
  ∧ ∀ (t : Nat) (p : List Byte) (s : State) (r : Reason), CueReady s → PromptInRange p → ReportFits s →
    (r = .unknownTemplate ∧ ¬ TemplateKnown s (at1 p 2)
      ∨ r = .tagBusy ∧ TemplateKnown s (at1 p 2)
        ∧ (∃ e, s.entry (at1 p 0) = some e ∧ (e.state = .speaking ∨ e.state = .showing))
      ∨ r = .queueFull ∧ TemplateKnown s (at1 p 2) ∧ s.entry (at1 p 0) = none ∧ QueueFull s (at1 p 1)) →
    ∃ u, exec (.prompt t p) s = .next u
      ∧ u.link.reports = s.link.reports ++ [.refused 0x05#8 (at1 p 0) r]
      ∧ u.link.refusals = min 65535 (s.link.refusals + 1)
      ∧ LineKept s u ∧ ViewKept s u ∧ EstimateKept s u ∧ PanelKept s u ∧ SettingsKept s u ∧ QueueKept s u ∧ StoreKept s u
      ∧ LevelKept s u ∧ SpeakerKept s u ∧ StatusLineKept s u

/-- CANCEL and ACK (R29, R30, R94, R177, R178, R179): CANCEL of an entry of the machine controller removes it with CANCELLED, and
ACK of a repeat entry removes it with ACKED: at once where it is QUEUED, CLAIMING, its claim being withdrawn, or SHOWING, its
service ending, and at its next boundary where it is SPEAKING, an outcome stored before standing; an awaiting record leaves with
CANCELLED or ACKED. CANCEL of a tag that nothing holds is refused, and so is ACK of a tag that neither an awaiting record nor a
repeat entry holds. -/
def Obligations.CancelAndAckAnswer : Prop :=
  (∀ (t : Nat) (b : Byte) (s : State) (e : Entry), CueReady s → 1 ≤ b.toNat → b.toNat ≤ 63 →
    s.entry b.toNat = some e → (e.state = .queued ∨ e.state = .claiming) → e.origin = .machine → ReportFits s →
    ∃ u, exec (.cancel t [b]) s = .next u
      ∧ u.link.reports = s.link.reports ++ [.done b.toNat .cancelled] ∧ u.entry b.toNat = none
      ∧ u.panel = { s.panel with repeats := s.panel.repeats.filter fun r => r.tag ≠ b.toNat }
      ∧ (e.state = .queued → ViewKept s u) ∧ (e.state = .claiming → ClaimWithdrawn s u ∧ u.floor.peers = s.floor.peers)
      ∧ LineKept s u ∧ EstimateKept s u ∧ SettingsKept s u ∧ FramerKept s u ∧ StoreKept s u ∧ LevelKept s u
      ∧ SpeakerKept s u ∧ StatusLineKept s u)
  ∧ (∀ (t : Nat) (b : Byte) (s : State) (a : Awaiting), CueReady s → 1 ≤ b.toNat → b.toNat ≤ 63 →
    s.entry b.toNat = none → s.awaitingRecord b.toNat = some a → ReportFits s →
    ∃ u, exec (.cancel t [b]) s = .next u
      ∧ u.link.reports = s.link.reports ++ [.done b.toNat .cancelled]
      ∧ u.panel = { s.panel with awaiting := s.panel.awaiting.filter fun x => x.tag ≠ b.toNat }
      ∧ LineKept s u ∧ ViewKept s u ∧ EstimateKept s u ∧ SettingsKept s u ∧ FramerKept s u ∧ QueueKept s u ∧ StoreKept s u
      ∧ LevelKept s u ∧ SpeakerKept s u ∧ StatusLineKept s u)
  ∧ (∀ (t : Nat) (b : Byte) (s : State) (a : Awaiting), CueReady s → 1 ≤ b.toNat → b.toNat ≤ 63 →
    s.awaitingRecord b.toNat = some a → ReportFits s →
    ∃ u, exec (.ack t [b]) s = .next u
      ∧ u.link.reports = s.link.reports ++ [.done b.toNat .acked]
      ∧ u.panel = { s.panel with awaiting := s.panel.awaiting.filter fun x => x.tag ≠ b.toNat }
      ∧ LineKept s u ∧ ViewKept s u ∧ EstimateKept s u ∧ SettingsKept s u ∧ FramerKept s u ∧ QueueKept s u ∧ StoreKept s u
      ∧ LevelKept s u ∧ SpeakerKept s u ∧ StatusLineKept s u)
  ∧ (∀ (t : Nat) (b : Byte) (s : State) (e : Entry), CueReady s → 1 ≤ b.toNat → b.toNat ≤ 63 →
    s.awaitingRecord b.toNat = none → (∃ r ∈ s.panel.repeats, r.tag = b.toNat) → s.entry b.toNat = some e →
    (e.state = .queued ∨ e.state = .claiming) → e.origin = .machine → ReportFits s →
    ∃ u, exec (.ack t [b]) s = .next u
      ∧ u.link.reports = s.link.reports ++ [.done b.toNat .acked] ∧ u.entry b.toNat = none
      ∧ u.panel = { s.panel with repeats := s.panel.repeats.filter fun r => r.tag ≠ b.toNat }
      ∧ (e.state = .queued → ViewKept s u) ∧ (e.state = .claiming → ClaimWithdrawn s u ∧ u.floor.peers = s.floor.peers)
      ∧ LineKept s u ∧ EstimateKept s u ∧ SettingsKept s u ∧ FramerKept s u ∧ StoreKept s u ∧ LevelKept s u
      ∧ SpeakerKept s u ∧ StatusLineKept s u)
  ∧ (∀ (c : Instr) (o : DoneOutcome) (t : Nat) (b : Byte) (s : State) (e : Entry), CueReady s → 1 ≤ b.toNat → b.toNat ≤ 63 →
    (c = .cancel t [b] ∧ o = .cancelled
      ∨ c = .ack t [b] ∧ o = .acked ∧ s.awaitingRecord b.toNat = none ∧ ∃ r ∈ s.panel.repeats, r.tag = b.toNat) →
    s.entry b.toNat = some e → e.state = .showing → e.origin = .machine → ReportFits s →
    ∃ u, exec c s = .next u
      ∧ u.link.reports = s.link.reports ++ [.done b.toNat o] ∧ u.entry b.toNat = none
      ∧ (s.seq.queue = [e] → u.seq.slot = none ∧ u.display.text = none)
      ∧ (∀ w, u.seq.slot = some w → w.tag ≠ b.toNat)
      ∧ u.panel = { s.panel with repeats := s.panel.repeats.filter fun r => r.tag ≠ b.toNat }
      ∧ LineKept s u ∧ ViewKept s u ∧ EstimateKept s u ∧ SettingsKept s u ∧ FramerKept s u ∧ StoreKept s u ∧ LevelKept s u
      ∧ SpeakerKept s u ∧ StatusLineKept s u)
  ∧ (∀ (c : Instr) (o : DoneOutcome) (t : Nat) (b : Byte) (s : State) (e : Entry) (v : Service), CueReady s →
    1 ≤ b.toNat → b.toNat ≤ 63 →
    (c = .cancel t [b] ∧ o = .cancelled
      ∨ c = .ack t [b] ∧ o = .acked ∧ s.awaitingRecord b.toNat = none ∧ ∃ r ∈ s.panel.repeats, r.tag = b.toNat) →
    s.entry b.toNat = some e → e.state = .speaking → s.seq.slot = some v →
    ∃ u, exec c s = .next u
      ∧ u.seq = { s.seq with slot := some { v with removal := some (v.removal.getD o) } }
      ∧ ReportsKept s u ∧ PanelKept s u ∧ LineKept s u ∧ ViewKept s u ∧ EstimateKept s u ∧ SettingsKept s u
      ∧ FramerKept s u ∧ StoreKept s u ∧ LevelKept s u ∧ SpeakerKept s u ∧ StatusLineKept s u)
  ∧ (∀ (t : Nat) (b : Byte) (s : State), CueReady s → 1 ≤ b.toNat → b.toNat ≤ 63 →
    s.entry b.toNat = none → s.awaitingRecord b.toNat = none → ReportFits s →
    ∃ u, exec (.cancel t [b]) s = .next u
      ∧ u.link.reports = s.link.reports ++ [.refused 0x06#8 b.toNat .noSuchTag])
  ∧ ∀ (t : Nat) (b : Byte) (s : State), CueReady s → 1 ≤ b.toNat → b.toNat ≤ 63 →
    s.awaitingRecord b.toNat = none → (∀ r ∈ s.panel.repeats, r.tag ≠ b.toNat) → ReportFits s →
    ∃ u, exec (.ack t [b]) s = .next u
      ∧ u.link.reports = s.link.reports ++ [.refused 0x07#8 b.toNat .noSuchTag] ∧ PanelKept s u ∧ QueueKept s u

/-- REMIND and REMIND_CLEAR (R155 to R158, R160): a slot counts afresh from the cue with the cue's fields, whether it was
IDLE or COUNTING; but a slot COUNTING in PERIODIC mode that a PERIODIC cue names keeps its next firing, its delay and its
running period, the cue's period is its next one, and its count, template, class, param1 and scope are replaced. A delay of
0 makes the slot IDLE; the other slots are left, but for an IDLE-mode slot, which every cue restarts. -/
def Obligations.RemindProgramsASlot : Prop :=
  (∀ (t : Nat) (p : List Byte) (s : State), CueReady s → p.length = 12 → at1 p 0 ≤ 3 → at1 p 1 ≤ 2 → 1 ≤ at2 p 2 →
    at2 p 2 ≤ 3600 → (at1 p 1 = 1 → 1 ≤ at2 p 4 ∧ at2 p 4 ≤ 3600) → at1 p 6 ≤ 15 → at1 p 8 ≤ 3 → at2 p 9 ≤ 43200 →
    at1 p 11 ≤ 1 → (∀ r, s.rem.slots.get (at1 p 0) = some r → r.mode ≠ .periodic ∨ at1 p 1 ≠ 1) →
    ∃ u, exec (.remind t p) s = .next u
      ∧ (∃ r, u.rem.slots.get (at1 p 0) = some r ∧ r.mode.code = at1 p 1 ∧ r.delay = at2 p 2
          ∧ (r.mode = .periodic → r.period = at2 p 4
              ∧ r.remaining = if at1 p 6 = 0 then none else some (at1 p 6))
          ∧ r.template = at1 p 7 ∧ r.cls.val = at1 p 8 ∧ r.param1 = at2 p 9 ∧ r.persistent = decide (at1 p 11 = 1)
          ∧ r.nextPeriod = none ∧ r.nextFiring = some ⟨s.instant t + at2 p 2 * 1000, at2 p 2 * 1000⟩)
      ∧ (∀ n r, n ≤ 3 → n ≠ at1 p 0 → s.rem.slots.get n = some r → r.mode ≠ .idle → u.rem.slots.get n = some r)
      ∧ LineKept s u ∧ ViewKept s u ∧ EstimateKept s u ∧ PanelKept s u ∧ SettingsKept s u ∧ FramerKept s u
      ∧ ReportsKept s u ∧ QueueKept s u ∧ StoreKept s u ∧ LevelKept s u ∧ SpeakerKept s u ∧ StatusLineKept s u)
  ∧ (∀ (t : Nat) (p : List Byte) (s : State) (r : SlotRecord), CueReady s → p.length = 12 → at1 p 0 ≤ 3 → at1 p 1 = 1 →
    1 ≤ at2 p 2 → at2 p 2 ≤ 3600 → 1 ≤ at2 p 4 → at2 p 4 ≤ 3600 → at1 p 6 ≤ 15 → at1 p 8 ≤ 3 → at2 p 9 ≤ 43200 →
    at1 p 11 ≤ 1 → s.rem.slots.get (at1 p 0) = some r → r.mode = .periodic →
    ∃ u r', exec (.remind t p) s = .next u
      ∧ u.rem.slots.get (at1 p 0) = some r' ∧ r'.mode = .periodic ∧ r'.delay = r.delay ∧ r'.period = r.period
      ∧ r'.nextFiring = r.nextFiring ∧ r'.nextPeriod = some (at2 p 4)
      ∧ r'.remaining = (if at1 p 6 = 0 then none else some (at1 p 6))
      ∧ r'.template = at1 p 7 ∧ r'.cls.val = at1 p 8 ∧ r'.param1 = at2 p 9 ∧ r'.persistent = decide (at1 p 11 = 1)
      ∧ (∀ n r, n ≤ 3 → n ≠ at1 p 0 → s.rem.slots.get n = some r → r.mode ≠ .idle → u.rem.slots.get n = some r)
      ∧ LineKept s u ∧ ViewKept s u ∧ EstimateKept s u ∧ PanelKept s u ∧ SettingsKept s u ∧ FramerKept s u
      ∧ ReportsKept s u ∧ QueueKept s u ∧ StoreKept s u ∧ LevelKept s u ∧ SpeakerKept s u ∧ StatusLineKept s u)
  ∧ ∀ (t : Nat) (p : List Byte) (s : State), CueReady s → p.length = 12 → at1 p 0 ≤ 3 → at2 p 2 = 0 →
    ∃ u, exec (.remindClear t p) s = .next u
      ∧ u.rem.slots.get (at1 p 0) = none
      ∧ (∀ n r, n ≤ 3 → n ≠ at1 p 0 → s.rem.slots.get n = some r → r.mode ≠ .idle → u.rem.slots.get n = some r)
      ∧ LineKept s u ∧ ViewKept s u ∧ EstimateKept s u ∧ PanelKept s u ∧ SettingsKept s u ∧ FramerKept s u
      ∧ ReportsKept s u ∧ QueueKept s u ∧ StoreKept s u ∧ LevelKept s u ∧ SpeakerKept s u ∧ StatusLineKept s u

/-- SLEEP (R71, R184, R185): when nothing forbids it, it is taken: in LISTEN_IN and ON the final PRESENCE is handed over
with 100 ms to go through (one that is still on the line from an earlier entry is not doubled, log 16); in OFF and FAULT the
part enters SLEEP at once, with the amplifier OFF and the line SILENT.
In a session, with an entry in the queue, an awaiting record or a COUNTING slot, while a check runs or the part is ANNOUNCING, the
cue is refused NOT_IDLE: it is activity, and nothing else changes but what any refused cue does (R184, R185, R192). That a second
cue leaves the announcement running is the model's reading (log 10). -/
def Obligations.SleepCueIsTaken : Prop :=
  (∀ (t : Nat) (s : State), CueReady s → s.panel.inSession = false → s.seq.queue = [] → s.panel.awaiting = [] →
    s.rem.slots = ⟨none, none, none, none⟩ → s.power.check = .idle → s.power.announcing = false →
    ∃ u, exec (.sleep t [] []) s = .next u
      ∧ (s.hall.state.isUp = true →
          u.power.announcing = true ∧ u.power.mode = .active ∧ u.hall.finalTimer = some ⟨s.instant t + 100, 100⟩
            ∧ (∃ x ∈ u.hall.txList, x.frame = .presence .final)
            ∧ ((∀ x ∈ s.hall.txList, x.frame ≠ .presence .final) → ⟨.presence .final, false⟩ ∈ u.hall.txList)
            ∧ u.hall.state = s.hall.state)
      ∧ (s.hall.state.isUp = false →
          u.power.mode = .sleep ∧ u.power.amp = .off ∧ u.power.dim = none ∧ u.power.standby = none
            ∧ u.hall.line = .silent ∧ u.hall.txList = [] ∧ u.hall.heartbeat = none ∧ u.level.sampleDue = none
            ∧ u.rem.secondPhase = none ∧ u.display.brightness = 0)
      ∧ EstimateKept s u ∧ PanelKept s u ∧ SettingsKept s u ∧ ReportsKept s u ∧ QueueKept s u ∧ StoreKept s u
      ∧ SpeakerKept s u ∧ StatusLineKept s u ∧ u.level.ring = s.level.ring ∧ u.floor.peers = s.floor.peers)
  ∧ ∀ (t : Nat) (s : State), CueReady s → ReportFits s →
    (s.panel.inSession = true ∨ s.seq.queue ≠ [] ∨ s.panel.awaiting ≠ [] ∨ (∃ n r, s.rem.slots.get n = some r)
      ∨ s.power.check ≠ .idle ∨ s.power.announcing = true) →
    ∃ u, exec (.sleep t [] []) s = .next u
      ∧ u.link.reports = s.link.reports ++ [.refused 0x0B#8 0 .notIdle]
      ∧ u.link.refusals = min 65535 (s.link.refusals + 1) ∧ u.link.framer = .hunt
      ∧ u.power.mode = .active ∧ u.power.announcing = s.power.announcing
      ∧ LineKept s u ∧ ViewKept s u ∧ EstimateKept s u ∧ PanelKept s u ∧ SettingsKept s u ∧ QueueKept s u ∧ StoreKept s u
      ∧ LevelKept s u ∧ SpeakerKept s u ∧ StatusLineKept s u

/-- SELFTEST (R183, R187): with the slot empty, the floor not held and no check running, a check starts: the test at once
where the amplifier is ON, else its warm-up; else the cue is refused BUSY. -/
def Obligations.SelftestStartsACheck : Prop :=
  (∀ (t : Nat) (s : State), CueReady s → s.seq.slot = none → s.floor.own.state ≠ .holding → s.power.check = .idle →
    ∃ u, exec (.selftest t []) s = .next u
      ∧ (s.power.amp = .on → u.power.check = .test false ⟨s.instant t + 300, 300⟩ ∧ u.power.amp = .on)
      ∧ (s.power.amp ≠ .on → u.power.check = .warmUp false ∧ u.power.amp = .warming ⟨s.instant t + 120, 120⟩)
      ∧ u.power.result = s.power.result ∧ u.seq.slot = none
      ∧ LineKept s u ∧ ViewKept s u ∧ EstimateKept s u ∧ PanelKept s u ∧ SettingsKept s u ∧ FramerKept s u
      ∧ ReportsKept s u ∧ QueueKept s u ∧ StoreKept s u ∧ LevelKept s u ∧ StatusLineKept s u)
  ∧ ∀ (t : Nat) (s : State), CueReady s → ReportFits s →
    (s.seq.slot ≠ none ∨ s.floor.own.state = .holding ∨ s.power.check ≠ .idle) →
    ∃ u, exec (.selftest t []) s = .next u
      ∧ u.link.reports = s.link.reports ++ [.refused 0x0C#8 0 .busy] ∧ u.power.check = s.power.check

/-- STATUS (R160, R163, R192, R196, R201): five pages join in page order. Page 0 is read once the cue has had its effect as
activity: the power mode is ACTIVE, and all else is as it stood, the latches before they are cleared. Pages 1, 2 and 3 are the
counters, the counters, and the estimate with the marks, as they stand. Page 4 shows the slots at that instant, the IDLE-mode
slots with their delays just restarted. A clear-latches byte of 1 clears the latches. -/
def Obligations.StatusReportsFivePages : Prop :=
  ∀ (t : Nat) (b : Byte) (s : State), CueReady s → NothingToSelect s → b.toNat ≤ 1 → s.link.reports.length + 5 ≤ 16 →
    ∃ u, exec (.status t [b]) s = .next u
      ∧ u.link.reports =
          s.link.reports ++
            [.statusReply 0
                [0#8, byte s.hall.state.code, byte s.hall.state.causeCode, byte s.floor.own.state.code,
                  byte (if s.panel.inSession then 1 else 0), byte s.panel.language, byte s.panel.volume,
                  byte (if s.link.locked then 1 else 0), byte s.seq.queue.length, byte s.panel.awaiting.length,
                  byte ((s.seq.slot.map Service.tag).getD 0), byte ((s.served.map fun e => e.state.slotCode).getD 0),
                  byte (ambientAverage s.level.ring), byte s.level.lastG, byte s.power.result.code,
                  byte s.power.impedance, byte s.store.state.code, byte s.seq.mask.code,
                  byte (if s.level.quiet then 1 else 0), byte s.link.latches.code],
              .statusReply 1
                (bytes2 s.hall.framesReceived ++ bytes2 s.hall.badFrames ++ bytes2 s.hall.ownBitErrors
                  ++ bytes2 s.floor.claimsSent ++ bytes2 s.floor.claimsConfirmed ++ bytes2 s.floor.claimsLost
                  ++ bytes2 s.seq.cuts ++ bytes2 s.floor.overlaps),
              .statusReply 2
                (bytes2 s.level.maskedPhrases ++ bytes2 s.store.readErrors ++ bytes2 s.seq.internalDrops
                  ++ bytes2 s.link.refusals ++ bytes2 s.link.framingErrors ++ bytes2 s.link.reportsLost
                  ++ bytes2 s.store.truncated ++ bytes2 s.power.weakSpeaker),
              .statusReply 3
                (bytes2 s.rem.estimate ++ [byte (if s.rem.running then 1 else 0)]
                  ++ (bytes2 s.rem.marks.a0.value ++ [byte s.rem.marks.a0.state.code])
                  ++ (bytes2 s.rem.marks.a1.value ++ [byte s.rem.marks.a1.state.code])
                  ++ (bytes2 s.rem.marks.a2.value ++ [byte s.rem.marks.a2.state.code])
                  ++ (bytes2 s.rem.marks.a3.value ++ [byte s.rem.marks.a3.state.code])),
              .statusReply 4
                (s.rem.slots.map fun
                  | none => [0#8, 0#8, 0#8, 0xFF#8, 0xFF#8]
                  | some r =>
                    [byte (1 + 2 * r.mode.code + (if r.persistent then 8 else 0) + 16 * r.cls.val), byte r.template,
                        byte (r.remaining.getD 0)]
                      ++ bytes2 (if r.mode = .idle then r.delay else match r.nextFiring with
                        | some tm => (tm.due - s.instant t + 999) / 1000
                        | none => 65535)).list.flatten]
      ∧ u.link.latches = (if b.toNat = 1 then ⟨false, false, false, false, false, false, false⟩ else s.link.latches)
      ∧ LineKept s u ∧ ViewKept s u ∧ EstimateKept s u ∧ PanelKept s u ∧ SettingsKept s u ∧ FramerKept s u ∧ QueueKept s u
      ∧ StoreKept s u ∧ LevelKept s u ∧ SpeakerKept s u ∧ StatusLineKept s u

/-- RESET (R31, R70, R78, R107, R109, R148, R151, R155, R165, R180, R195, R199): a soft reset empties the queue, the slot, the
lists and the slots, restarts the session values and the marks, stops a check, settles the sample hold, and keeps every counter,
the latches, configuration, lock, store, speaker result and ring; HELLO follows the report being sent, which is the oldest of
the queue (the model's reading, log 37). Every key input is debounced afresh for 30 ms from the soft reset's instant (the
model's reading, log 25).
On the line (R60, R70, R107): a frame being sent is abandoned, and the port waits for an idle line then (the line state after it is
the model's reading, log 15, since R70 does not name it), every CLAIM leaves the list, RELEASE and PRESENCE wait again, and a
held floor is given up with RELEASE(CUT), but in FAULT; the hall state, the heartbeat and the recovery schedule run on, and an
attempt that has waited for the service starts, since the slot is empty (R20). The own claim, the outgoing and the pending one are
gone, the own sequence counter goes on, and every peer record stays as it is, but for what the examination of the own zone
confirms once the own claim has left it (R78, R85, R107): the top-ranked claim, where its settle window counts as over, which is
once its end has been taken or its 60 ms are past (the model's choice, log 18).
A RESET whose cue brings a trail of bytes does the same, and then those bytes are heard (R191, log 9). -/
def Obligations.SoftResetClearsAndKeeps : Prop :=
  (∀ (t : Nat) (down : Keys Bool) (trail : List Byte) (s : State), CueReady s →
    exec (.reset t [] down trail) s =
      .next (conclude (receiveBytes down trail (takeCue down 0x0E#8 [] (s.arrive t)))))
  ∧ ∀ (t : Nat) (down : Keys Bool) (s : State), CueReady s →
    ∃ u, exec (.reset t [] down []) s = .next u
      ∧ u.seq.queue = [] ∧ u.seq.slot = none ∧ u.seq.mask = ⟨false, false, false⟩ ∧ u.speech = .idle
      ∧ u.tone = ⟨.idle, .idle⟩
      ∧ u.level = { s.level with hold := .settling ⟨s.instant t + 250, 250⟩, quiet := false }
      ∧ u.rem =
          ⟨0, false, none,
            s.rem.marks.map fun m => ⟨m.value, if m.value = 0 then .unused else .armed⟩, ⟨none, none, none, none⟩⟩
      ∧ u.panel =
          ⟨false, s.link.config.defaultLanguage, s.link.config.defaultVolume,
            down.map fun d => if d then .blocked else .up, down.map fun d => ⟨d, ⟨s.instant t + 30, 30⟩⟩,
            none, none, [], []⟩
      ∧ u.power.mode = .active ∧ u.power.check = .idle ∧ u.power.dim = some ⟨s.instant t + 60000, 60000⟩
      ∧ u.power.result = s.power.result ∧ u.power.impedance = s.power.impedance
      ∧ u.power.weakSpeaker = s.power.weakSpeaker ∧ u.display = Display.reset
      ∧ u.floor.own.state = .free ∧ u.floor.own.claim = none ∧ u.hall.state = s.hall.state
      ∧ u.hall.heartbeat = s.hall.heartbeat ∧ u.hall.framesReceived = s.hall.framesReceived
      ∧ u.hall.badFrames = s.hall.badFrames ∧ u.hall.ownBitErrors = s.hall.ownBitErrors
      ∧ u.seq.internalDrops = s.seq.internalDrops ∧ u.seq.cuts = s.seq.cuts ∧ u.link.latches = s.link.latches
      ∧ u.floor.claimsSent = s.floor.claimsSent ∧ u.floor.claimsConfirmed = s.floor.claimsConfirmed
      ∧ u.floor.claimsLost = s.floor.claimsLost ∧ u.floor.overlaps = s.floor.overlaps
      ∧ u.store.readErrors = s.store.readErrors ∧ u.store.truncated = s.store.truncated
      ∧ u.link.reportsLost = s.link.reportsLost ∧ u.hall.errorRun = s.hall.errorRun
      ∧ u.hall.onLine = none ∧ (s.hall.line = .sending → s.hall.onLine.isSome = true → u.hall.line = .waitIdle)
      ∧ (s.hall.line ≠ .sending → u.hall.line = s.hall.line)
      ∧ (s.hall.recovery ≠ .waiting →
          u.hall.recovery = s.hall.recovery
            ∧ (∀ seq, s.floor.own.state = .holding → s.hall.state.isFault = false → ReleaseSeq s.floor.own seq →
                u.hall.txList =
                  ((s.hall.txList.filter fun x => !x.isClaim).map fun x => ⟨x.frame, false⟩) ++ [⟨.release seq .cut, false⟩])
            ∧ (s.floor.own.state ≠ .holding ∨ s.hall.state.isFault = true →
                u.hall.txList = (s.hall.txList.filter fun x => !x.isClaim).map fun x => ⟨x.frame, false⟩))
      ∧ (s.hall.recovery = .waiting →
          u.hall.recovery = .attempting (s.instant t)
            ∧ ((∀ x ∈ s.hall.txList, x.isPresence = false) → ⟨.presence .recovery, false⟩ ∈ u.hall.txList))
      ∧ u.floor.own = { OwnFloor.reset with nextSeq := s.floor.own.nextSeq }
      ∧ u.floor.peers.map Peer.station = s.floor.peers.map Peer.station
      ∧ u.floor.peers.map Peer.zone = s.floor.peers.map Peer.zone
      ∧ u.floor.peers.map Peer.presence = s.floor.peers.map Peer.presence
      ∧ u.floor.peers.map Peer.lastHeard = s.floor.peers.map Peer.lastHeard
      ∧ (s.floor.own.claim = none → u.floor.peers = s.floor.peers)
      ∧ (∀ c, s.floor.own.claim = some c →
          (∃ x ∈ s.peerClaims, x.2.zone = c.zone ∧ x.2.confirmed = true) ∨ (∀ x ∈ s.peerClaims, x.2.zone ≠ c.zone) →
          u.floor.peers = s.floor.peers)
      ∧ (∀ c x, s.floor.own.claim = some c → (∀ y ∈ s.peerClaims, y.2.zone = c.zone → y.2.confirmed = false) →
          topClaim (s.peerClaims.filter fun y => y.2.zone = c.zone) = some x → x.1 ≠ s.straps.station →
          u.floor.peers =
            if x.2.windowEnded (s.instant t) then
              s.floor.peers.map fun p =>
                if p.station = x.1 then
                  { p with
                    claim := p.claim.map fun k =>
                      { k with
                        confirmed := true
                        expiry := ⟨s.instant t + (k.length * 100 + 1000), k.length * 100 + 1000⟩ }
                    lastConfirmed := some (s.instant t) }
                else p
            else s.floor.peers)
      ∧ u.link.reports =
          s.link.reports.take 1 ++
            [.hello (helloCode (s.store.state = .failed) s.power.result.isFault (s.hall.state = .fault .stuck))
              s.straps.station s.straps.zone]
      ∧ SettingsKept s u ∧ FramerKept s u ∧ StoreKept s u

/-! ### The hall line and the floor -/

/-- Every frame of a kind, class and fields of R58 is judged good again from the bits it is sent as, and has the length of
its kind: 40 bits for a CLAIM, 32 for a RELEASE and a PRESENCE, the first of them dominant (R57, R58, R59, R202). -/
def Obligations.HallFrameRoundTrip : Prop :=
  ∀ f : HallFrame, f.good = true →
    judge f.bits = .good f ∧ f.bits.head? = some false
      ∧ f.bits.length = (match f with
        | .claim _ => 40
        | _ => 32)

/-- A frame whose check does not match, or whose end field is not recessive, is bad, whatever good fields it carries (R58,
R59).
BAD_FRAME (R59): counted, and nothing of it reaches another block; a frame that fails before its check and end field sends
the port to WAIT_IDLE; after one that fails its check or its end field the port counts the idle line from there (log 38
says how R59's special situation is read beside this). -/
def Obligations.BadFramesReachNoBlock : Prop :=
  (∀ (f : HallFrame) (check : BitVec 8), f.good = true → check ≠ crc8 f.covered →
    judge (false :: f.covered ++ msb 8 check.toNat ++ [true, true, true]) = .badCheck)
  ∧ (∀ (f : HallFrame) (a b c : Bool), f.good = true → (a = false ∨ b = false ∨ c = false) →
    judge (false :: f.covered ++ msb 8 (crc8 f.covered).toNat ++ [a, b, c]) = .badCheck)
  ∧ ∀ (t : Nat) (bits : List Bool) (s : State), s.power.mode ≠ .sleep → s.hall.follows = true →
    (∀ f, judge bits ≠ .good f) →
    ∃ u, exec (.badFrame t bits) s = .next u
      ∧ u.hall.badFrames = min 65535 (s.hall.badFrames + 1) ∧ u.hall.framesReceived = s.hall.framesReceived
      ∧ (judge bits = .bad → u.hall.line = .waitIdle)
      ∧ (judge bits = .badCheck → u.hall.line = .receiving ∧ u.hall.idleCounting = true) ∧ u.hall.state = s.hall.state
      ∧ ViewKept s u ∧ ReportsKept s u ∧ BesidesHallKept s u

/-- PEER_CLAIM (R59, R75, R76, R81): the frame is counted, the peer is PRESENT with the instant as its last-heard stamp,
and its live claim is the one the frame gives: unconfirmed, in its settle window.
A CLAIM of a higher class than the own one that holds the zone preempts it (R98, R99): the claim is flagged, its expiry stamp is
the earlier of its present one and 3,000 ms from the frame, which the timebase does not pass by more than R1 allows before the
claim has left (R1; that both intervals hold the timebase is the model's choice, logs 2 and 47), and a HOLDING station's
service gets the PREEMPT notice.
A CLAIM heard in the own zone while the own one waits in the list, and that outranks it, takes it back (R81 step 4, R92;
Safety.ClaimTakenBack); any other leaves it.
PEER_RELEASE (R59, R76, R82): a matching sequence removes the peer's claim, and any sequence a PRESUMED one; another leaves
it. After the removal the zone of the claim is examined (R84, R85, R92; Safety.Examined): the next top-ranked claim may be
confirmed, the own one becoming HOLDING, and an own claim that is outranked is lost, at once also to a claim still in its settle
window (the model's choice, log 51; when a window counts as over is log 18). -/
def Obligations.PeerClaimsAndReleases : Prop :=
  (∀ (t : Nat) (f : ClaimFrame) (s : State), s.power.mode ≠ .sleep → s.hall.follows = true → f.station ≠ 0#5 →
    f.length ≠ 0#8 → f.station.toNat ≠ s.straps.station →
    ∃ u p, exec (.peerClaim t f) s = .next u
      ∧ u.peer f.station.toNat = some p ∧ p.zone = f.zone.toNat ∧ p.presence = .present ∧ p.lastHeard = s.instant t
      ∧ p.claim =
          some
            { zone := f.zone.toNat, cls := .heard f.cls, bucket := f.bucket.toNat, length := f.length.toNat
              seq := some f.seq.toNat, heard := s.instant t, settled := false, confirmed := false
              expiry := ⟨s.instant t + 60 + f.length.toNat * 100 + 1000, 60 + f.length.toNat * 100 + 1000⟩
              preemptPending := false, outer := none }
      ∧ u.hall.framesReceived = min 65535 (s.hall.framesReceived + 1) ∧ u.hall.badFrames = s.hall.badFrames
      ∧ u.hall.state = s.hall.state ∧ ReportsKept s u ∧ BesidesHallKept s u)
  ∧ (∀ (t : Nat) (f : ClaimFrame) (s : State) (oc : LiveClaim) (k : Cls) (v : Service), s.power.mode ≠ .sleep →
    s.hall.follows = true → f.station ≠ 0#5 → f.length ≠ 0#8 → f.station.toNat ≠ s.straps.station →
    s.floor.own.claim = some oc → oc.confirmed = true → oc.zone = f.zone.toNat → oc.cls = .heard k →
    k.val < f.cls.val → oc.preemptPending = false → oc.outer = none → s.floor.own.state = .holding →
    s.floor.own.outgoing = none → s.seq.slot = some v →
    (∀ o, (s.peer f.station.toNat).bind Peer.claim = some o → o.zone = f.zone.toNat) →
    ∃ u c, exec (.peerClaim t f) s = .next u
      ∧ u.floor.own.claim = some c ∧ c.preemptPending = true ∧ c.confirmed = true ∧ c.seq = oc.seq
      ∧ (s.instant t + 3000 < oc.expiry.due → c.expiry = ⟨s.instant t + 3000, 3000⟩)
      ∧ (oc.expiry.due ≤ s.instant t + 3000 → c.expiry = oc.expiry)
      ∧ (∀ t', u.instant t' ≤ s.instant t + 3030)
      ∧ u.seq.slot = some { v with preempt := true } ∧ u.floor.own.state = .holding
      ∧ ReportsKept s u ∧ BesidesHallKept s u)
  ∧ (∀ (t : Nat) (f : ClaimFrame) (s : State) (o : Outgoing), s.power.mode ≠ .sleep → s.hall.follows = true →
    f.station ≠ 0#5 → f.length ≠ 0#8 → f.station.toNat ≠ s.straps.station →
    (s.peer f.station.toNat).bind Peer.claim = none → s.floor.own.outgoing = some o → o.takenBack = .no →
    ∃ u, exec (.peerClaim t f) s = .next u
      ∧ (f.zone.toNat = s.straps.zone →
          (RankKey.mk f.cls.val f.bucket.toNat f.station.toNat).outranks
            ⟨o.content.cls.val, o.content.bucket, s.straps.station⟩ = true →
          ClaimTakenBack o s u)
      ∧ (f.zone.toNat ≠ s.straps.zone
          ∨ (RankKey.mk f.cls.val f.bucket.toNat f.station.toNat).outranks
              ⟨o.content.cls.val, o.content.bucket, s.straps.station⟩ = false →
          u.floor.own.outgoing = some o ∧ u.floor.claimsLost = s.floor.claimsLost
            ∧ (s.hall.recovery ≠ .waiting → u.hall.txList = s.hall.txList))
      ∧ ReportsKept s u ∧ BesidesHallKept s u)
  ∧ ∀ (t : Nat) (f : ReleaseFrame) (s : State) (p : Peer) (c : LiveClaim), s.power.mode ≠ .sleep → s.hall.follows = true →
    f.station ≠ 0#5 → f.station.toNat ≠ s.straps.station → s.peer f.station.toNat = some p → p.claim = some c →
    ∃ u q, exec (.peerRelease t f) s = .next u
      ∧ u.peer f.station.toNat = some q ∧ q.zone = f.zone.toNat ∧ q.presence = .present ∧ q.lastHeard = s.instant t
      ∧ (c.cls = .presumed ∨ c.seq = some f.seq.toNat →
          q.claim = none ∧ (OneRecordEach s → Examined t c.zone f.station.toNat s u))
      ∧ (c.cls ≠ .presumed → c.seq ≠ some f.seq.toNat → q.claim = some c)
      ∧ u.hall.framesReceived = min 65535 (s.hall.framesReceived + 1) ∧ u.hall.badFrames = s.hall.badFrames
      ∧ u.hall.state = s.hall.state ∧ ReportsKept s u ∧ BesidesHallKept s u

/-- PEER_PRESENCE (R59, R76, R87): SLEEPING makes the peer ASLEEP without a claim; a holding PRESENCE of a peer without a
claim makes a PRESUMED one, confirmed at once in a zone without a holder; any other leaves a claim made by a CLAIM. A later
holding PRESENCE renews a PRESUMED claim, one without the flag removes it.
Overlap (R87, R101, R102): while this station is HOLDING, a holding PRESENCE from its zone whose sender has no confirmed claim
there is counted and latched, each time; the higher station number gets the notice, the lower goes on; a sender without a claim
gets an unconfirmed PRESUMED one beside the confirmed own one. Any other PRESENCE is no overlap. -/
def Obligations.PeerPresenceUpdatesTheView : Prop :=
  (∀ (t : Nat) (f : PresenceFrame) (s : State), s.power.mode ≠ .sleep → s.hall.follows = true → f.station ≠ 0#5 →
    f.station.toNat ≠ s.straps.station → f.mode = .sleeping →
    ∃ u p, exec (.peerPresence t f) s = .next u
      ∧ u.peer f.station.toNat = some p ∧ p.presence = .asleep ∧ p.lastHeard = s.instant t ∧ p.claim = none
      ∧ u.hall.framesReceived = min 65535 (s.hall.framesReceived + 1) ∧ ReportsKept s u ∧ BesidesHallKept s u)
  ∧ (∀ (t : Nat) (f : PresenceFrame) (s : State), s.power.mode ≠ .sleep → s.hall.follows = true → f.station ≠ 0#5 →
    f.station.toNat ≠ s.straps.station → f.mode ≠ .sleeping → f.holding = true →
    (s.peer f.station.toNat).bind Peer.claim = none → s.holderOf f.zone.toNat = none →
    ∃ u p, exec (.peerPresence t f) s = .next u
      ∧ u.peer f.station.toNat = some p ∧ p.presence = .present ∧ p.lastConfirmed = some (s.instant t)
      ∧ p.claim =
          some
            { zone := f.zone.toNat, cls := .presumed, bucket := 15, length := 255, seq := none, heard := s.instant t
              settled := true, confirmed := true, expiry := ⟨s.instant t + 26500, 26500⟩, preemptPending := false, outer := none }
      ∧ u.hall.framesReceived = min 65535 (s.hall.framesReceived + 1) ∧ ReportsKept s u ∧ BesidesHallKept s u)
  ∧ (∀ (t : Nat) (f : PresenceFrame) (s : State) (c : LiveClaim), s.power.mode ≠ .sleep → s.hall.follows = true →
    f.station ≠ 0#5 → f.station.toNat ≠ s.straps.station → f.mode ≠ .sleeping →
    (s.peer f.station.toNat).bind Peer.claim = some c → c.cls ≠ .presumed →
    ∃ u p, exec (.peerPresence t f) s = .next u
      ∧ u.peer f.station.toNat = some p ∧ p.presence = .present ∧ p.lastHeard = s.instant t ∧ p.claim = some c
      ∧ u.hall.framesReceived = min 65535 (s.hall.framesReceived + 1) ∧ ReportsKept s u ∧ BesidesHallKept s u)
  ∧ (∀ (t : Nat) (f : PresenceFrame) (s : State) (q : Peer) (c : LiveClaim), s.power.mode ≠ .sleep →
    s.hall.follows = true → f.station ≠ 0#5 → f.station.toNat ≠ s.straps.station → f.mode ≠ .sleeping →
    s.peer f.station.toNat = some q → q.claim = some c → c.cls = .presumed →
    ∃ u p, exec (.peerPresence t f) s = .next u
      ∧ u.peer f.station.toNat = some p ∧ p.zone = f.zone.toNat ∧ p.presence = .present ∧ p.lastHeard = s.instant t
      ∧ (f.holding = true →
          p.claim = some { c with expiry := ⟨s.instant t + 26500, 26500⟩ }
            ∧ p.lastConfirmed = if c.confirmed then some (s.instant t) else q.lastConfirmed)
      ∧ (f.holding = false → p.claim = none ∧ p.lastConfirmed = q.lastConfirmed)
      ∧ u.hall.framesReceived = min 65535 (s.hall.framesReceived + 1) ∧ ReportsKept s u ∧ BesidesHallKept s u)
  ∧ (∀ (t : Nat) (f : PresenceFrame) (s : State) (v : Service), s.power.mode ≠ .sleep → s.hall.follows = true →
    f.station ≠ 0#5 → f.station.toNat ≠ s.straps.station → f.mode ≠ .sleeping → f.holding = true →
    f.zone.toNat = s.straps.zone → s.floor.own.state = .holding → s.seq.slot = some v →
    (∀ c, s.floor.own.claim = some c → c.confirmed = true) →
    (∀ c, (s.peer f.station.toNat).bind Peer.claim = some c → c.confirmed = true → c.zone ≠ s.straps.zone) →
    ∃ u, exec (.peerPresence t f) s = .next u
      ∧ u.floor.overlaps = min 65535 (s.floor.overlaps + 1) ∧ u.link.latches.overlap = true
      ∧ (f.station.toNat < s.straps.station → u.seq.slot = some { v with overlap := true })
      ∧ (s.straps.station < f.station.toNat → u.seq.slot = some v)
      ∧ (∀ c, s.floor.own.claim = some c → c.zone = s.straps.zone → (s.peer f.station.toNat).bind Peer.claim = none →
          ∃ p, u.peer f.station.toNat = some p ∧ p.claim =
            some
              { zone := f.zone.toNat, cls := .presumed, bucket := 15, length := 255, seq := none, heard := s.instant t
                settled := true, confirmed := false, expiry := ⟨s.instant t + 26500, 26500⟩, preemptPending := false, outer := none })
      ∧ u.floor.own = s.floor.own ∧ ReportsKept s u ∧ BesidesHallKept s u)
  ∧ ∀ (t : Nat) (f : PresenceFrame) (s : State), s.power.mode ≠ .sleep → s.hall.follows = true → f.station ≠ 0#5 →
    f.station.toNat ≠ s.straps.station →
    (s.floor.own.state ≠ .holding ∨ f.holding = false ∨ f.zone.toNat ≠ s.straps.zone ∨ f.mode = .sleeping
      ∨ ∃ c, (s.peer f.station.toNat).bind Peer.claim = some c ∧ c.confirmed = true ∧ c.zone = s.straps.zone) →
    ∃ u, exec (.peerPresence t f) s = .next u
      ∧ u.floor.overlaps = s.floor.overlaps ∧ u.link.latches.overlap = s.link.latches.overlap
      ∧ ReportsKept s u ∧ BesidesHallKept s u

/-- FRAME_START (R60, R61, R74): on an idle line the first frame of the list, RELEASE before CLAIM before PRESENCE, goes on
the line, and no other of the list: a CLAIM or RELEASE with the content the Floor Unit gave it, a PRESENCE with the content
it takes at that moment. Nothing else changes but the stuck-line watch, which the line just found idle starts afresh
(R56, log 44). -/
def Obligations.FrameStartDrivesTheFirstFrame : Prop :=
  ∀ (t : Nat) (s : State), s.power.mode ≠ .sleep → s.hall.line = .idle → s.hall.txList ≠ [] →
    ∃ u f, exec (.frameStart t) s = .next u
      ∧ firstFrame s.hall.txList = some f ∧ Driving u f ∧ (u.hall.txList.filter TxEntry.driving).length = 1
      ∧ ((∃ x ∈ s.hall.txList, x.isRelease = true) → ∃ seq o, f = .release seq o)
      ∧ ((∀ x ∈ s.hall.txList, x.isRelease = false) → (∃ x ∈ s.hall.txList, x.isClaim = true) → ∃ c, f = .claim c)
      ∧ (∀ seq o, f = .release seq o →
          u.hall.onLine =
            some (.release
              { station := BitVec.ofNat 5 s.straps.station, zone := BitVec.ofNat 3 s.straps.zone
                seq := BitVec.ofNat 4 seq, outcome := o }))
      ∧ (∀ c, f = .claim c →
          u.hall.onLine =
            some (.claim
              { station := BitVec.ofNat 5 s.straps.station, zone := BitVec.ofNat 3 s.straps.zone, cls := c.cls
                bucket := BitVec.ofNat 4 c.bucket, length := BitVec.ofNat 8 c.length, seq := BitVec.ofNat 4 c.seq }))
      ∧ (∀ k, f = .presence k →
          u.hall.onLine =
            some (.presence
              { station := BitVec.ofNat 5 s.straps.station, zone := BitVec.ofNat 3 s.straps.zone
                mode := if k = .final then .sleeping else match s.power.mode with
                  | .active => .active
                  | .dim => .dim
                  | .standby => .standby
                  | .sleep => .sleeping
                holding := decide (k ≠ .final) && decide (s.floor.own.state = .holding)
                hallState := if k ≠ .recovery ∧ s.hall.state = .on then .on else .listenIn }))
      ∧ u.hall.line = .sending
      ∧ u = { s with
          now := s.instant t
          hall := { s.hall with
            line := .sending, idleCounting := false, txList := u.hall.txList, onLine := u.hall.onLine
            watch := ⟨s.instant t + 10, 10⟩ } }
      ∧ u.hall.txList.map TxEntry.frame = s.hall.txList.map TxEntry.frame

/-- LINE_IDLE and LISTEN_IN_END and HEARTBEAT (R55, R56, R60, R65, R73): the line is idle, and the stuck-line watch starts
afresh (log 44); the hall state becomes ON; the heartbeat hands over a PRESENCE, which joins a list without one, replaces
the heartbeat PRESENCE of the list, on the line or not (the model's reading, log 32), and is discarded where a final
PRESENCE is in the list; the next is 2,000 ms after the instant at which this one was taken (the model's reading, log 39). -/
def Obligations.PortTimersRun : Prop :=
  (∀ (t : Nat) (s : State), s.power.mode ≠ .sleep →
    (s.hall.line = .waitIdle ∨ s.hall.idleCounting = true ∧ s.hall.line ≠ .silent) →
    exec (.lineIdle t) s =
      .next { s with
        now := s.instant t
        hall := { s.hall with line := .idle, idleCounting := false, watch := ⟨s.instant t + 10, 10⟩ } })
  ∧ (∀ (t : Nat) (s : State) (tm : Timer), s.power.mode ≠ .sleep → s.hall.state = .listenIn tm → DueAt s t tm.due →
    ∃ u, exec (.listenInEnd t) s = .next u
      ∧ u.hall.state = .on ∧ u.hall.line = s.hall.line ∧ u.hall.heartbeat = s.hall.heartbeat
      ∧ ViewKept s u ∧ ReportsKept s u ∧ BesidesHallKept s u)
  ∧ (∀ (t : Nat) (s : State) (tm : Timer), s.power.mode ≠ .sleep → s.hall.heartbeat = some tm → DueAt s t tm.due →
    s.hall.state.isUp = true → (∀ x ∈ s.hall.txList, x.isPresence = false) →
    exec (.heartbeat t) s =
      .next { s with
        now := s.instant t
        hall := { s.hall with
          heartbeat := some ⟨s.instant t + 2000, 2000⟩
          txList := s.hall.txList ++ [⟨.presence .heartbeat, false⟩] } })
  ∧ (∀ (t : Nat) (s : State) (tm : Timer) (l r : List TxEntry) (driving : Bool), s.power.mode ≠ .sleep →
    s.hall.heartbeat = some tm → DueAt s t tm.due → s.hall.state.isUp = true →
    s.hall.txList = l ++ ⟨.presence .heartbeat, driving⟩ :: r → (∀ x ∈ l ++ r, x.isPresence = false) →
    exec (.heartbeat t) s =
      .next { s with
        now := s.instant t
        hall := { s.hall with
          heartbeat := some ⟨s.instant t + 2000, 2000⟩, txList := l ++ r ++ [⟨.presence .heartbeat, false⟩] } })
  ∧ ∀ (t : Nat) (s : State) (tm : Timer), s.power.mode ≠ .sleep → s.hall.heartbeat = some tm → DueAt s t tm.due →
    s.hall.state.isUp = true → (∃ x ∈ s.hall.txList, x.frame = .presence .final) →
    exec (.heartbeat t) s =
      .next { s with now := s.instant t, hall := { s.hall with heartbeat := some ⟨s.instant t + 2000, 2000⟩ } }

/-- ARBITRATION_LOSS (R60, R61): the frame waits again and the winning frame is received; no counter of the line moves; a CLAIM
that has been taken back leaves the list instead: one taken back as outranked is lost, and counted so (R92), for one that was
withdrawn no claim is lost, and the claim request that has waited for it is handed over (R89).
BIT_ERROR (R60, R62, R67, R68): the frame is abandoned, the error counted and the run extended; the frame stays in the list, not
on the line, to be tried again, but for a CLAIM that has been taken back and a recovery PRESENCE, which leave it. The
sixteenth error in a row in LISTEN_IN or ON is FAULT with cause ERRORS, and, where the entry to SLEEP was being announced, the
part enters SLEEP then (R71, R185). Where a station of the same number goes on with its frame, the rest is received and judged:
good, it is counted and a duplicate, and else it is a bad frame (R59, R62, R69; the operand is log 14); after the sixteenth
error the rest is judged in FAULT. -/
def Obligations.FramesThatFailWaitAgain : Prop :=
  (∀ (t : Nat) (s : State) (f : TxFrame), s.power.mode ≠ .sleep → Driving s f → s.claimTakenBack = false →
    s.hall.recovery ≠ .waiting →
    ∃ u, exec (.arbitrationLoss t) s = .next u
      ∧ u.hall.line = .receiving ∧ u.hall.onLine = none
      ∧ ListIs (s.hall.txList.map fun x => ⟨x.frame, false⟩) s u
      ∧ u.hall.ownBitErrors = s.hall.ownBitErrors ∧ u.hall.errorRun = s.hall.errorRun ∧ u.hall.state = s.hall.state
      ∧ u.hall.framesReceived = s.hall.framesReceived ∧ u.hall.badFrames = s.hall.badFrames
      ∧ ViewKept s u ∧ ReportsKept s u ∧ BesidesHallKept s u)
  ∧ (∀ (t : Nat) (s : State) (c : ClaimContent) (o : Outgoing), s.power.mode ≠ .sleep → Driving s (.claim c) →
    s.floor.own.outgoing = some o → o.takenBack = .withdrawn → s.floor.own.pendingClaim = none → NothingToSelect s →
    ∃ u, exec (.arbitrationLoss t) s = .next u
      ∧ u.hall.line = .receiving ∧ (∀ x ∈ u.hall.txList, x.isClaim = false) ∧ u.floor.own.outgoing = none
      ∧ u.hall.ownBitErrors = s.hall.ownBitErrors ∧ u.hall.errorRun = s.hall.errorRun ∧ u.hall.state = s.hall.state
      ∧ u.hall.framesReceived = s.hall.framesReceived ∧ u.hall.badFrames = s.hall.badFrames
      ∧ ViewKept s u ∧ ReportsKept s u ∧ BesidesHallKept s u)
  ∧ (∀ (t : Nat) (s : State) (c : ClaimContent) (o : Outgoing), s.power.mode ≠ .sleep → Driving s (.claim c) →
    s.floor.own.outgoing = some o → o.takenBack ≠ .no → s.hall.recovery ≠ .waiting →
    ∃ u, exec (.arbitrationLoss t) s = .next u
      ∧ u.hall.line = .receiving ∧ u.hall.onLine = none
      ∧ (o.takenBack = .outranked →
          ListIs ((s.hall.txList.filter fun x => !x.isClaim).map fun x => ⟨x.frame, false⟩) s u
            ∧ u.floor.claimsLost = min 65535 (s.floor.claimsLost + 1)
            ∧ (u.floor.own.state = .free ∨ u.floor.own.state = .claiming))
      ∧ (o.takenBack = .withdrawn → u.floor.claimsLost = s.floor.claimsLost)
      ∧ (∀ p, o.takenBack = .withdrawn → s.floor.own.pendingClaim = some p → s.hall.state.isFault = false →
          u.hall.txList = ((s.hall.txList.filter fun x => !x.isClaim).map fun x => ⟨x.frame, false⟩) ++ [⟨.claim p, false⟩]
            ∧ u.floor.own.outgoing = some ⟨p, .no⟩)
      ∧ u.hall.ownBitErrors = s.hall.ownBitErrors ∧ u.hall.errorRun = s.hall.errorRun ∧ u.hall.state = s.hall.state
      ∧ u.hall.framesReceived = s.hall.framesReceived ∧ u.hall.badFrames = s.hall.badFrames
      ∧ u.floor.peers = s.floor.peers ∧ u.floor.own.claim = s.floor.own.claim
      ∧ u.floor.claimsSent = s.floor.claimsSent ∧ u.floor.claimsConfirmed = s.floor.claimsConfirmed
      ∧ u.floor.overlaps = s.floor.overlaps ∧ ReportsKept s u ∧ BesidesHallKept s u)
  ∧ (∀ (t : Nat) (s : State) (f : TxFrame), s.power.mode ≠ .sleep → Driving s f → s.hall.errorRun < 15 →
    ∃ u, exec (.bitError t none) s = .next u
      ∧ u.hall.line = .waitIdle ∧ u.hall.onLine = none
      ∧ u.hall.ownBitErrors = min 65535 (s.hall.ownBitErrors + 1) ∧ u.hall.errorRun = s.hall.errorRun + 1
      ∧ BitErrorLeaves f s u
      ∧ u.hall.state = s.hall.state ∧ u.hall.framesReceived = s.hall.framesReceived
      ∧ u.floor.peers = s.floor.peers ∧ ReportsKept s u ∧ BesidesHallKept s u)
  ∧ (∀ (t : Nat) (s : State) (f : TxFrame) (bits : List Bool), s.power.mode ≠ .sleep → Driving s f →
    s.hall.errorRun < 15 → (∀ g, judge bits ≠ .good g) →
    ∃ u, exec (.bitError t (some bits)) s = .next u
      ∧ (judge bits = .bad → u.hall.line = .waitIdle)
      ∧ (judge bits = .badCheck → u.hall.line = .receiving ∧ u.hall.idleCounting = true)
      ∧ u.hall.badFrames = min 65535 (s.hall.badFrames + 1) ∧ u.hall.framesReceived = s.hall.framesReceived
      ∧ u.hall.ownBitErrors = min 65535 (s.hall.ownBitErrors + 1) ∧ u.hall.errorRun = s.hall.errorRun + 1
      ∧ BitErrorLeaves f s u
      ∧ u.hall.state = s.hall.state ∧ u.floor.peers = s.floor.peers ∧ ReportsKept s u ∧ BesidesHallKept s u)
  ∧ (∀ (t : Nat) (s : State) (f : TxFrame) (bits : List Bool) (g : HallFrame), s.power.mode ≠ .sleep → Driving s f →
    s.hall.errorRun < 15 → judge bits = .good g → g.station.toNat = s.straps.station → s.hall.state.isUp = true →
    s.power.announcing = false → ReportFits s →
    ∃ u, exec (.bitError t (some bits)) s = .next u
      ∧ u.hall.state = .fault .duplicate ∧ u.hall.recovery = .none_ ∧ u.hall.txList = [] ∧ u.hall.heartbeat = none
      ∧ u.hall.framesReceived = min 65535 (s.hall.framesReceived + 1)
      ∧ u.hall.ownBitErrors = min 65535 (s.hall.ownBitErrors + 1)
      ∧ u.link.latches.duplicateStation = true ∧ u.link.reports = s.link.reports ++ [.event .duplicateStation]
      ∧ u.floor.own.state = .free ∧ u.floor.own.claim = none
      ∧ u.floor.peers.map Peer.station = s.floor.peers.map Peer.station ∧ BesidesHallKept s u)
  ∧ (∀ (t : Nat) (s : State) (f : TxFrame) (rest : Option (List Bool)), s.power.mode ≠ .sleep → Driving s f →
    15 ≤ s.hall.errorRun → s.hall.state.isUp = true → s.power.announcing = false → ReportFits s →
    (∀ bits g, rest = some bits → judge bits ≠ .good g) →
    ∃ u, exec (.bitError t rest) s = .next u
      ∧ u.hall.state = .fault .errors ∧ u.hall.errorRun = 0 ∧ u.hall.txList = [] ∧ u.hall.onLine = none
      ∧ u.hall.heartbeat = none ∧ u.hall.recovery = .scheduled ⟨s.instant t + 10000, 10000⟩
      ∧ u.hall.ownBitErrors = min 65535 (s.hall.ownBitErrors + 1)
      ∧ (rest = none → u.hall.line = .waitIdle ∧ u.hall.badFrames = s.hall.badFrames)
      ∧ (∀ bits, rest = some bits → u.hall.badFrames = min 65535 (s.hall.badFrames + 1))
      ∧ u.hall.framesReceived = s.hall.framesReceived
      ∧ u.link.latches.hallFault = true ∧ u.link.reports = s.link.reports ++ [.event .hallFault]
      ∧ u.floor.own.state = .free ∧ u.floor.own.claim = none ∧ u.floor.own.outgoing = none ∧ BesidesHallKept s u)
  ∧ (∀ (t : Nat) (s : State) (f : TxFrame) (bits : List Bool) (g : HallFrame), s.power.mode ≠ .sleep → Driving s f →
    15 ≤ s.hall.errorRun → judge bits = .good g → g.station.toNat = s.straps.station → s.hall.state.isUp = true →
    s.power.announcing = false → s.link.listening = true → s.link.reports.length + 2 ≤ 16 →
    ∃ u, exec (.bitError t (some bits)) s = .next u
      ∧ u.hall.state = .fault .duplicate ∧ u.hall.recovery = .none_ ∧ u.hall.errorRun = 0 ∧ u.hall.txList = []
      ∧ u.hall.heartbeat = none ∧ u.hall.framesReceived = min 65535 (s.hall.framesReceived + 1)
      ∧ u.hall.ownBitErrors = min 65535 (s.hall.ownBitErrors + 1)
      ∧ u.link.latches.hallFault = true ∧ u.link.latches.duplicateStation = true
      ∧ u.link.reports = s.link.reports ++ [.event .hallFault, .event .duplicateStation]
      ∧ u.floor.own.state = .free ∧ u.floor.own.claim = none ∧ BesidesHallKept s u)
  ∧ ∀ (t : Nat) (s : State) (f : TxFrame) (rest : Option (List Bool)), s.power.mode ≠ .sleep → Driving s f →
    15 ≤ s.hall.errorRun → s.hall.state.isUp = true → s.power.announcing = true → ReportFits s →
    ∃ u, exec (.bitError t rest) s = .next u
      ∧ u.power.mode = .sleep ∧ u.power.announcing = false ∧ u.power.amp = .off ∧ u.hall.line = .silent
      ∧ u.hall.state = .fault .errors ∧ u.hall.errorRun = 0 ∧ u.hall.txList = [] ∧ u.hall.onLine = none
      ∧ u.hall.heartbeat = none ∧ u.hall.recovery = .none_ ∧ u.hall.finalTimer = none
      ∧ u.hall.ownBitErrors = min 65535 (s.hall.ownBitErrors + 1) ∧ u.hall.badFrames = s.hall.badFrames
      ∧ u.link.latches.hallFault = true ∧ u.link.reports = s.link.reports ++ [.event .hallFault]
      ∧ u.floor.own.state = .free ∧ u.floor.own.claim = none ∧ u.floor.own.outgoing = none
      ∧ EstimateKept s u ∧ PanelKept s u ∧ SettingsKept s u ∧ QueueKept s u ∧ StoreKept s u

/-- STUCK_LINE (R56, R67, R106), once the 10 ms of the watch have run from the latest recessive bit (the watch is log 44):
FAULT with cause STUCK from LISTEN_IN and ON, the port waiting for idle line (the model's reading, log 13); in FAULT with
cause ERRORS the cause becomes STUCK without a second event. Before the 10 ms, and in hall state OFF, nothing happens (the
model's choice, logs 3 and 13).
A good frame of this station's own number, of any kind, is a duplicate: it is counted, handed to no other block, and
leads to FAULT with cause DUPLICATE, from which no recovery is scheduled (R59, R67, R69). -/
def Obligations.FaultsOfTheHallLine : Prop :=
  (∀ (t : Nat) (s : State), s.power.mode ≠ .sleep → s.hall.line ≠ .silent → DueAt s t s.hall.watch.due →
    s.hall.state.isUp = true → s.power.announcing = false → ReportFits s →
    ∃ u, exec (.stuckLine t) s = .next u
      ∧ u.hall.state = .fault .stuck ∧ u.hall.errorRun = 0 ∧ u.hall.txList = [] ∧ u.hall.onLine = none
      ∧ u.hall.line = .waitIdle ∧ u.hall.heartbeat = none
      ∧ u.hall.recovery = .scheduled ⟨s.instant t + 10000, 10000⟩
      ∧ u.link.latches.hallFault = true ∧ u.link.reports = s.link.reports ++ [.event .hallFault]
      ∧ u.floor.own.state = .free ∧ u.floor.own.claim = none ∧ u.floor.own.outgoing = none ∧ BesidesHallKept s u)
  ∧ (∀ (t : Nat) (s : State), s.power.mode ≠ .sleep → s.hall.line ≠ .silent → DueAt s t s.hall.watch.due →
    s.hall.state = .fault .errors →
    ∃ u, exec (.stuckLine t) s = .next u
      ∧ u.hall.state = .fault .stuck ∧ u.hall.line = .waitIdle ∧ ViewKept s u ∧ ReportsKept s u ∧ BesidesHallKept s u)
  ∧ (∀ (t : Nat) (s : State), s.power.mode ≠ .sleep →
    (s.hall.state = .off ∨ s.instant t + Config.tolerance s.hall.watch.len < s.hall.watch.due) →
    ∃ u, exec (.stuckLine t) s = .next u ∧ LineKept s u ∧ ViewKept s u ∧ ReportsKept s u ∧ BesidesHallKept s u)
  ∧ ∀ (t : Nat) (f : HallFrame) (c : Instr) (s : State),
    (match f with
      | .claim g => c = .peerClaim t g
      | .release g => c = .peerRelease t g
      | .presence g => c = .peerPresence t g) →
    s.power.mode ≠ .sleep → s.hall.follows = true → f.good = true → f.station.toNat = s.straps.station →
    s.hall.state.isUp = true → s.power.announcing = false → ReportFits s →
    ∃ u, exec c s = .next u
      ∧ u.hall.state = .fault .duplicate ∧ u.hall.recovery = .none_ ∧ u.hall.txList = [] ∧ u.hall.heartbeat = none
      ∧ u.hall.framesReceived = min 65535 (s.hall.framesReceived + 1)
      ∧ u.link.latches.duplicateStation = true ∧ u.link.reports = s.link.reports ++ [.event .duplicateStation]
      ∧ u.floor.own.state = .free ∧ u.floor.own.claim = none
      ∧ u.floor.peers.map Peer.station = s.floor.peers.map Peer.station ∧ BesidesHallKept s u

/-- OWN_CLAIM_SENT (R63, R90): the own live claim is made from the outgoing one, unconfirmed; the claim is counted and the
run of bit errors ends. It takes the place of an own live claim still held (R81 step 1). A peer's confirmed claim of the zone and
of lower class is preempted by it: flagged, its expiry stamp the earlier of its present one and 3,000 ms from the frame; one of
equal or higher class and a PRESUMED one are not (R98).
A CLAIM that has been taken back and goes through after all (R89, R92, R94) makes the live claim too, and RELEASE(WITHDRAWN)
for it joins the list at once: taken back as outranked, the claim is lost, and its entry waits again; withdrawn, none is lost,
and a claim request that has waited for it follows the RELEASE in the list.
OWN_RELEASE_SENT (R63, R96): the own live claim of that sequence is removed. Either frame leaves the list. -/
def Obligations.OwnClaimAndReleaseSent : Prop :=
  (∀ (t : Nat) (s : State) (c : ClaimContent) (o : Outgoing), s.power.mode ≠ .sleep → Driving s (.claim c) →
    s.floor.own.outgoing = some o → o.takenBack = .no → s.floor.own.claim = none → s.holderOf s.straps.zone = none →
    ∃ u, exec (.ownClaimSent t) s = .next u
      ∧ u.floor.own.claim = some (sentClaim t o.content s)
      ∧ u.floor.claimsSent = min 65535 (s.floor.claimsSent + 1) ∧ u.floor.claimsLost = s.floor.claimsLost
      ∧ u.floor.claimsConfirmed = s.floor.claimsConfirmed ∧ u.floor.peers = s.floor.peers
      ∧ u.hall.errorRun = 0 ∧ u.hall.onLine = none ∧ u.hall.framesReceived = s.hall.framesReceived
      ∧ (NothingToSelect s → s.hall.recovery ≠ .waiting → s.floor.own.pendingClaim = none →
          u.hall.txList = s.hall.txList.filter fun x => !x.driving)
      ∧ u.hall.state = s.hall.state ∧ ReportsKept s u ∧ BesidesHallKept s u)
  ∧ (∀ (t : Nat) (s : State) (c : ClaimContent) (o : Outgoing), s.power.mode ≠ .sleep → Driving s (.claim c) →
    s.floor.own.outgoing = some o → o.takenBack = .no → OneRecordEach s →
    ∃ u, exec (.ownClaimSent t) s = .next u
      ∧ u.floor.own.claim = some (sentClaim t o.content s) ∧ u.floor.own.released = false
      ∧ u.floor.claimsSent = min 65535 (s.floor.claimsSent + 1)
      ∧ (∀ x p, x ∈ s.peerClaims → x.2.zone = s.straps.zone → x.2.confirmed = true →
          (∀ y ∈ s.peerClaims, y.2.zone = s.straps.zone → y.2.confirmed = true → y = x) → s.peer x.1 = some p →
          (∀ k, x.2.cls = .heard k → k.val < o.content.cls.val →
              (∃ outer, u.peer x.1 =
                some { p with
                  claim := some { x.2 with
                    preemptPending := true
                    expiry := if s.instant t + 3000 < x.2.expiry.due then ⟨s.instant t + 3000, 3000⟩ else x.2.expiry
                    outer := outer } })
                ∧ ∀ m, m ≠ x.1 → u.peer m = s.peer m)
            ∧ (∀ k, x.2.cls = .heard k → o.content.cls.val ≤ k.val → u.floor.peers = s.floor.peers)
            ∧ (x.2.cls = .presumed → u.floor.peers = s.floor.peers))
      ∧ u.hall.errorRun = 0 ∧ u.hall.onLine = none ∧ u.hall.state = s.hall.state ∧ ReportsKept s u ∧ BesidesHallKept s u)
  ∧ (∀ (t : Nat) (s : State) (c : ClaimContent) (o : Outgoing), s.power.mode ≠ .sleep → Driving s (.claim c) →
    s.floor.own.outgoing = some o → o.takenBack ≠ .no → OneRecordEach s →
    ∃ u, exec (.ownClaimSent t) s = .next u
      ∧ u.floor.own.claim = some (sentClaim t o.content s)
      ∧ u.floor.own.released = true ∧ u.floor.claimsSent = min 65535 (s.floor.claimsSent + 1)
      ∧ (o.takenBack = .outranked → s.floor.own.pendingClaim = none →
          ClaimLostTo t (s.hall.txList.filter fun y => !y.driving) o.content.seq s u)
      ∧ (o.takenBack = .withdrawn → u.floor.claimsLost = s.floor.claimsLost)
      ∧ (o.takenBack = .withdrawn → s.floor.own.pendingClaim = none → s.hall.state.isFault = false →
          s.hall.recovery ≠ .waiting →
          ListIs ((s.hall.txList.filter fun y => !y.driving) ++ [⟨.release o.content.seq .withdrawn, false⟩]) s u)
      ∧ (∀ q, o.takenBack = .withdrawn → s.floor.own.pendingClaim = some q → s.hall.state.isFault = false →
          s.hall.recovery ≠ .waiting →
          u.hall.txList =
              (s.hall.txList.filter fun y => !y.driving)
                ++ [⟨.release o.content.seq .withdrawn, false⟩, ⟨.claim q, false⟩]
            ∧ u.floor.own.outgoing = some ⟨q, .no⟩)
      ∧ u.hall.errorRun = 0 ∧ u.hall.onLine = none ∧ u.hall.framesReceived = s.hall.framesReceived
      ∧ u.hall.state = s.hall.state ∧ ReportsKept s u ∧ BesidesHallKept s u)
  ∧ ∀ (t : Nat) (s : State) (seq : Nat) (o : ReleaseOutcome) (c : LiveClaim), s.power.mode ≠ .sleep →
    Driving s (.release seq o) → s.floor.own.claim = some c →
    ∃ u, exec (.ownReleaseSent t) s = .next u
      ∧ (c.seq = some seq → u.floor.own.claim = none)
      ∧ (c.seq ≠ some seq → u.floor.own.claim = some c)
      ∧ u.hall.errorRun = 0 ∧ u.hall.onLine = none ∧ u.hall.framesReceived = s.hall.framesReceived
      ∧ (NothingToSelect s → s.hall.recovery ≠ .waiting → u.hall.txList = s.hall.txList.filter fun x => !x.driving)
      ∧ u.hall.state = s.hall.state ∧ u.floor.peers.map Peer.station = s.floor.peers.map Peer.station
      ∧ ReportsKept s u ∧ BesidesHallKept s u

/-- OWN_PRESENCE_SENT (R63, R68, R71, R73, R185): a heartbeat ends the run of bit errors, and so does one that a later PRESENCE
has replaced in the list while it was on the line, whose successor stays (log 32); a recovery PRESENCE restores the
hall to LISTEN_IN with an EVENT; the final PRESENCE puts the part to SLEEP.
FINAL_PRESENCE_TIMEOUT (R71, R185): 100 ms without the final PRESENCE going through put the part to SLEEP too. -/
def Obligations.OwnPresenceSentTakesEffect : Prop :=
  (∀ (t : Nat) (s : State), s.power.mode ≠ .sleep → Driving s (.presence .heartbeat) →
    ∃ u, exec (.ownPresenceSent t) s = .next u
      ∧ u.hall.errorRun = 0 ∧ u.hall.onLine = none ∧ u.hall.state = s.hall.state ∧ u.hall.heartbeat = s.hall.heartbeat
      ∧ ViewKept s u ∧ ReportsKept s u ∧ BesidesHallKept s u)
  ∧ (∀ (t : Nat) (s : State) (g : HallFrame), s.power.mode ≠ .sleep → s.hall.line = .sending → s.hall.driven = none →
    s.hall.onLine = some g →
    ∃ u, exec (.ownPresenceSent t) s = .next u
      ∧ u.hall.errorRun = 0 ∧ u.hall.onLine = none ∧ u.hall.state = s.hall.state ∧ u.hall.heartbeat = s.hall.heartbeat
      ∧ (NothingToSelect s → s.hall.recovery ≠ .waiting → u.hall.txList = s.hall.txList)
      ∧ ViewKept s u ∧ ReportsKept s u ∧ BesidesHallKept s u)
  ∧ (∀ (t : Nat) (s : State), s.power.mode ≠ .sleep → Driving s (.presence .recovery) → ReportFits s →
    ∃ u, exec (.ownPresenceSent t) s = .next u
      ∧ u.hall.state = .listenIn ⟨s.instant t + 2500, 2500⟩
      ∧ u.hall.heartbeat = some ⟨s.instant t + 100 * s.straps.station, 100 * s.straps.station⟩
      ∧ u.hall.recovery = .none_ ∧ u.hall.errorRun = 0
      ∧ u.link.reports = s.link.reports ++ [.event .hallRestored] ∧ u.link.latches.hallFault = s.link.latches.hallFault
      ∧ ViewKept s u ∧ BesidesHallKept s u)
  ∧ (∀ (t : Nat) (s : State), s.power.mode ≠ .sleep → Driving s (.presence .final) → s.power.announcing = true →
    ∃ u, exec (.ownPresenceSent t) s = .next u
      ∧ u.power.mode = .sleep ∧ u.power.announcing = false ∧ u.power.amp = .off ∧ u.hall.line = .silent
      ∧ u.hall.txList = [] ∧ u.hall.finalTimer = none ∧ u.level.sampleDue = none ∧ u.rem.secondPhase = none
      ∧ EstimateKept s u ∧ PanelKept s u ∧ SettingsKept s u ∧ ReportsKept s u ∧ QueueKept s u ∧ StoreKept s u)
  ∧ ∀ (t : Nat) (s : State) (tm : Timer), s.power.mode ≠ .sleep → s.hall.finalTimer = some tm → DueAt s t tm.due →
    s.power.announcing = true →
    ∃ u, exec (.finalPresenceTimeout t) s = .next u
      ∧ u.power.mode = .sleep ∧ u.power.announcing = false ∧ u.power.amp = .off ∧ u.power.dim = none
      ∧ u.hall.line = .silent ∧ u.hall.txList = [] ∧ u.hall.onLine = none ∧ u.hall.heartbeat = none
      ∧ u.hall.recovery = .none_ ∧ u.hall.finalTimer = none ∧ u.hall.state = s.hall.state
      ∧ u.level.sampleDue = none ∧ u.rem.secondPhase = none ∧ u.display.brightness = 0
      ∧ EstimateKept s u ∧ PanelKept s u ∧ SettingsKept s u ∧ ReportsKept s u ∧ QueueKept s u ∧ StoreKept s u
      ∧ u.floor.peers = s.floor.peers

/-- RECOVERY_ATTEMPT and RECOVERY_TIMEOUT (R20, R68): an attempt starts with one PRESENCE, or waits for a service that is
SPEAKING; an attempt of 100 ms that has not gone through fails, and the next is 10,000 ms after its start. -/
def Obligations.RecoveryAttemptsRun : Prop :=
  (∀ (t : Nat) (s : State) (tm : Timer), s.power.mode ≠ .sleep → s.hall.recovery = .scheduled tm → DueAt s t tm.due →
    s.slotSpeaks = false → s.hall.txList = [] → s.hall.state.isFault = true →
    ∃ u, exec (.recoveryAttempt t) s = .next u
      ∧ u.hall.recovery = .attempting (s.instant t) ∧ u.hall.txList = [⟨.presence .recovery, false⟩]
      ∧ LineKept s u ∧ ViewKept s u ∧ ReportsKept s u ∧ BesidesHallKept s u)
  ∧ (∀ (t : Nat) (s : State) (tm : Timer), s.power.mode ≠ .sleep → s.hall.recovery = .scheduled tm → DueAt s t tm.due →
    s.slotSpeaks = true →
    ∃ u, exec (.recoveryAttempt t) s = .next u
      ∧ u.hall.recovery = .waiting ∧ u.hall.txList = s.hall.txList
      ∧ LineKept s u ∧ ViewKept s u ∧ ReportsKept s u ∧ BesidesHallKept s u)
  ∧ ∀ (t start : Nat) (s : State), s.power.mode ≠ .sleep → s.hall.recovery = .attempting start →
    DueAt s t (start + 100) →
    ∃ u, exec (.recoveryTimeout t) s = .next u
      ∧ u.hall.recovery = .scheduled ⟨start + 10000, 10000⟩
      ∧ (∀ x ∈ u.hall.txList, x.frame ≠ .presence .recovery) ∧ u.hall.state = s.hall.state
      ∧ ViewKept s u ∧ ReportsKept s u ∧ BesidesHallKept s u

/-- PEER_LOST (R77): a PRESENT peer silent for 6,500 ms becomes LOST and loses its claim; the latch is set and no report is
sent.
CLAIM_EXPIRY (R83, R93, R99): a peer's claim leaves the view at its expiry, with the peer's presence and last-heard
stamp kept; so does the own one, which a holder outlives as HOLDING and a claimant loses, with RELEASE(WITHDRAWN) handed over
and its entry waiting again.
Where a peer's claim has left, its zone is examined (R84, R85, R92; Safety.Examined): the next top-ranked claim may be confirmed,
the own one becoming HOLDING, and an own claim that is outranked is lost, at once also to a claim still in its settle window (the
model's choice, log 51; when a window counts as over is log 18). -/
def Obligations.PeersAndClaimsAge : Prop :=
  (∀ (t : Nat) (n : BitVec 5) (s : State) (p : Peer), s.power.mode ≠ .sleep → s.peer n.toNat = some p →
    p.presence = .present → DueAt s t (p.lastHeard + 6500) →
    ∃ u q, exec (.peerLost t n) s = .next u
      ∧ u.peer n.toNat = some q ∧ q.presence = .lost ∧ q.claim = none ∧ q.lastHeard = p.lastHeard
      ∧ (∀ c, OneRecordEach s → p.claim = some c → Examined t c.zone n.toNat s u)
      ∧ u.link.latches.peerLost = true ∧ LineKept s u ∧ ReportsKept s u ∧ BesidesHallKept s u)
  ∧ (∀ (t : Nat) (n : BitVec 5) (s : State) (p : Peer) (c : LiveClaim), s.power.mode ≠ .sleep →
    n.toNat ≠ s.straps.station → s.peer n.toNat = some p → p.claim = some c → DueAt s t c.expiry.due →
    ∃ u q, exec (.claimExpiry t n) s = .next u
      ∧ u.peer n.toNat = some q ∧ q.claim = none ∧ q.presence = p.presence ∧ q.lastHeard = p.lastHeard
      ∧ (OneRecordEach s → Examined t c.zone n.toNat s u)
      ∧ LineKept s u ∧ ReportsKept s u ∧ BesidesHallKept s u)
  ∧ (∀ (t : Nat) (n : BitVec 5) (s : State) (c : LiveClaim), s.power.mode ≠ .sleep → n.toNat = s.straps.station →
    s.floor.own.claim = some c → DueAt s t c.expiry.due → s.floor.own.state = .holding → s.seq.slot.isSome = true →
    ∃ u, exec (.claimExpiry t n) s = .next u
      ∧ u.floor.own.claim = none ∧ u.floor.own.state = .holding ∧ u.floor.claimsLost = s.floor.claimsLost
      ∧ LineKept s u ∧ ReportsKept s u ∧ BesidesHallKept s u)
  ∧ ∀ (t : Nat) (n : BitVec 5) (s : State) (c : LiveClaim), s.power.mode ≠ .sleep → n.toNat = s.straps.station →
    s.floor.own.claim = some c → DueAt s t c.expiry.due → s.floor.own.state = .claiming →
    s.floor.own.released = false →
    ∃ u, exec (.claimExpiry t n) s = .next u
      ∧ u.floor.own.claim = none ∧ u.floor.claimsLost = min 65535 (s.floor.claimsLost + 1)
      ∧ (∀ seq, OneRecordEach s → c.seq = some seq → ClaimLostTo t s.hall.txList seq s u)
      ∧ LineKept s u ∧ ReportsKept s u ∧ BesidesHallKept s u

/-- SETTLE_WINDOW_END of the own claim (R21, R22, R79, R85, R91): top-ranked in a zone without a holder, it is confirmed;
the station is HOLDING, the claim is counted, and the entry in the slot is SPEAKING. Its service has started
(Safety.ServiceStarted): its text stands on line 1 (R139, R141), and its output begins at the level of this moment, a masked one
counted, latched and blinking (R118), or its warm-up of 120 ms does, the level and the chime waiting for its end (R127, R183). The
character codes of a text that the unit forms itself are the model's choice (log 50).
SETTLE_WINDOW_END of a peer's claim (R79, R85): top-ranked in a zone without a holder, it is confirmed, with its expiry set again
and the peer's last-confirmed stamp; beside a holder, or a claim of another station that ranks higher, it stays unconfirmed.
The own claim is lost there (R85, R88, R92): at the end of its own window, or of that of a peer's claim of its zone once its own
is over, unconfirmed, not released and outranked by a live claim of the zone, it is counted as lost, stays in the own record with
RELEASE(WITHDRAWN) handed over, and its entry waits again. A window counts as over once its end has been taken or its 60 ms
are past (the model's choice, log 18). -/
def Obligations.SettleWindowEndConfirms : Prop :=
  (∀ (t : Nat) (n : BitVec 5) (s : State) (c : LiveClaim) (v : Service) (route : Route) (e : Entry),
    s.power.mode ≠ .sleep → n.toNat = s.straps.station → s.floor.own.claim = some c → c.settled = false →
    c.confirmed = false → DueAt s t (c.heard + 60) → s.holderOf c.zone = none →
    topClaim (s.claimsIn c.zone) = some (n.toNat, c) → s.floor.own.state = .claiming → s.floor.own.released = false →
    s.seq.slot = some v → v.kind = .audible route → s.entry v.tag = some e →
    ∃ u e', exec (.settleWindowEnd t n) s = .next u
      ∧ u.floor.own.state = .holding
      ∧ u.floor.own.claim =
          some { c with
            settled := true, confirmed := true
            expiry := ⟨s.instant t + (c.length * 100 + 1000), c.length * 100 + 1000⟩ }
      ∧ u.floor.claimsConfirmed = min 65535 (s.floor.claimsConfirmed + 1)
      ∧ u.entry v.tag = some e' ∧ e'.state = .speaking ∧ e'.deadline = none ∧ e'.arrival = e.arrival
      ∧ u.now = s.instant t ∧ ServiceStarted e route v s u ∧ u.floor.peers = s.floor.peers
      ∧ LineKept s u ∧ ReportsKept s u ∧ BesidesHallKept s u)
  ∧ (∀ (t : Nat) (n : BitVec 5) (s : State) (p : Peer) (c : LiveClaim), s.power.mode ≠ .sleep →
    n.toNat ≠ s.straps.station → s.peer n.toNat = some p → p.claim = some c → c.settled = false → c.confirmed = false →
    DueAt s t (c.heard + 60) →
    ∃ u, exec (.settleWindowEnd t n) s = .next u
      ∧ (s.holderOf c.zone = none → topClaim (s.claimsIn c.zone) = some (n.toNat, c) →
          u.peer n.toNat =
              some { p with
                claim := some { c with
                  settled := true, confirmed := true
                  expiry := ⟨s.instant t + (c.length * 100 + 1000), c.length * 100 + 1000⟩ }
                lastConfirmed := some (s.instant t) }
            ∧ (∀ m, m ≠ n.toNat → u.peer m = s.peer m) ∧ u.floor.claimsConfirmed = s.floor.claimsConfirmed)
      ∧ (s.holderOf c.zone ≠ none →
          u.peer n.toNat = some { p with claim := some { c with settled := true } }
            ∧ (∀ m, m ≠ n.toNat → u.peer m = s.peer m) ∧ u.floor.claimsConfirmed = s.floor.claimsConfirmed)
      ∧ (∀ x, topClaim (s.claimsIn c.zone) = some x → x.1 ≠ n.toNat →
          u.peer n.toNat = some { p with claim := some { c with settled := true } })
      ∧ LineKept s u ∧ ReportsKept s u ∧ BesidesHallKept s u)
  ∧ ∀ (t : Nat) (n : BitVec 5) (s : State) (c : LiveClaim) (x : Nat × LiveClaim) (seq : Nat), s.power.mode ≠ .sleep →
    s.floor.own.claim = some c → c.seq = some seq → c.confirmed = false → s.floor.own.released = false →
    OneRecordEach s → x ∈ s.peerClaims → x.2.zone = c.zone →
    (x.2.rankKey x.1).outranks (c.rankKey s.straps.station) = true →
    (n.toNat = s.straps.station ∧ c.settled = false ∧ DueAt s t (c.heard + 60)
      ∨ n.toNat ≠ s.straps.station ∧ c.windowEnded (s.instant t) = true
        ∧ ∃ d, (s.peer n.toNat).bind Peer.claim = some d ∧ d.zone = c.zone ∧ d.settled = false
            ∧ DueAt s t (d.heard + 60)) →
    ∃ u, exec (.settleWindowEnd t n) s = .next u
      ∧ ClaimLostTo t s.hall.txList seq s u
      ∧ u.floor.own.claim = some { c with settled := c.settled || decide (n.toNat = s.straps.station) }
      ∧ u.floor.own.released = true ∧ LineKept s u ∧ ReportsKept s u ∧ BesidesHallKept s u

/-- TURN_GAP_END and WAIT_BUCKET_STEP (R17, R18, R89, R97, R103): the gap ends in FREE; an entry whose waiting time reaches a
further 2,000 ms after the selection last asked, and that is clear now, is taken, with a claim of its class, its bucket of whole
2,000 ms waited, its script's length estimate, and the next sequence. The step is counted from the instant the model keeps of
the latest asking (the model's choice, log 2); before that step nothing is asked, and the command only takes its time (the
model's choice, log 3).
Whatever entry the selection takes, its script is composed then (R36 to R38, R42 to R48, R139; Safety.ScriptComposed): chime,
station prefix, items within the limit of 12 and of 255 units, length estimate, display pieces, and the counters of failed reads
and of scripts truncated; the prefix before a template that gives no items is the model's choice (log 45), and that a silent
service is composed by the store's state its reading (log 40). In LISTEN_IN and ON an audible one claims the floor with that
estimate (R89): its CLAIM is handed over, or is held as the pending one while an earlier one is on its way. -/
def Obligations.FloorIsTakenWhenClear : Prop :=
  (∀ (t : Nat) (s : State) (tm : Timer), s.power.mode ≠ .sleep → s.floor.own.state = .gap →
    s.floor.own.gapEnd = some tm → DueAt s t tm.due → NothingToSelect s →
    ∃ u, exec (.turnGapEnd t) s = .next u
      ∧ u.floor.own = { s.floor.own with state := .free, gapEnd := none } ∧ u.floor.peers = s.floor.peers
      ∧ LineKept s u ∧ ViewKept s u ∧ ReportsKept s u ∧ BesidesHallKept s u)
  ∧ (∀ (t : Nat) (s : State) (e : Entry), s.power.mode ≠ .sleep → s.entry e.tag = some e →
    s.instant t < e.arrival + 2000 * ((s.seq.askedAt - e.arrival) / 2000 + 1) →
    exec (.waitBucketStep t e.tag) s = .next { s with now := s.instant t })
  ∧ (∀ (s : State) (e : Entry), s.power.mode ≠ .sleep → NextTaken s e →
    ∃ v, (conclude s).seq.slot = some v ∧ v.tag = e.tag ∧ ScriptComposed s (conclude s) e v.kind v.script
      ∧ (s.hall.state.isUp = true → ¬ SilentNow s e →
          ∃ c : ClaimContent,
            c = ⟨e.cls, min 15 ((s.now - e.arrival) / 2000), v.script.estimate, s.floor.own.nextSeq⟩
              ∧ (conclude s).floor.own.state = .claiming
              ∧ (conclude s).floor.own.nextSeq = (s.floor.own.nextSeq + 1) % 16
              ∧ (s.floor.own.outgoing = none →
                  (conclude s).floor.own.outgoing = some ⟨c, .no⟩
                    ∧ (conclude s).hall.txList = s.hall.txList ++ [⟨.claim c, false⟩])
              ∧ (s.floor.own.outgoing.isSome = true →
                  (conclude s).floor.own.outgoing = s.floor.own.outgoing
                    ∧ (conclude s).floor.own.pendingClaim = some c ∧ (conclude s).hall.txList = s.hall.txList)))
  ∧ ∀ (t : Nat) (s : State) (e : Entry) (route : Route), s.power.mode ≠ .sleep → s.seq.slot = none →
    s.seq.queue = [e] → s.hall.state = .on → s.hall.recovery = .none_ → s.floor.own.outgoing = none →
    (s.seq.askedAt - e.arrival) / 2000 < 15 →
    DueAt s t (e.arrival + 2000 * ((s.seq.askedAt - e.arrival) / 2000 + 1)) →
    (s.arrive t).eligible e = true → (s.arrive t).kindFor e = .audible route →
    ∃ u c, exec (.waitBucketStep t e.tag) s = .next u
      ∧ u.floor.own.state = .claiming ∧ u.floor.own.outgoing = some ⟨c, .no⟩ ∧ c.cls = e.cls
      ∧ c.bucket = min 15 ((s.instant t - e.arrival) / 2000) ∧ c.seq = s.floor.own.nextSeq
      ∧ u.floor.own.nextSeq = (s.floor.own.nextSeq + 1) % 16
      ∧ u.hall.txList = s.hall.txList ++ [⟨.claim c, false⟩]
      ∧ u.seq.queue = [{ e with state := .claiming }] ∧ (∃ v, u.seq.slot = some v ∧ v.tag = e.tag ∧ c.length = v.script.estimate)
      ∧ LineKept s u ∧ ViewKept s u ∧ ReportsKept s u ∧ BesidesHallKept s u

/-! ### The service and its output -/

/-- DEADLINE (R16, R29, R94): a QUEUED or CLAIMING entry of the machine controller is removed with EXPIRED, the claim of a
CLAIMING one being withdrawn; an entry that is SPEAKING or SHOWING stays. -/
def Obligations.DeadlineExpiresWaiting : Prop :=
  (∀ (t tag : Nat) (s : State) (e : Entry) (tm : Timer), s.power.mode ≠ .sleep → s.entry tag = some e →
    (e.state = .queued ∨ e.state = .claiming) → e.origin = .machine → e.deadline = some tm → DueAt s t tm.due →
    ReportFits s →
    ∃ u, exec (.deadline t tag) s = .next u
      ∧ u.link.reports = s.link.reports ++ [.done tag .expired] ∧ u.entry tag = none ∧ SessionKept s u
      ∧ (e.state = .claiming → ClaimWithdrawn s u)
      ∧ (e.state = .claiming → s.floor.own.state = .claiming → s.seq.queue = [e] →
          u.seq.slot = none ∧ u.floor.own.state = .free)
      ∧ BesidesServiceKept s u)
  ∧ ∀ (t tag : Nat) (s : State) (e : Entry), s.power.mode ≠ .sleep → s.entry tag = some e →
    (e.state = .speaking ∨ e.state = .showing) →
    ∃ u, exec (.deadline t tag) s = .next u ∧ (u.entry tag).isSome = true ∧ QueueKept s u ∧ ReportsKept s u
      ∧ PanelKept s u ∧ BesidesServiceKept s u

/-- CHIME_END, ITEM_END and SILENT_SERVICE_END at the end of a service (R27, R28, R95, R141, R175, R177): the slot and the output
are empty, and a held floor is in GAP for 250 ms with RELEASE(COMPLETE) in the list (Safety.ServiceEnded). An entry of the machine
controller is answered COMPLETED, or passes to the awaiting list where it needs acknowledgement, the oldest of four records there
leaving UNACKNOWLEDGED first; its repeat is counted from the instant at which the end was taken (the model's reading, log 39). An
entry of origin REMINDER or MARK completes without a report, and one of origin KEY leaves the last-completed record as it was
too. A removal pending at the end of an audible service (R27, R29) removes the entry with its stored outcome, which answers one of
the machine controller, and completes nothing. -/
def Obligations.ServiceEndsComplete : Prop :=
  (∀ (c : Instr) (t : Nat) (s : State) (v : Service) (e : Entry), EndsService c t s v e → s.power.mode ≠ .sleep →
    s.seq.slot = some v → v.removal = none → s.seq.queue = [e] → e.tag = v.tag → e.origin = .machine → ReportFits s →
    ∃ u, exec c s = .next u ∧ ServiceEnded t e s u
      ∧ u.panel.lastCompleted = some ⟨e.template, e.param1, e.param2, e.cls, e.channels⟩
      ∧ (e.ackRequired = false →
          u.link.reports = s.link.reports ++ [.done e.tag .completed] ∧ u.panel.awaiting = s.panel.awaiting)
      ∧ (e.ackRequired = true → s.panel.awaiting.length < 4 →
          u.link.reports = s.link.reports
            ∧ u.panel.awaiting =
                s.panel.awaiting ++
                  [⟨e.tag, e.cls, e.template, e.param1, e.param2, e.channels, e.repeatsLeft, e.repeatInterval,
                    s.instant t, ⟨s.instant t + e.repeatInterval * 1000, e.repeatInterval * 1000⟩⟩])
      ∧ (∀ a rest, e.ackRequired = true → s.panel.awaiting = a :: rest → 3 ≤ rest.length →
          u.link.reports = s.link.reports ++ [.done a.tag .unacknowledged]
            ∧ u.panel.awaiting =
                (rest.filter fun x => x.tag ≠ a.tag) ++
                  [⟨e.tag, e.cls, e.template, e.param1, e.param2, e.channels, e.repeatsLeft, e.repeatInterval,
                    s.instant t, ⟨s.instant t + e.repeatInterval * 1000, e.repeatInterval * 1000⟩⟩]))
  ∧ (∀ (c : Instr) (t : Nat) (s : State) (v : Service) (e : Entry), EndsService c t s v e → s.power.mode ≠ .sleep →
    s.seq.slot = some v → v.removal = none → s.seq.queue = [e] → e.tag = v.tag → e.origin ≠ .machine →
    e.ackRequired = false →
    ∃ u, exec c s = .next u ∧ ServiceEnded t e s u ∧ ReportsKept s u ∧ u.panel.awaiting = s.panel.awaiting
      ∧ u.panel.lastCompleted =
          if e.origin = .key then s.panel.lastCompleted
          else some ⟨e.template, e.param1, e.param2, e.cls, e.channels⟩)
  ∧ ∀ (c : Instr) (t : Nat) (s : State) (v : Service) (e : Entry) (o : DoneOutcome), EndsService c t s v e →
    e.state = .speaking → s.power.mode ≠ .sleep → s.seq.slot = some v → v.removal = some o → s.seq.queue = [e] →
    e.tag = v.tag →
    ∃ u, exec c s = .next u ∧ ServiceEnded t e s u ∧ u.panel.awaiting = s.panel.awaiting
      ∧ u.panel.lastCompleted = s.panel.lastCompleted
      ∧ (e.origin = .machine → ReportFits s → u.link.reports = s.link.reports ++ [.done e.tag o])
      ∧ (e.origin ≠ .machine → ReportsKept s u)

/-- CHIME_END and ITEM_END at a boundary without a cut cause (R22, R23, R49, R52, R115, R118, R119, R128): the service goes on at
the level of that moment, a masked one counted, latched and blinking line 1 at 2 Hz: after the chime the first item starts at
once, after an item the gap of 40 ms runs, from the instant at which the item's end was taken (the model's reading, log 39).
ITEM_GAP_END (R49): at the end of the gap the next item of the script starts; a phrase drives the loudspeaker with the
samples of its first millisecond (R50; which bytes have been read is a free value, log 36). -/
def Obligations.BoundaryGoesOn : Prop :=
  (∀ (c : Instr) (t : Nat) (s : State) (v : Service) (e : Entry), IsBoundary c t s v → s.power.mode ≠ .sleep →
    s.seq.slot = some v → s.served = some e → e.state = .speaking → v.removal = none → v.preempt = false →
    v.overlap = false → s.higherWaits e = false →
    ∃ u, exec c s = .next u
      ∧ LevelApplied (levelNow s e.cls) s u ∧ u.display.text = s.display.text
      ∧ u.display.blink = blinkAfter (s.instant t) (levelNow s e.cls) s.display.text s.display.blink
      ∧ u.seq = s.seq
      ∧ (c = .chimeEnd t → ∀ x, v.script.items[0]? = some x →
          u.tone.chime = .idle ∧ u.speech = .playing 0 x.phraseOf (s.instant t) none)
      ∧ (c = .itemEnd t → ∀ i ph start stop, s.speech = .playing i ph start stop →
          u.speech = .gap (i + 1) ⟨s.instant t + 40, 40⟩)
      ∧ ReportsKept s u ∧ PanelKept s u ∧ ViewKept s u ∧ BesidesServiceKept s u)
  ∧ ∀ (t n : Nat) (s : State) (tm : Timer) (v : Service) (x : ScriptItem), s.power.mode ≠ .sleep →
    s.speech = .gap n tm → DueAt s t tm.due → s.seq.slot = some v → v.script.items[n]? = some x →
    ∃ u, exec (.itemGapEnd t) s = .next u
      ∧ u.speech = .playing n x.phraseOf (s.instant t) none ∧ u.seq = s.seq ∧ u.level.lastG = s.level.lastG
      ∧ (∀ p, x = .phrase p → s.power.amp = .on → s.power.check = .idle → s.tone.chime = .idle →
          u.speakerDrive =
            .samples ((List.range 16).map fun k =>
              if u.byteSounds p (s.instant t) none (k / 2) then p.sample s.store.flash k else 0))
      ∧ u.tone = s.tone ∧ ReportsKept s u ∧ PanelKept s u ∧ ViewKept s u ∧ BesidesServiceKept s u

/-- CHIME_END and ITEM_END at a boundary with a cut cause (R23, R24, R25, R29): a pending removal removes the entry with
its outcome; else a notice or a waiting higher class cuts it: the cut is counted, the entry keeps its stamp and loses its
deadline, and a third cut of a STATUS or COURTESY entry is CUT_OUT. In each case a held floor is given up with RELEASE(CUT)
(R95). -/
def Obligations.BoundaryCutsOrRemoves : Prop :=
  (∀ (c : Instr) (t : Nat) (s : State) (v : Service) (e : Entry) (o : DoneOutcome), IsBoundary c t s v →
    s.power.mode ≠ .sleep → s.seq.slot = some v → s.served = some e → e.state = .speaking → v.removal = some o →
    e.origin = .machine → ReportFits s →
    ∃ u, exec c s = .next u
      ∧ u.link.reports = s.link.reports ++ [.done e.tag o] ∧ u.entry e.tag = none ∧ u.seq.cuts = s.seq.cuts
      ∧ CutReleased s u ∧ SessionKept s u ∧ BesidesServiceKept s u)
  ∧ (∀ (c : Instr) (t : Nat) (s : State) (v : Service) (e : Entry), IsBoundary c t s v →
    s.power.mode ≠ .sleep → s.seq.slot = some v → s.served = some e → e.state = .speaking → v.removal = none →
    (v.preempt = true ∨ v.overlap = true ∨ s.higherWaits e = true) → (2 ≤ e.cls.val ∨ e.cutCount < 2) →
    ∃ u e', exec c s = .next u
      ∧ u.seq.cuts = min 65535 (s.seq.cuts + 1) ∧ u.entry e.tag = some e' ∧ e'.cutCount = min 3 (e.cutCount + 1)
      ∧ e'.arrival = e.arrival ∧ e'.deadline = none ∧ CutReleased s u ∧ ReportsKept s u ∧ PanelKept s u ∧ BesidesServiceKept s u)
  ∧ ∀ (c : Instr) (t : Nat) (s : State) (v : Service) (e : Entry), IsBoundary c t s v →
    s.power.mode ≠ .sleep → s.seq.slot = some v → s.served = some e → e.state = .speaking → v.removal = none →
    (v.preempt = true ∨ v.overlap = true ∨ s.higherWaits e = true) → e.cls.val ≤ 1 → 2 ≤ e.cutCount →
    e.origin = .machine → ReportFits s →
    ∃ u, exec c s = .next u
      ∧ u.seq.cuts = min 65535 (s.seq.cuts + 1) ∧ u.entry e.tag = none
      ∧ u.link.reports = s.link.reports ++ [.done e.tag .cutOut] ∧ CutReleased s u ∧ SessionKept s u ∧ BesidesServiceKept s u

/-- REPEAT_DUE (R11, R14, R175, R176, R177): without repeats left the record is answered UNACKNOWLEDGED; else, where the queue
has room, the record becomes an entry with one repeat less, and its tag joins the repeat list with its stamp. A full queue makes
room by a victim of lower class, answered first; where its victim's class is no lower the record stays with its repeats, and
falls due one interval later, counted from the instant at which this one was taken (the model's reading, log 39). -/
def Obligations.RepeatsFallDue : Prop :=
  (∀ (t tag : Nat) (s : State) (a : Awaiting), s.power.mode ≠ .sleep → s.awaitingRecord tag = some a →
    DueAt s t a.repeatDue.due → a.repeatsLeft = 0 → ReportFits s →
    ∃ u, exec (.repeatDue t tag) s = .next u
      ∧ u.link.reports = s.link.reports ++ [.done tag .unacknowledged]
      ∧ u.panel = { s.panel with awaiting := s.panel.awaiting.filter fun x => x.tag ≠ tag }
      ∧ QueueKept s u ∧ ViewKept s u ∧ BesidesServiceKept s u)
  ∧ (∀ (t tag : Nat) (s : State) (a : Awaiting), s.power.mode ≠ .sleep → s.awaitingRecord tag = some a →
    DueAt s t a.repeatDue.due → 1 ≤ a.repeatsLeft → QueueFull s a.cls.val →
    ∃ u, exec (.repeatDue t tag) s = .next u
      ∧ u.panel =
          { s.panel with
            awaiting := s.panel.awaiting.map fun x =>
              if x.tag = tag then
                { x with repeatDue := ⟨s.instant t + a.repeatInterval * 1000, a.repeatInterval * 1000⟩ }
              else x }
      ∧ QueueKept s u ∧ ReportsKept s u ∧ ViewKept s u ∧ BesidesServiceKept s u)
  ∧ (∀ (t tag : Nat) (s : State) (a : Awaiting) (v : Entry), s.power.mode ≠ .sleep → s.awaitingRecord tag = some a →
    DueAt s t a.repeatDue.due → 1 ≤ a.repeatsLeft → Evicts s a.cls.val v → s.entry tag = none →
    s.link.listening = true → s.link.reports.length + 2 ≤ 16 →
    ∃ u e, exec (.repeatDue t tag) s = .next u
      ∧ u.link.reports = s.link.reports ++ victimReports v ++ [.queued tag] ∧ VictimMakesRoom v tag s u
      ∧ u.panel =
          { s.panel with
            awaiting := s.panel.awaiting.filter fun x => x.tag ≠ tag
            repeats := (s.panel.repeats.filter fun r => r.tag ≠ v.tag) ++ [⟨tag, a.spokenAt⟩] }
      ∧ u.entry tag = some e ∧ e.repeatsLeft = a.repeatsLeft - 1 ∧ e.ackRequired = true ∧ e.deadline = none
      ∧ e.arrival = s.instant t ∧ e.cls = a.cls ∧ e.template = a.template
      ∧ ViewKept s u ∧ BesidesServiceKept s u)
  ∧ ∀ (t tag : Nat) (s : State) (a : Awaiting), s.power.mode ≠ .sleep → s.awaitingRecord tag = some a →
    DueAt s t a.repeatDue.due → 1 ≤ a.repeatsLeft → s.seq.queue.length < 16 → s.entry tag = none → ReportFits s →
    ∃ u e, exec (.repeatDue t tag) s = .next u
      ∧ u.link.reports = s.link.reports ++ [.queued tag]
      ∧ u.panel =
          { s.panel with
            awaiting := s.panel.awaiting.filter fun x => x.tag ≠ tag
            repeats := s.panel.repeats ++ [⟨tag, a.spokenAt⟩] }
      ∧ u.entry tag = some e ∧ e.repeatsLeft = a.repeatsLeft - 1 ∧ e.ackRequired = true ∧ e.deadline = none
      ∧ e.arrival = s.instant t ∧ e.cls = a.cls ∧ e.template = a.template ∧ u.seq.queue.length = s.seq.queue.length + 1
      ∧ ViewKept s u ∧ BesidesServiceKept s u

/-- PHRASE_READ_TIMEOUT, TONE_STEP_END and CLICK_END (R50, R51, R125, R134): 5 ms into the phrase or later, one read error and
silence from the sample now due, of the whole phrase where its first read gets no answer (which read this is, is the model's
choice, log 36), and a first read without an answer holds the timebase to 6 ms, R1's latest end of its wait (log 2); the next
step of the pattern begins, once the step has run its length and the pattern its sum up to there
(the model's reading, log 22); the click stops. Nothing else changes.
SCROLL_STEP and BLINK_PHASE (R138, R143, R145): a position moves on after 250 ms, and waits 1,000 ms at either end of
the text; a blink turns over every 500 ms, or every 250 ms in mode MASKED; each from the instant at which the one before was
taken, a scroll's step also once the row of its cycle has run up to there (the model's reading, log 39). Nothing else
changes. -/
def Obligations.TimersStepOn : Prop :=
  (∀ (t i start : Nat) (ph : Option (Nat × Nat)) (s : State) (v : Service) (p : PhraseItem), s.power.mode ≠ .sleep →
    s.speech = .playing i ph start none → s.seq.slot = some v → v.script.items[i]? = some (.phrase p) →
    DueAt s t (start + 5) →
    exec (.phraseReadTimeout t) s =
      .next { s with
        now := s.instant t
        store := { s.store with readErrors := min 65535 (s.store.readErrors + 1) }
        speech :=
          .playing i ph start
            (some (if s.store.flash.answers start p.audioAddress 1 then
              min (min p.audioLength (8 * p.duration)) (8 * (s.instant t - start)) else 0)) })
  ∧ (∀ (t i start : Nat) (ph : Option (Nat × Nat)) (s : State) (v : Service) (p : PhraseItem), s.power.mode ≠ .sleep →
    s.speech = .playing i ph start none → s.seq.slot = some v → v.script.items[i]? = some (.phrase p) →
    s.store.flash.answers start p.audioAddress 1 = false → 1 ≤ p.audioLength → s.now ≤ start + 6 →
    s.instant t ≤ start + 6)
  ∧ (∀ (t : Nat) (s : State) (c : Chime), s.power.mode ≠ .sleep → s.tone.chime = .playing c →
    c.step + 1 < (chimeSteps c.id).length → DueAt s t (c.stepStart + c.stepLength) →
    DueAt s t (c.start + patternLength ((chimeSteps c.id).take (c.step + 1))) →
    exec (.toneStepEnd t) s =
      .next { s with
        now := s.instant t
        tone := { s.tone with chime := .playing { c with step := c.step + 1, stepStart := s.instant t } } })
  ∧ (∀ (t duty : Nat) (s : State) (tm : Timer), s.tone.click = .playing duty tm → DueAt s t tm.due →
    exec (.clickEnd t) s = .next { s with now := s.instant t, tone := { s.tone with click := .idle } })
  ∧ (∀ (t : Nat) (s : State) (x : PromptText) (p : Paced), (s.power.mode = .active ∨ s.power.mode = .dim) →
    s.display.text = some x → s.display.line1Scroll.timer = some p → DueAt s t p.own.due → DueAt s t p.row.due →
    exec (.scrollStep t .prompt) s =
      .next { s with
        now := s.instant t
        display := { s.display with
          line1Scroll :=
            if s.display.line1Scroll.pos + 1 < x.chars.length - 20 then
              ⟨s.display.line1Scroll.pos + 1,
                some ⟨⟨s.instant t + 250, 250⟩, ⟨p.row.due + 250, p.row.len + 250⟩⟩⟩
            else if s.display.line1Scroll.pos + 1 = x.chars.length - 20 then
              ⟨s.display.line1Scroll.pos + 1,
                some ⟨⟨s.instant t + 1000, 1000⟩, ⟨p.row.due + 1000, p.row.len + 1000⟩⟩⟩
            else ⟨0, some ⟨⟨s.instant t + 1000, 1000⟩, ⟨s.instant t + 1000, 1000⟩⟩⟩ } })
  ∧ (∀ (t : Nat) (s : State) (p : Paced), (s.power.mode = .active ∨ s.power.mode = .dim) →
    s.display.phaseScroll.timer = some p → DueAt s t p.own.due → DueAt s t p.row.due →
    exec (.scrollStep t .phase) s =
      .next { s with
        now := s.instant t
        display := { s.display with
          phaseScroll :=
            if s.display.phaseScroll.pos + 1 < s.display.phaseText.length - 14 then
              ⟨s.display.phaseScroll.pos + 1,
                some ⟨⟨s.instant t + 250, 250⟩, ⟨p.row.due + 250, p.row.len + 250⟩⟩⟩
            else if s.display.phaseScroll.pos + 1 = s.display.phaseText.length - 14 then
              ⟨s.display.phaseScroll.pos + 1,
                some ⟨⟨s.instant t + 1000, 1000⟩, ⟨p.row.due + 1000, p.row.len + 1000⟩⟩⟩
            else ⟨0, some ⟨⟨s.instant t + 1000, 1000⟩, ⟨s.instant t + 1000, 1000⟩⟩⟩ } })
  ∧ (∀ (t : Nat) (s : State) (shown : Bool) (tm : Timer), s.power.mode ≠ .sleep →
    s.display.blink = .safety shown tm → DueAt s t tm.due →
    exec (.blinkPhase t .line1) s =
      .next { s with
        now := s.instant t, display := { s.display with blink := .safety (!shown) ⟨s.instant t + 500, 500⟩ } })
  ∧ (∀ (t : Nat) (s : State) (shown : Bool) (tm : Timer), s.power.mode ≠ .sleep →
    s.display.blink = .masked shown tm → DueAt s t tm.due →
    exec (.blinkPhase t .line1) s =
      .next { s with
        now := s.instant t, display := { s.display with blink := .masked (!shown) ⟨s.instant t + 250, 250⟩ } })
  ∧ ∀ (t : Nat) (s : State) (shown : Bool) (tm : Timer), s.power.mode ≠ .sleep →
    s.display.timeBlink = some (shown, tm) → DueAt s t tm.due →
    exec (.blinkPhase t .time) s =
      .next { s with
        now := s.instant t, display := { s.display with timeBlink := some (!shown, ⟨s.instant t + 500, 500⟩) } }

/-- AMBIENT_SAMPLE and SAMPLE_HOLD_SETTLED (R110, R111): a due sample, clamped to 30-110 dB, joins the ring as the newest
where the hold is OPEN, and is skipped otherwise; the next is 250 ms after the instant at which this one was taken (the
model's reading, log 39); SETTLING ends in OPEN. -/
def Obligations.AmbientSamplesAreTaken : Prop :=
  (∀ (t : Nat) (reading : Int) (s : State) (tm : Timer), s.power.mode ≠ .sleep → s.level.sampleDue = some tm →
    DueAt s t tm.due → s.level.hold = .open_ →
    exec (.ambientSample t reading) s =
      .next { s with
        now := s.instant t
        level := { s.level with
          sampleDue := some ⟨s.instant t + 250, 250⟩
          ring := (if s.level.ring.length < 8 then s.level.ring else s.level.ring.drop 1)
            ++ [if reading < 30 then 30 else if 110 < reading then 110 else reading.toNat] } })
  ∧ (∀ (t : Nat) (reading : Int) (s : State) (tm : Timer), s.power.mode ≠ .sleep → s.level.sampleDue = some tm →
    DueAt s t tm.due → s.level.hold ≠ .open_ →
    exec (.ambientSample t reading) s =
      .next { s with now := s.instant t, level := { s.level with sampleDue := some ⟨s.instant t + 250, 250⟩ } })
  ∧ ∀ (t : Nat) (s : State) (tm : Timer), s.power.mode ≠ .sleep → s.level.hold = .settling tm → DueAt s t tm.due →
    exec (.sampleHoldSettled t) s = .next { s with now := s.instant t, level := { s.level with hold := .open_ } }

/-! ### Reminders, keys and power modes -/

/-- ESTIMATE_DECREMENT (R11, R13, R145, R150, R152, R153): R falls by 1, the armed marks of that value are spent, the
lowest-numbered of them fires with param1 the new value and a deadline of 30 s, merged with an entry that holds its tag, made in a
full queue where a victim makes room, and else counted as an internal drop; the next second phase is 1,000 ms after the instant at
which this one was taken (the model's reading, log 39); at 0 only the phase moves. -/
def Obligations.EstimateRunsDown : Prop :=
  (∀ (t : Nat) (s : State) (tm : Timer), s.power.mode ≠ .sleep → s.rem.running = true → s.rem.secondPhase = some tm →
    DueAt s t tm.due → 1 ≤ s.rem.estimate →
    ∃ u, exec (.estimateDecrement t) s = .next u
      ∧ u.rem.estimate = s.rem.estimate - 1 ∧ u.rem.running = true
      ∧ u.rem.secondPhase = some ⟨s.instant t + 1000, 1000⟩ ∧ u.rem.slots = s.rem.slots
      ∧ (∀ n, u.rem.marks.get n =
          ⟨(s.rem.marks.get n).value,
            if (s.rem.marks.get n).state = .armed ∧ (s.rem.marks.get n).value = s.rem.estimate then .spent
            else (s.rem.marks.get n).state⟩)
      ∧ u.display.minutes = (s.rem.estimate - 1 + 59) / 60 ∧ u.display.timeShown = s.display.timeShown
      ∧ ((∀ n, (s.rem.marks.get n).state = .armed → (s.rem.marks.get n).value ≠ s.rem.estimate) →
          QueueKept s u ∧ ReportsKept s u ∧ PanelKept s u)
      ∧ (∀ n, n ≤ 3 → (s.rem.marks.get n).state = .armed → (s.rem.marks.get n).value = s.rem.estimate →
          (∀ m, m < n → (s.rem.marks.get m).state = .armed → (s.rem.marks.get m).value ≠ s.rem.estimate) →
          MarkPromptAsked t n (s.rem.estimate - 1) s u)
      ∧ LineKept s u ∧ ViewKept s u ∧ SessionKept s u ∧ SettingsKept s u ∧ FramerKept s u ∧ StoreKept s u ∧ LevelKept s u
      ∧ SpeakerKept s u)
  ∧ ∀ (t : Nat) (s : State) (tm : Timer), s.power.mode ≠ .sleep → s.rem.running = true → s.rem.secondPhase = some tm →
    DueAt s t tm.due → s.rem.estimate = 0 →
    ∃ u, exec (.estimateDecrement t) s = .next u
      ∧ u.rem = { s.rem with secondPhase := some ⟨s.instant t + 1000, 1000⟩ } ∧ StatusLineKept s u ∧ QueueKept s u
      ∧ ReportsKept s u ∧ PanelKept s u ∧ LineKept s u ∧ ViewKept s u ∧ SettingsKept s u

/-- SLOT_FIRING (R11, R13, R159, R160): the slot's prompt is asked for, merged where its tag is held, made in a full queue where
a victim makes room, and else counted as an internal drop; whatever becomes of it the slot goes on by its mode: ONE_SHOT and the
last of a count become IDLE, a periodic slot reloads with its period, or with a held next period, which becomes the period, an
IDLE-mode slot waits for a restart; a period is counted from the instant at which the firing was taken (the model's reading, log
39). -/
def Obligations.SlotFiringGoesOnByMode : Prop :=
  ∀ (t n : Nat) (s : State) (r : SlotRecord) (tm : Timer), s.power.mode ≠ .sleep → n ≤ 3 →
    s.rem.slots.get n = some r → r.nextFiring = some tm → DueAt s t tm.due →
    ∃ u, exec (.slotFiring t n) s = .next u
      ∧ (r.mode = .oneShot → u.rem.slots.get n = none)
      ∧ (r.mode = .periodic → r.remaining = some 1 → u.rem.slots.get n = none)
      ∧ (∀ k, r.mode = .periodic → r.remaining = some (k + 2) → r.nextPeriod = none →
          u.rem.slots.get n =
            some { r with
              remaining := some (k + 1), nextFiring := some ⟨s.instant t + r.period * 1000, r.period * 1000⟩ })
      ∧ (∀ k p, r.mode = .periodic → r.remaining = some (k + 2) → r.nextPeriod = some p →
          u.rem.slots.get n =
            some { r with
              remaining := some (k + 1), period := p, nextPeriod := none
              nextFiring := some ⟨s.instant t + p * 1000, p * 1000⟩ })
      ∧ (r.mode = .periodic → r.remaining = none → r.nextPeriod = none →
          u.rem.slots.get n =
            some { r with nextFiring := some ⟨s.instant t + r.period * 1000, r.period * 1000⟩ })
      ∧ (∀ p, r.mode = .periodic → r.remaining = none → r.nextPeriod = some p →
          u.rem.slots.get n =
            some { r with
              period := p, nextPeriod := none, nextFiring := some ⟨s.instant t + p * 1000, p * 1000⟩ })
      ∧ (r.mode = .idle → u.rem.slots.get n = some { r with nextFiring := none })
      ∧ (∀ m, m ≤ 3 → m ≠ n → u.rem.slots.get m = s.rem.slots.get m)
      ∧ (TemplateKnown s r.template → HasRoom s r.cls.val → s.entry (64 + n) = none →
          ∃ e, u.entry (64 + n) = some e ∧ e.origin = .reminder ∧ e.cls = r.cls ∧ e.template = r.template
            ∧ e.param1 = r.param1 ∧ e.param2 = 0 ∧ e.arrival = s.instant t)
      ∧ (∀ e, s.entry (64 + n) = some e → TemplateKnown s r.template → QueueKept s u ∧ ReportsKept s u)
      ∧ DroppedOrRoomMade (64 + n) r.template r.cls [] s u
      ∧ EstimateKept s u ∧ LineKept s u ∧ ViewKept s u ∧ SessionKept s u ∧ SettingsKept s u ∧ FramerKept s u
      ∧ StoreKept s u ∧ LevelKept s u ∧ SpeakerKept s u ∧ StatusLineKept s u

/-- KEY_PRESS of any key (R169, R170, R174): 30 ms after the input's last change or later (the timer is log 25), the key is
PRESSED with its 1,500 ms, the others keep their states; VOL+ and VOL- step V_s between 0 and 7 within a session only, and click
at the new V_s; every other key clicks at V_s as it is (R134, R170): 40 ms, unless V_s is 0 or a chime holds the piezo, and a
chime that takes the piezo in the same step stops the click (R127). Every press restarts the slots in IDLE mode (R160). REPEAT
(R171) asks for the last completed prompt, HELP (R172) for the help template with the phase id, each made, merged or dropped as
R13 gives it; OK (R178) acknowledges the prompt spoken last (of equal stamps an awaiting record before a repeat entry, as R178
states it for a delivery that completes at that instant, and else the one listed last, log 27): an awaiting record, or a repeat
entry, which leaves at once where it is QUEUED, CLAIMING or SHOWING and at its next boundary where it is SPEAKING. Before the 30
ms, and while the key is not UP, a press is not taken (log 3). -/
def Obligations.KeyPressActs : Prop :=
  (∀ (t : Nat) (k : Key) (s : State), s.power.mode ≠ .sleep → s.panel.keys.get k = .up →
    DueAt s t (s.panel.inputs.get k).debounce.due →
    ∃ u, exec (.keyPress t k) s = .next u
      ∧ u.panel.keys = s.panel.keys.set k (.pressed ⟨s.instant t + 1500, 1500⟩)
      ∧ u.panel.inputs = s.panel.inputs.set k ⟨true, ⟨s.instant t + 30, 30⟩⟩
      ∧ u.panel.inSession = s.panel.inSession ∧ u.panel.language = s.panel.language
      ∧ u.panel.helpTemplate = s.panel.helpTemplate ∧ u.panel.lastCompleted = s.panel.lastCompleted
      ∧ (k ≠ .vdn → k ≠ .vup → u.panel.volume = s.panel.volume)
      ∧ (u.piezoHeld = false →
          u.tone.click =
            if u.panel.volume = 0 ∨ s.piezoHeld = true then s.tone.click
            else .playing (min 128 (3 * (50 + 4 * u.panel.volume - 40) + 2)) ⟨s.instant t + 40, 40⟩)
      ∧ (u.piezoHeld = true → u.tone.click = .idle ∨ s.piezoHeld = true ∧ u.tone.click = s.tone.click)
      ∧ u.rem =
          { s.rem with
            slots := s.rem.slots.map fun o => o.map fun r =>
              if r.mode = .idle then { r with nextFiring := some ⟨s.instant t + r.delay * 1000, r.delay * 1000⟩ } else r }
      ∧ EstimateKept s u ∧ LineKept s u ∧ SettingsKept s u ∧ FramerKept s u ∧ StoreKept s u ∧ LevelKept s u
      ∧ SpeakerKept s u ∧ StatusLineKept s u)
  ∧ (∀ (t : Nat) (k : Key) (s : State), s.power.mode ≠ .sleep →
    (s.panel.keys.get k ≠ .up
      ∨ s.instant t + Config.tolerance (s.panel.inputs.get k).debounce.len < (s.panel.inputs.get k).debounce.due) →
    exec (.keyPress t k) s = .next (conclude (s.arrive t)))
  ∧ (∀ (t : Nat) (up : Bool) (s : State), s.power.mode ≠ .sleep →
    s.panel.keys.get (if up then .vup else .vdn) = .up →
    DueAt s t (s.panel.inputs.get (if up then .vup else .vdn)).debounce.due → NothingToSelect s → s.panel.volume ≤ 7 →
    ∃ u, exec (.keyPress t (if up then .vup else .vdn)) s = .next u
      ∧ u.panel.volume =
          (if s.panel.inSession = false then s.panel.volume
            else if up then (if s.panel.volume = 7 then 7 else s.panel.volume + 1)
            else if s.panel.volume = 0 then 0 else s.panel.volume - 1)
      ∧ (u.panel.volume = 0 ∨ s.piezoHeld = true → u.tone = s.tone)
      ∧ (u.panel.volume ≠ 0 → s.piezoHeld = false →
          u.tone = ⟨s.tone.chime,
            .playing (min 128 (3 * (50 + 4 * u.panel.volume - 40) + 2)) ⟨s.instant t + 40, 40⟩⟩)
      ∧ u.panel.awaiting = s.panel.awaiting ∧ u.panel.repeats = s.panel.repeats ∧ ViewKept s u ∧ ReportsKept s u
      ∧ QueueKept s u)
  ∧ (∀ (t : Nat) (s : State), s.power.mode ≠ .sleep → s.panel.keys.rep = .up →
    DueAt s t s.panel.inputs.rep.debounce.due →
    ∃ u, exec (.keyPress t .rep) s = .next u
      ∧ (∀ r, s.panel.lastCompleted = some r → TemplateKnown s r.template →
          HasRoom s (if r.cls = .safety then Cls.action else r.cls).val → s.entry 72 = none →
          ∃ e, u.entry 72 = some e ∧ e.origin = .key ∧ e.cls = (if r.cls = .safety then .action else r.cls)
            ∧ e.template = r.template ∧ e.param1 = r.param1 ∧ e.param2 = r.param2 ∧ e.channels = ⟨true, true, true⟩
            ∧ e.ackRequired = false ∧ e.arrival = s.instant t ∧ e.deadline = none)
      ∧ (∀ r, s.panel.lastCompleted = some r →
          DroppedOrRoomMade 72 r.template (if r.cls = .safety then .action else r.cls) [] s u)
      ∧ (∀ r e, s.panel.lastCompleted = some r → TemplateKnown s r.template → s.entry 72 = some e →
          QueueKept s u ∧ ReportsKept s u)
      ∧ (s.panel.lastCompleted = none → QueueKept s u ∧ ReportsKept s u))
  ∧ (∀ (t : Nat) (s : State), s.power.mode ≠ .sleep → s.panel.keys.hlp = .up →
    DueAt s t s.panel.inputs.hlp.debounce.due →
    ∃ u, exec (.keyPress t .hlp) s = .next u
      ∧ (∀ h ph, s.panel.helpTemplate = some h → s.display.phase = some ph →
          TemplateKnown s h → HasRoom s 1 → s.entry 73 = none →
          ∃ e, u.entry 73 = some e ∧ e.origin = .key ∧ e.cls = .status ∧ e.template = h ∧ e.param1 = ph.phase
            ∧ e.param2 = 0 ∧ e.channels = ⟨true, true, true⟩ ∧ e.ackRequired = false ∧ e.arrival = s.instant t
            ∧ e.deadline = none)
      ∧ (∀ h, s.panel.helpTemplate = some h → DroppedOrRoomMade 73 h .status [] s u)
      ∧ (∀ h e, s.panel.helpTemplate = some h → TemplateKnown s h → s.entry 73 = some e → QueueKept s u ∧ ReportsKept s u)
      ∧ (s.panel.helpTemplate = none → QueueKept s u ∧ ReportsKept s u))
  ∧ ∀ (t : Nat) (s : State), s.power.mode ≠ .sleep → s.panel.keys.ok = .up → DueAt s t s.panel.inputs.ok.debounce.due →
    ReportFits s →
    ∃ u, exec (.keyPress t .ok) s = .next u
      ∧ (∀ l a, s.panel.awaiting = l ++ [a] → (∀ x ∈ s.panel.repeats, okStamp s (s.instant t) x ≤ a.spokenAt) →
          (∀ x ∈ l, x.spokenAt ≤ a.spokenAt) →
          u.link.reports = s.link.reports ++ [.done a.tag .acked]
            ∧ u.panel.awaiting = s.panel.awaiting.filter (fun x => x.tag ≠ a.tag) ∧ QueueKept s u)
      ∧ (∀ r e, LatestSpoken s (s.instant t) r → s.entry r.tag = some e → e.state ≠ .speaking → e.origin = .machine →
          u.link.reports = s.link.reports ++ [.done r.tag .acked] ∧ u.entry r.tag = none
            ∧ u.panel.repeats = s.panel.repeats.filter (fun x => x.tag ≠ r.tag) ∧ u.panel.awaiting = s.panel.awaiting
            ∧ (e.state = .claiming → ClaimWithdrawn s u)
            ∧ (e.state = .showing →
                (s.seq.queue = [e] → u.seq.slot = none ∧ u.display.text = none)
                  ∧ ∀ w, u.seq.slot = some w → w.tag ≠ r.tag))
      ∧ (∀ r e v, LatestSpoken s (s.instant t) r → s.entry r.tag = some e → e.state = .speaking → s.seq.slot = some v →
          u.seq = { s.seq with slot := some { v with removal := some (v.removal.getD .acked) } } ∧ ReportsKept s u
            ∧ u.panel.repeats = s.panel.repeats ∧ u.panel.awaiting = s.panel.awaiting)
      ∧ (s.panel.awaiting = [] → s.panel.repeats = [] → ReportsKept s u ∧ QueueKept s u)

/-- KEY_RELEASE and KEY_LONG (R169, R170, R173): a press is classified once: KEY with SHORT at the release of a PRESSED
key, 30 ms after its press or later (log 25), KEY with LONG after 1,500 ms, and at a release that comes after them, R1's
tolerance past too (R1, log 2); the release of a LONG or BLOCKED key sends nothing. LANG acts here, within a session: a
short press takes the next enabled language above the present one, after the highest the lowest, a long one the default,
with its own KEY report, and a change asks for the prompt of tag 74, made, merged or dropped as R13 gives it. -/
def Obligations.PressesAreClassified : Prop :=
  (∀ (t due : Nat) (k : Key) (s : State), s.power.mode ≠ .sleep → k ≠ .lng →
    s.panel.keys.get k = .pressed ⟨due, 1500⟩ → DueAt s t (s.panel.inputs.get k).debounce.due → ReportFits s →
    ∃ u, exec (.keyRelease t k) s = .next u
      ∧ u.panel =
          { s.panel with
            keys := s.panel.keys.set k .up
            inputs := s.panel.inputs.set k ⟨false, ⟨s.instant t + 30, 30⟩⟩ }
      ∧ (s.instant t ≤ due + 15 → u.link.reports = s.link.reports ++ [.key k false])
      ∧ (due + 15 < s.instant t → u.link.reports = s.link.reports ++ [.key k true])
      ∧ RemindersKept s u ∧ ViewKept s u ∧ QueueKept s u ∧ BesidesServiceKept s u)
  ∧ (∀ (t : Nat) (k : Key) (s : State), s.power.mode ≠ .sleep →
    (s.panel.keys.get k = .long ∨ s.panel.keys.get k = .blocked) → DueAt s t (s.panel.inputs.get k).debounce.due →
    ∃ u, exec (.keyRelease t k) s = .next u
      ∧ u.panel =
          { s.panel with
            keys := s.panel.keys.set k .up
            inputs := s.panel.inputs.set k ⟨false, ⟨s.instant t + 30, 30⟩⟩ }
      ∧ ReportsKept s u ∧ RemindersKept s u ∧ ViewKept s u ∧ QueueKept s u ∧ BesidesServiceKept s u)
  ∧ (∀ (t : Nat) (k : Key) (s : State) (tm : Timer), s.power.mode ≠ .sleep → k ≠ .lng →
    s.panel.keys.get k = .pressed tm → DueAt s t tm.due → ReportFits s →
    ∃ u, exec (.keyLong t k) s = .next u
      ∧ u.panel = { s.panel with keys := s.panel.keys.set k .long }
      ∧ u.link.reports = s.link.reports ++ [.key k true]
      ∧ RemindersKept s u ∧ ViewKept s u ∧ QueueKept s u ∧ BesidesServiceKept s u)
  ∧ (∀ (t due : Nat) (s : State), s.power.mode ≠ .sleep → s.panel.keys.lng = .pressed ⟨due, 1500⟩ →
    DueAt s t s.panel.inputs.lng.debounce.due → s.instant t ≤ due + 15 → s.panel.inSession = true →
    ∃ u, exec (.keyRelease t .lng) s = .next u
      ∧ u.panel.keys = s.panel.keys.set .lng .up
      ∧ u.panel.inputs = s.panel.inputs.set .lng ⟨false, ⟨s.instant t + 30, 30⟩⟩
      ∧ (∀ l, l ≤ 3 → s.link.config.languages.get l = true → s.panel.language < l →
          (∀ m, s.panel.language < m → m < l → s.link.config.languages.get m = false) → u.panel.language = l)
      ∧ (∀ l, l ≤ 3 → s.link.config.languages.get l = true →
          (∀ m, m ≤ 3 → s.link.config.languages.get m = true → l ≤ m ∧ m ≤ s.panel.language) → u.panel.language = l)
      ∧ (ReportFits s → s.seq.queue.length < 16 → u.link.reports = s.link.reports ++ [.key .lng false])
      ∧ LangPromptFollows t false s u
      ∧ u.panel.volume = s.panel.volume ∧ LineKept s u ∧ ViewKept s u ∧ RemindersKept s u ∧ SettingsKept s u
      ∧ StoreKept s u)
  ∧ (∀ (t : Nat) (s : State) (tm : Timer), s.power.mode ≠ .sleep → s.panel.keys.lng = .pressed tm →
    DueAt s t tm.due → s.panel.inSession = true →
    ∃ u, exec (.keyLong t .lng) s = .next u
      ∧ u.panel.keys = s.panel.keys.set .lng .long ∧ u.panel.language = s.link.config.defaultLanguage
      ∧ (ReportFits s → s.seq.queue.length < 16 → u.link.reports = s.link.reports ++ [.key .lng true])
      ∧ LangPromptFollows t true s u
      ∧ u.panel.volume = s.panel.volume ∧ LineKept s u ∧ ViewKept s u ∧ RemindersKept s u ∧ SettingsKept s u
      ∧ StoreKept s u)
  ∧ ∀ (t : Nat) (c : Instr) (s : State) (tm : Timer), s.power.mode ≠ .sleep → s.panel.keys.lng = .pressed tm →
    (c = .keyRelease t .lng ∧ DueAt s t s.panel.inputs.lng.debounce.due ∨ c = .keyLong t .lng ∧ DueAt s t tm.due) →
    s.panel.inSession = false → ReportFits s →
    ∃ u long, exec c s = .next u
      ∧ u.panel.language = s.panel.language ∧ u.link.reports = s.link.reports ++ [.key .lng long]
      ∧ (c = .keyLong t .lng → long = true) ∧ QueueKept s u ∧ LineKept s u ∧ ViewKept s u ∧ RemindersKept s u
      ∧ SettingsKept s u ∧ StoreKept s u

/-- DIM_DEADLINE and STANDBY_DEADLINE (R147, R182): ACTIVE passes to DIM with the configured standby time, DIM passes to
STANDBY with the amplifier OFF; while the slot or a check holds the timer, neither passes. Nothing else changes. What follows
every step sets the hold exactly while the slot holds an entry or a check runs; at its end the dim time, or in DIM the standby
time, runs afresh, and while it lasts the two deadlines stay as they are: R180 and R182 call a deadline held, and that it keeps
its instant then is the model's choice (log 31). -/
def Obligations.ModesPassDown : Prop :=
  (∀ s : State, s.power.mode ≠ .sleep →
    (conclude s).power.timersHeld = ((conclude s).seq.slot.isSome || decide ((conclude s).power.check ≠ .idle))
      ∧ (s.power.timersHeld = true → (conclude s).power.timersHeld = false → NothingToSelect s →
          (s.power.mode = .active → (conclude s).power.dim = some ⟨s.now + 60000, 60000⟩
              ∧ (conclude s).power.standby = s.power.standby)
            ∧ (s.power.mode = .dim →
              (conclude s).power.dim = s.power.dim
                ∧ (conclude s).power.standby =
                  if s.link.config.standbyMinutes = 0 then none
                  else some ⟨s.now + s.link.config.standbyMinutes * 60000, s.link.config.standbyMinutes * 60000⟩))
      ∧ (NothingToSelect s → (s.power.timersHeld = false ∨ (conclude s).power.timersHeld = true) →
          (conclude s).power.dim = s.power.dim ∧ (conclude s).power.standby = s.power.standby
            ∧ (conclude s).power.mode = s.power.mode))
  ∧ (∀ (t : Nat) (s : State) (tm : Timer), s.power.mode = .active → s.power.timersHeld = false →
    s.power.dim = some tm → DueAt s t tm.due →
    exec (.dimDeadline t) s =
      .next { s with
        now := s.instant t
        power := { s.power with
          mode := .dim, dim := none
          standby :=
            if s.link.config.standbyMinutes = 0 then none
            else some ⟨s.instant t + s.link.config.standbyMinutes * 60000, s.link.config.standbyMinutes * 60000⟩ }
        display := { s.display with brightness := 4 } })
  ∧ (∀ (t : Nat) (s : State) (tm : Timer), s.power.mode = .dim → s.power.timersHeld = false →
    s.power.standby = some tm → DueAt s t tm.due →
    exec (.standbyDeadline t) s =
      .next { s with
        now := s.instant t
        power := { s.power with
          mode := .standby, standby := none, amp := if s.power.amp = .on then .off else s.power.amp }
        display := { s.display with brightness := 1 } })
  ∧ ∀ (t : Nat) (s : State), s.power.timersHeld = true →
    exec (.dimDeadline t) s = .next { s with now := s.instant t }
      ∧ exec (.standbyDeadline t) s = .next { s with now := s.instant t }

/-- WAKE (R72, R73, R112, R150, R186): from SLEEP by a start bit or a key, the part is ACTIVE with the view cleared, the
ring empty and sampling begun again, a running estimate's second phase 1,000 ms on, and the hall in LISTEN_IN, but for OFF
and a DUPLICATE's FAULT, its stuck-line watch started afresh (log 44). The key that wakes the part is UP, its press to be
taken 30 ms later at the earliest (R169), and where it was held at the entry to SLEEP, the press it was held for is
classified now (the model's choice, log 25). KEY_PRESS in SLEEP is that wake, 30 ms before the instant it names or as soon after
as the timebase allows, and then the press, which a part just woken takes 30 ms after the wake and not sooner (the model's
reading, log 25). Awake, WAKE does nothing but take its instant and what follows any step, and changes no
mode (log 3). -/
def Obligations.WakeRestartsThePart : Prop :=
  (∀ (t : Nat) (cause : WakeCause) (s : State), s.power.mode = .sleep → NothingToSelect s →
    (cause = .key .lng → ∀ tm, s.panel.keys.lng ≠ .pressed tm) →
    ∃ u, exec (.wake t cause) s = .next u
      ∧ u.power.mode = .active ∧ u.power.dim = some ⟨s.instant t + 60000, 60000⟩ ∧ u.power.amp = s.power.amp
      ∧ u.power.result = s.power.result ∧ u.display.brightness = 15 ∧ u.floor.peers = []
      ∧ u.floor.own = { OwnFloor.reset with nextSeq := s.floor.own.nextSeq }
      ∧ u.level.ring = [] ∧ u.level.sampleDue = some ⟨s.instant t + 250, 250⟩
      ∧ u.rem = { s.rem with
          secondPhase := if s.rem.running then some ⟨s.instant t + 1000, 1000⟩ else none }
      ∧ (s.hall.state = .off → u.hall.state = .off ∧ u.hall.line = s.hall.line)
      ∧ (s.hall.state = .fault .duplicate → u.hall.state = .fault .duplicate ∧ u.hall.line = .waitIdle)
      ∧ (s.hall.state ≠ .off → s.hall.state ≠ .fault .duplicate →
          u.hall.state = .listenIn ⟨s.instant t + 2500, 2500⟩ ∧ u.hall.line = .waitIdle
            ∧ u.hall.heartbeat = some ⟨s.instant t + 100 * s.straps.station, 100 * s.straps.station⟩)
      ∧ (s.hall.state ≠ .off → u.hall.watch = ⟨s.instant t + 10, 10⟩)
      ∧ (cause = .startBit → PanelKept s u ∧ ReportsKept s u)
      ∧ (∀ k, cause = .key k →
          u.panel =
              { s.panel with
                keys := s.panel.keys.set k .up
                inputs := s.panel.inputs.set k ⟨true, ⟨s.instant t + 30, 30⟩⟩ }
            ∧ ((∀ tm, s.panel.keys.get k ≠ .pressed tm) → ReportsKept s u)
            ∧ (∀ due, s.panel.keys.get k = .pressed ⟨due, 1500⟩ → ReportFits s →
                u.link.reports = s.link.reports ++ [.key k (decide (due + 15 < s.instant t))]))
      ∧ SettingsKept s u ∧ QueueKept s u ∧ StoreKept s u)
  ∧ (∀ (t : Nat) (s : State) (tm : Timer), s.power.mode = .sleep → s.panel.keys.lng = .pressed tm →
    ∃ u, exec (.wake t (.key .lng)) s = .next u
      ∧ u.power.mode = .active ∧ u.panel.keys = s.panel.keys.set .lng .up
      ∧ u.panel.inputs = s.panel.inputs.set .lng ⟨true, ⟨s.instant t + 30, 30⟩⟩ ∧ u.level.ring = []
      ∧ SettingsKept s u ∧ StoreKept s u)
  ∧ (∀ (t : Nat) (k : Key) (s : State), s.power.mode = .sleep →
    ∃ w, exec (.wake (t - 30) (.key k)) s = .next w
      ∧ w.power.mode = .active ∧ w.panel.keys.get k = .up
      ∧ w.panel.inputs.get k = ⟨true, ⟨w.now + 30, 30⟩⟩ ∧ exec (.keyPress t k) s = exec (.keyPress t k) w
      ∧ (w.instant t < w.now + 29 → exec (.keyPress t k) s = .next (conclude (w.arrive t))))
  ∧ ∀ (t : Nat) (cause : WakeCause) (s : State), s.power.mode ≠ .sleep →
    exec (.wake t cause) s = .next (conclude (s.arrive t))
      ∧ (NothingToSelect s → (conclude (s.arrive t)).power.mode = s.power.mode)

/-! ### Rules stated whole -/

/-- R80: a claim outranks another of its zone by class, then by the higher wait bucket, then by the lower station number;
PRESUMED ranks as SAFETY; of claims of different stations exactly one outranks the other, and the ranking is an order. -/
def Obligations.RankingIsAnOrder : Prop :=
  (∀ (a b : LiveClaim) (m n : Nat),
    (a.rankKey m).outranks (b.rankKey n) = true ↔
      b.cls.val < a.cls.val ∨ a.cls.val = b.cls.val ∧ b.bucket < a.bucket
        ∨ a.cls.val = b.cls.val ∧ a.bucket = b.bucket ∧ m < n)
  ∧ (∀ c : Cls, (ClaimCls.heard c).val = c.val) ∧ ClaimCls.presumed.val = Cls.safety.val
  ∧ (∀ (a b : LiveClaim) (m n : Nat), m ≠ n →
    ((a.rankKey m).outranks (b.rankKey n) = true ↔ ¬ (b.rankKey n).outranks (a.rankKey m) = true))
  ∧ (∀ a b c : RankKey, a.outranks b = true → b.outranks c = true → a.outranks c = true)
  ∧ ∀ (z : Nat) (s : State) (x : Nat × LiveClaim), topClaim (s.claimsIn z) = some x →
    x ∈ s.liveClaims ∧ x.2.zone = z
      ∧ ∀ y ∈ s.liveClaims, y.2.zone = z → (y.2.rankKey y.1).outranks (x.2.rankKey x.1) = false

/-- R6: the field check of a PROMPT comes first and fails with BAD_FIELD exactly in the cases of its list; a repeat interval
is clamped to 5-60 s, a deadline byte of 0 is no deadline, and the entry keeps the repeats and the interval whether or not
it needs acknowledgement. -/
def Obligations.PromptFieldsAreChecked : Prop :=
  ∀ p : List Byte, p.length = 12 →
    (promptFields p = none ↔
      at1 p 0 = 0 ∨ 63 < at1 p 0 ∨ 3 < at1 p 1 ∨ 43200 < at2 p 3 ∨ 43200 < at2 p 5 ∨ at1 p 7 = 0
        ∨ (∃ i, 3 ≤ i ∧ i ≤ 7 ∧ (at1 p 7).testBit i = true) ∨ (at1 p 8 ≠ 0 ∧ at1 p 8 ≠ 1) ∨ 3 < at1 p 9)
      ∧ (promptFields p = none → ∀ (down : Keys Bool) (s : State), checkCue down 0x05#8 p s = .refused .badField)
      ∧ ∀ c, promptFields p = some c → ∀ (s : State) (arrival made : Nat),
          (s.promptEntry c arrival made).repeatInterval =
              (if at1 p 10 < 5 then 5 else if 60 < at1 p 10 then 60 else at1 p 10)
            ∧ (s.promptEntry c arrival made).repeatsLeft = at1 p 9
            ∧ (s.promptEntry c arrival made).ackRequired = decide (at1 p 8 = 1)
            ∧ (s.promptEntry c arrival made).deadline =
                (if at1 p 11 = 0 then none else some ⟨s.now + at1 p 11 * 1000, at1 p 11 * 1000⟩)

/-- R40, R41 and R140: a NUMBER item of a parameter speaks the phrase of its value, 99 above 99, as the station number of
R42 is spoken; a DURATION item of R seconds speaks the phrases of its range, each looked up by R39, and shows h:mm of its
started minutes; a NUMBER piece shows its digits.
The codes of the ten digits and of the colon, the last two clauses, are the model's choice, log 50: no rule gives them. -/
def Obligations.DurationsAreSpokenAndShown : Prop :=
  (∀ (s : State) (e : Entry) (i : Nat),
    s.expandItem e i (.number .param1) = s.expandPhrase (.number (min e.param1 99)) (min e.param1 99)
      ∧ s.expandItem e i (.number .param2) = s.expandPhrase (.number (min e.param2 99)) (min e.param2 99)
      ∧ (s.hall.state ≠ .off →
          s.expandItem e i .station =
            (s.expandPhrase .text 106).append (s.expandPhrase .text (min s.straps.station 99)))
      ∧ s.expandItem e i (.duration .param1) =
        Expansion.concat ((durationPhrases e.param1).map (s.expandPhrase (.duration i e.param1)))
      ∧ s.expandItem e i (.duration .param2) =
        Expansion.concat ((durationPhrases e.param2).map (s.expandPhrase (.duration i e.param2)))
      ∧ s.expandItem e i (.duration .estimate) =
        Expansion.concat ((durationPhrases s.rem.estimate).map (s.expandPhrase (.duration i s.rem.estimate))))
  ∧ (∀ r, r < 60 → durationPhrases r = [105])
  ∧ (∀ r, 60 ≤ r → r < 600 →
    1 ≤ (r + 59) / 60 ∧ (r + 59) / 60 ≤ 10
      ∧ durationPhrases r = [(r + 59) / 60, if (r + 59) / 60 = 1 then 100 else 101])
  ∧ (∀ r T H M, 600 ≤ r → r ≤ 43200 → T = 5 * ((r + 150) / 300) → H = T / 60 → M = T % 60 →
    10 ≤ T ∧ T ≤ 720 ∧ H ≤ 12 ∧ M % 5 = 0 ∧ M ≤ 55
      ∧ (H = 0 → 10 ≤ M ∧ durationPhrases r = [M, 101])
      ∧ (1 ≤ H → M = 0 → durationPhrases r = [H, if H = 1 then 102 else 103])
      ∧ (1 ≤ H → 5 ≤ M → durationPhrases r = [H, if H = 1 then 102 else 103, 104, M, 101]))
  ∧ durationPhrases 599 = [10, 101] ∧ durationPhrases 600 = [10, 101]
  ∧ (∀ r, 600 ≤ r → r ≤ 43200 → (3450 ≤ r ↔ 1 ≤ 5 * ((r + 150) / 300) / 60))
  ∧ (∀ v, v < 10 → Piece.chars (.number v) = [digitChar v])
  ∧ (∀ v, 10 ≤ v → v ≤ 99 → Piece.chars (.number v) = [digitChar (v / 10), digitChar (v % 10)])
  ∧ (∀ r m, r ≤ 43200 → m = (r + 59) / 60 →
    Piece.chars (.duration r) =
        (if m / 60 < 10 then [digitChar (m / 60)] else [digitChar (m / 60 / 10), digitChar (m / 60 % 10)])
          ++ [colonChar, digitChar (m % 60 / 10), digitChar (m % 60 % 10)]
      ∧ ((Piece.chars (.duration r)).length = 4 ∨ (Piece.chars (.duration r)).length = 5))
  ∧ (∀ d, d ≤ 9 → digitChar d = byte (48 + d))
  ∧ colonChar = byte 58

/-- R116 and R117: the raw level is base, lift, bonus and duck; the floor and the cap bring it between them, and a floor
above the cap is the masked case. The gain code and the duty of the level (R119, R120) are stated with it. -/
def Obligations.LevelIsBroughtBetweenItsBounds : Prop :=
  ∀ (a v n : Nat) (quiet : Bool) (cls : Cls), a ≤ 110 → v ≤ 7 → (cls = .safety → 4 ≤ v) →
    (rawLevel a v n cls : Int) =
        50 + 4 * v + min 15 (max 0 (((a : Int) - 45) / 2)) - 6 * min n 2 + (if cls = .safety then 6 else 0)
      ∧ 38 ≤ rawLevel a v n cls ∧ rawLevel a v n cls ≤ 99
      ∧ levelCap quiet cls = (if quiet = true ∧ cls ≠ .safety then 70 else 85)
      ∧ levelFloor a cls = max 40 (a + if cls = .safety then 6 else 3)
      ∧ 40 ≤ levelFloor a cls ∧ levelFloor a cls ≤ (if cls = .safety then 116 else 113)
      ∧ (levelFloor a cls ≤ levelCap quiet cls →
          (levelResult a v n quiet cls).level = min (levelCap quiet cls) (max (levelFloor a cls) (rawLevel a v n cls))
            ∧ (levelResult a v n quiet cls).masked = false)
      ∧ (levelCap quiet cls < levelFloor a cls →
          (levelResult a v n quiet cls).level = levelCap quiet cls ∧ (levelResult a v n quiet cls).masked = true)
      ∧ 40 ≤ (levelResult a v n quiet cls).level ∧ (levelResult a v n quiet cls).level ≤ 85
      ∧ (levelResult a v n quiet cls).gain = (levelResult a v n quiet cls).level - 40
      ∧ (levelResult a v n quiet cls).duty = min 128 (3 * ((levelResult a v n quiet cls).level - 40) + 2)
      ∧ 2 ≤ (levelResult a v n quiet cls).duty
end

