-- ==== Sys2Proof/Laws/State.lean ====
section
/-! SUPPORT. What each field of the state reads after each update of one block: one lemma per field per update, each
true by rfl. -/

namespace Sys2Proof.Machine

open Sys2Proof

@[simp] theorem State.onLink_now (f : CueLink → CueLink) (s : State) : (s.onLink f).now = s.now := rfl
@[simp] theorem State.onLink_pending (f : CueLink → CueLink) (s : State) : (s.onLink f).pending = s.pending := rfl
@[simp] theorem State.onLink_straps (f : CueLink → CueLink) (s : State) : (s.onLink f).straps = s.straps := rfl
@[simp] theorem State.onLink_link (f : CueLink → CueLink) (s : State) : (s.onLink f).link = f s.link := rfl
@[simp] theorem State.onLink_seq (f : CueLink → CueLink) (s : State) : (s.onLink f).seq = s.seq := rfl
@[simp] theorem State.onLink_store (f : CueLink → CueLink) (s : State) : (s.onLink f).store = s.store := rfl
@[simp] theorem State.onLink_speech (f : CueLink → CueLink) (s : State) : (s.onLink f).speech = s.speech := rfl
@[simp] theorem State.onLink_tone (f : CueLink → CueLink) (s : State) : (s.onLink f).tone = s.tone := rfl
@[simp] theorem State.onLink_level (f : CueLink → CueLink) (s : State) : (s.onLink f).level = s.level := rfl
@[simp] theorem State.onLink_hall (f : CueLink → CueLink) (s : State) : (s.onLink f).hall = s.hall := rfl
@[simp] theorem State.onLink_floor (f : CueLink → CueLink) (s : State) : (s.onLink f).floor = s.floor := rfl
@[simp] theorem State.onLink_rem (f : CueLink → CueLink) (s : State) : (s.onLink f).rem = s.rem := rfl
@[simp] theorem State.onLink_panel (f : CueLink → CueLink) (s : State) : (s.onLink f).panel = s.panel := rfl
@[simp] theorem State.onLink_power (f : CueLink → CueLink) (s : State) : (s.onLink f).power = s.power := rfl
@[simp] theorem State.onLink_display (f : CueLink → CueLink) (s : State) : (s.onLink f).display = s.display := rfl

@[simp] theorem State.onSeq_now (f : Sequencer → Sequencer) (s : State) : (s.onSeq f).now = s.now := rfl
@[simp] theorem State.onSeq_pending (f : Sequencer → Sequencer) (s : State) : (s.onSeq f).pending = s.pending := rfl
@[simp] theorem State.onSeq_straps (f : Sequencer → Sequencer) (s : State) : (s.onSeq f).straps = s.straps := rfl
@[simp] theorem State.onSeq_link (f : Sequencer → Sequencer) (s : State) : (s.onSeq f).link = s.link := rfl
@[simp] theorem State.onSeq_seq (f : Sequencer → Sequencer) (s : State) : (s.onSeq f).seq = f s.seq := rfl
@[simp] theorem State.onSeq_store (f : Sequencer → Sequencer) (s : State) : (s.onSeq f).store = s.store := rfl
@[simp] theorem State.onSeq_speech (f : Sequencer → Sequencer) (s : State) : (s.onSeq f).speech = s.speech := rfl
@[simp] theorem State.onSeq_tone (f : Sequencer → Sequencer) (s : State) : (s.onSeq f).tone = s.tone := rfl
@[simp] theorem State.onSeq_level (f : Sequencer → Sequencer) (s : State) : (s.onSeq f).level = s.level := rfl
@[simp] theorem State.onSeq_hall (f : Sequencer → Sequencer) (s : State) : (s.onSeq f).hall = s.hall := rfl
@[simp] theorem State.onSeq_floor (f : Sequencer → Sequencer) (s : State) : (s.onSeq f).floor = s.floor := rfl
@[simp] theorem State.onSeq_rem (f : Sequencer → Sequencer) (s : State) : (s.onSeq f).rem = s.rem := rfl
@[simp] theorem State.onSeq_panel (f : Sequencer → Sequencer) (s : State) : (s.onSeq f).panel = s.panel := rfl
@[simp] theorem State.onSeq_power (f : Sequencer → Sequencer) (s : State) : (s.onSeq f).power = s.power := rfl
@[simp] theorem State.onSeq_display (f : Sequencer → Sequencer) (s : State) : (s.onSeq f).display = s.display := rfl

@[simp] theorem State.onStore_now (f : PhraseStore → PhraseStore) (s : State) : (s.onStore f).now = s.now := rfl
@[simp] theorem State.onStore_pending (f : PhraseStore → PhraseStore) (s : State) : (s.onStore f).pending = s.pending := rfl
@[simp] theorem State.onStore_straps (f : PhraseStore → PhraseStore) (s : State) : (s.onStore f).straps = s.straps := rfl
@[simp] theorem State.onStore_link (f : PhraseStore → PhraseStore) (s : State) : (s.onStore f).link = s.link := rfl
@[simp] theorem State.onStore_seq (f : PhraseStore → PhraseStore) (s : State) : (s.onStore f).seq = s.seq := rfl
@[simp] theorem State.onStore_store (f : PhraseStore → PhraseStore) (s : State) : (s.onStore f).store = f s.store := rfl
@[simp] theorem State.onStore_speech (f : PhraseStore → PhraseStore) (s : State) : (s.onStore f).speech = s.speech := rfl
@[simp] theorem State.onStore_tone (f : PhraseStore → PhraseStore) (s : State) : (s.onStore f).tone = s.tone := rfl
@[simp] theorem State.onStore_level (f : PhraseStore → PhraseStore) (s : State) : (s.onStore f).level = s.level := rfl
@[simp] theorem State.onStore_hall (f : PhraseStore → PhraseStore) (s : State) : (s.onStore f).hall = s.hall := rfl
@[simp] theorem State.onStore_floor (f : PhraseStore → PhraseStore) (s : State) : (s.onStore f).floor = s.floor := rfl
@[simp] theorem State.onStore_rem (f : PhraseStore → PhraseStore) (s : State) : (s.onStore f).rem = s.rem := rfl
@[simp] theorem State.onStore_panel (f : PhraseStore → PhraseStore) (s : State) : (s.onStore f).panel = s.panel := rfl
@[simp] theorem State.onStore_power (f : PhraseStore → PhraseStore) (s : State) : (s.onStore f).power = s.power := rfl
@[simp] theorem State.onStore_display (f : PhraseStore → PhraseStore) (s : State) : (s.onStore f).display = s.display := rfl

@[simp] theorem State.onTone_now (f : ToneUnit → ToneUnit) (s : State) : (s.onTone f).now = s.now := rfl
@[simp] theorem State.onTone_pending (f : ToneUnit → ToneUnit) (s : State) : (s.onTone f).pending = s.pending := rfl
@[simp] theorem State.onTone_straps (f : ToneUnit → ToneUnit) (s : State) : (s.onTone f).straps = s.straps := rfl
@[simp] theorem State.onTone_link (f : ToneUnit → ToneUnit) (s : State) : (s.onTone f).link = s.link := rfl
@[simp] theorem State.onTone_seq (f : ToneUnit → ToneUnit) (s : State) : (s.onTone f).seq = s.seq := rfl
@[simp] theorem State.onTone_store (f : ToneUnit → ToneUnit) (s : State) : (s.onTone f).store = s.store := rfl
@[simp] theorem State.onTone_speech (f : ToneUnit → ToneUnit) (s : State) : (s.onTone f).speech = s.speech := rfl
@[simp] theorem State.onTone_tone (f : ToneUnit → ToneUnit) (s : State) : (s.onTone f).tone = f s.tone := rfl
@[simp] theorem State.onTone_level (f : ToneUnit → ToneUnit) (s : State) : (s.onTone f).level = s.level := rfl
@[simp] theorem State.onTone_hall (f : ToneUnit → ToneUnit) (s : State) : (s.onTone f).hall = s.hall := rfl
@[simp] theorem State.onTone_floor (f : ToneUnit → ToneUnit) (s : State) : (s.onTone f).floor = s.floor := rfl
@[simp] theorem State.onTone_rem (f : ToneUnit → ToneUnit) (s : State) : (s.onTone f).rem = s.rem := rfl
@[simp] theorem State.onTone_panel (f : ToneUnit → ToneUnit) (s : State) : (s.onTone f).panel = s.panel := rfl
@[simp] theorem State.onTone_power (f : ToneUnit → ToneUnit) (s : State) : (s.onTone f).power = s.power := rfl
@[simp] theorem State.onTone_display (f : ToneUnit → ToneUnit) (s : State) : (s.onTone f).display = s.display := rfl

@[simp] theorem State.onLevel_now (f : LevelUnit → LevelUnit) (s : State) : (s.onLevel f).now = s.now := rfl
@[simp] theorem State.onLevel_pending (f : LevelUnit → LevelUnit) (s : State) : (s.onLevel f).pending = s.pending := rfl
@[simp] theorem State.onLevel_straps (f : LevelUnit → LevelUnit) (s : State) : (s.onLevel f).straps = s.straps := rfl
@[simp] theorem State.onLevel_link (f : LevelUnit → LevelUnit) (s : State) : (s.onLevel f).link = s.link := rfl
@[simp] theorem State.onLevel_seq (f : LevelUnit → LevelUnit) (s : State) : (s.onLevel f).seq = s.seq := rfl
@[simp] theorem State.onLevel_store (f : LevelUnit → LevelUnit) (s : State) : (s.onLevel f).store = s.store := rfl
@[simp] theorem State.onLevel_speech (f : LevelUnit → LevelUnit) (s : State) : (s.onLevel f).speech = s.speech := rfl
@[simp] theorem State.onLevel_tone (f : LevelUnit → LevelUnit) (s : State) : (s.onLevel f).tone = s.tone := rfl
@[simp] theorem State.onLevel_level (f : LevelUnit → LevelUnit) (s : State) : (s.onLevel f).level = f s.level := rfl
@[simp] theorem State.onLevel_hall (f : LevelUnit → LevelUnit) (s : State) : (s.onLevel f).hall = s.hall := rfl
@[simp] theorem State.onLevel_floor (f : LevelUnit → LevelUnit) (s : State) : (s.onLevel f).floor = s.floor := rfl
@[simp] theorem State.onLevel_rem (f : LevelUnit → LevelUnit) (s : State) : (s.onLevel f).rem = s.rem := rfl
@[simp] theorem State.onLevel_panel (f : LevelUnit → LevelUnit) (s : State) : (s.onLevel f).panel = s.panel := rfl
@[simp] theorem State.onLevel_power (f : LevelUnit → LevelUnit) (s : State) : (s.onLevel f).power = s.power := rfl
@[simp] theorem State.onLevel_display (f : LevelUnit → LevelUnit) (s : State) : (s.onLevel f).display = s.display := rfl

@[simp] theorem State.onHall_now (f : HallPort → HallPort) (s : State) : (s.onHall f).now = s.now := rfl
@[simp] theorem State.onHall_pending (f : HallPort → HallPort) (s : State) : (s.onHall f).pending = s.pending := rfl
@[simp] theorem State.onHall_straps (f : HallPort → HallPort) (s : State) : (s.onHall f).straps = s.straps := rfl
@[simp] theorem State.onHall_link (f : HallPort → HallPort) (s : State) : (s.onHall f).link = s.link := rfl
@[simp] theorem State.onHall_seq (f : HallPort → HallPort) (s : State) : (s.onHall f).seq = s.seq := rfl
@[simp] theorem State.onHall_store (f : HallPort → HallPort) (s : State) : (s.onHall f).store = s.store := rfl
@[simp] theorem State.onHall_speech (f : HallPort → HallPort) (s : State) : (s.onHall f).speech = s.speech := rfl
@[simp] theorem State.onHall_tone (f : HallPort → HallPort) (s : State) : (s.onHall f).tone = s.tone := rfl
@[simp] theorem State.onHall_level (f : HallPort → HallPort) (s : State) : (s.onHall f).level = s.level := rfl
@[simp] theorem State.onHall_hall (f : HallPort → HallPort) (s : State) : (s.onHall f).hall = f s.hall := rfl
@[simp] theorem State.onHall_floor (f : HallPort → HallPort) (s : State) : (s.onHall f).floor = s.floor := rfl
@[simp] theorem State.onHall_rem (f : HallPort → HallPort) (s : State) : (s.onHall f).rem = s.rem := rfl
@[simp] theorem State.onHall_panel (f : HallPort → HallPort) (s : State) : (s.onHall f).panel = s.panel := rfl
@[simp] theorem State.onHall_power (f : HallPort → HallPort) (s : State) : (s.onHall f).power = s.power := rfl
@[simp] theorem State.onHall_display (f : HallPort → HallPort) (s : State) : (s.onHall f).display = s.display := rfl

@[simp] theorem State.onFloor_now (f : FloorUnit → FloorUnit) (s : State) : (s.onFloor f).now = s.now := rfl
@[simp] theorem State.onFloor_pending (f : FloorUnit → FloorUnit) (s : State) : (s.onFloor f).pending = s.pending := rfl
@[simp] theorem State.onFloor_straps (f : FloorUnit → FloorUnit) (s : State) : (s.onFloor f).straps = s.straps := rfl
@[simp] theorem State.onFloor_link (f : FloorUnit → FloorUnit) (s : State) : (s.onFloor f).link = s.link := rfl
@[simp] theorem State.onFloor_seq (f : FloorUnit → FloorUnit) (s : State) : (s.onFloor f).seq = s.seq := rfl
@[simp] theorem State.onFloor_store (f : FloorUnit → FloorUnit) (s : State) : (s.onFloor f).store = s.store := rfl
@[simp] theorem State.onFloor_speech (f : FloorUnit → FloorUnit) (s : State) : (s.onFloor f).speech = s.speech := rfl
@[simp] theorem State.onFloor_tone (f : FloorUnit → FloorUnit) (s : State) : (s.onFloor f).tone = s.tone := rfl
@[simp] theorem State.onFloor_level (f : FloorUnit → FloorUnit) (s : State) : (s.onFloor f).level = s.level := rfl
@[simp] theorem State.onFloor_hall (f : FloorUnit → FloorUnit) (s : State) : (s.onFloor f).hall = s.hall := rfl
@[simp] theorem State.onFloor_floor (f : FloorUnit → FloorUnit) (s : State) : (s.onFloor f).floor = f s.floor := rfl
@[simp] theorem State.onFloor_rem (f : FloorUnit → FloorUnit) (s : State) : (s.onFloor f).rem = s.rem := rfl
@[simp] theorem State.onFloor_panel (f : FloorUnit → FloorUnit) (s : State) : (s.onFloor f).panel = s.panel := rfl
@[simp] theorem State.onFloor_power (f : FloorUnit → FloorUnit) (s : State) : (s.onFloor f).power = s.power := rfl
@[simp] theorem State.onFloor_display (f : FloorUnit → FloorUnit) (s : State) : (s.onFloor f).display = s.display := rfl

@[simp] theorem State.onRem_now (f : ReminderUnit → ReminderUnit) (s : State) : (s.onRem f).now = s.now := rfl
@[simp] theorem State.onRem_pending (f : ReminderUnit → ReminderUnit) (s : State) : (s.onRem f).pending = s.pending := rfl
@[simp] theorem State.onRem_straps (f : ReminderUnit → ReminderUnit) (s : State) : (s.onRem f).straps = s.straps := rfl
@[simp] theorem State.onRem_link (f : ReminderUnit → ReminderUnit) (s : State) : (s.onRem f).link = s.link := rfl
@[simp] theorem State.onRem_seq (f : ReminderUnit → ReminderUnit) (s : State) : (s.onRem f).seq = s.seq := rfl
@[simp] theorem State.onRem_store (f : ReminderUnit → ReminderUnit) (s : State) : (s.onRem f).store = s.store := rfl
@[simp] theorem State.onRem_speech (f : ReminderUnit → ReminderUnit) (s : State) : (s.onRem f).speech = s.speech := rfl
@[simp] theorem State.onRem_tone (f : ReminderUnit → ReminderUnit) (s : State) : (s.onRem f).tone = s.tone := rfl
@[simp] theorem State.onRem_level (f : ReminderUnit → ReminderUnit) (s : State) : (s.onRem f).level = s.level := rfl
@[simp] theorem State.onRem_hall (f : ReminderUnit → ReminderUnit) (s : State) : (s.onRem f).hall = s.hall := rfl
@[simp] theorem State.onRem_floor (f : ReminderUnit → ReminderUnit) (s : State) : (s.onRem f).floor = s.floor := rfl
@[simp] theorem State.onRem_rem (f : ReminderUnit → ReminderUnit) (s : State) : (s.onRem f).rem = f s.rem := rfl
@[simp] theorem State.onRem_panel (f : ReminderUnit → ReminderUnit) (s : State) : (s.onRem f).panel = s.panel := rfl
@[simp] theorem State.onRem_power (f : ReminderUnit → ReminderUnit) (s : State) : (s.onRem f).power = s.power := rfl
@[simp] theorem State.onRem_display (f : ReminderUnit → ReminderUnit) (s : State) : (s.onRem f).display = s.display := rfl

@[simp] theorem State.onPanel_now (f : Panel → Panel) (s : State) : (s.onPanel f).now = s.now := rfl
@[simp] theorem State.onPanel_pending (f : Panel → Panel) (s : State) : (s.onPanel f).pending = s.pending := rfl
@[simp] theorem State.onPanel_straps (f : Panel → Panel) (s : State) : (s.onPanel f).straps = s.straps := rfl
@[simp] theorem State.onPanel_link (f : Panel → Panel) (s : State) : (s.onPanel f).link = s.link := rfl
@[simp] theorem State.onPanel_seq (f : Panel → Panel) (s : State) : (s.onPanel f).seq = s.seq := rfl
@[simp] theorem State.onPanel_store (f : Panel → Panel) (s : State) : (s.onPanel f).store = s.store := rfl
@[simp] theorem State.onPanel_speech (f : Panel → Panel) (s : State) : (s.onPanel f).speech = s.speech := rfl
@[simp] theorem State.onPanel_tone (f : Panel → Panel) (s : State) : (s.onPanel f).tone = s.tone := rfl
@[simp] theorem State.onPanel_level (f : Panel → Panel) (s : State) : (s.onPanel f).level = s.level := rfl
@[simp] theorem State.onPanel_hall (f : Panel → Panel) (s : State) : (s.onPanel f).hall = s.hall := rfl
@[simp] theorem State.onPanel_floor (f : Panel → Panel) (s : State) : (s.onPanel f).floor = s.floor := rfl
@[simp] theorem State.onPanel_rem (f : Panel → Panel) (s : State) : (s.onPanel f).rem = s.rem := rfl
@[simp] theorem State.onPanel_panel (f : Panel → Panel) (s : State) : (s.onPanel f).panel = f s.panel := rfl
@[simp] theorem State.onPanel_power (f : Panel → Panel) (s : State) : (s.onPanel f).power = s.power := rfl
@[simp] theorem State.onPanel_display (f : Panel → Panel) (s : State) : (s.onPanel f).display = s.display := rfl

@[simp] theorem State.onPower_now (f : Power → Power) (s : State) : (s.onPower f).now = s.now := rfl
@[simp] theorem State.onPower_pending (f : Power → Power) (s : State) : (s.onPower f).pending = s.pending := rfl
@[simp] theorem State.onPower_straps (f : Power → Power) (s : State) : (s.onPower f).straps = s.straps := rfl
@[simp] theorem State.onPower_link (f : Power → Power) (s : State) : (s.onPower f).link = s.link := rfl
@[simp] theorem State.onPower_seq (f : Power → Power) (s : State) : (s.onPower f).seq = s.seq := rfl
@[simp] theorem State.onPower_store (f : Power → Power) (s : State) : (s.onPower f).store = s.store := rfl
@[simp] theorem State.onPower_speech (f : Power → Power) (s : State) : (s.onPower f).speech = s.speech := rfl
@[simp] theorem State.onPower_tone (f : Power → Power) (s : State) : (s.onPower f).tone = s.tone := rfl
@[simp] theorem State.onPower_level (f : Power → Power) (s : State) : (s.onPower f).level = s.level := rfl
@[simp] theorem State.onPower_hall (f : Power → Power) (s : State) : (s.onPower f).hall = s.hall := rfl
@[simp] theorem State.onPower_floor (f : Power → Power) (s : State) : (s.onPower f).floor = s.floor := rfl
@[simp] theorem State.onPower_rem (f : Power → Power) (s : State) : (s.onPower f).rem = s.rem := rfl
@[simp] theorem State.onPower_panel (f : Power → Power) (s : State) : (s.onPower f).panel = s.panel := rfl
@[simp] theorem State.onPower_power (f : Power → Power) (s : State) : (s.onPower f).power = f s.power := rfl
@[simp] theorem State.onPower_display (f : Power → Power) (s : State) : (s.onPower f).display = s.display := rfl

@[simp] theorem State.onDisplay_now (f : Display → Display) (s : State) : (s.onDisplay f).now = s.now := rfl
@[simp] theorem State.onDisplay_pending (f : Display → Display) (s : State) : (s.onDisplay f).pending = s.pending := rfl
@[simp] theorem State.onDisplay_straps (f : Display → Display) (s : State) : (s.onDisplay f).straps = s.straps := rfl
@[simp] theorem State.onDisplay_link (f : Display → Display) (s : State) : (s.onDisplay f).link = s.link := rfl
@[simp] theorem State.onDisplay_seq (f : Display → Display) (s : State) : (s.onDisplay f).seq = s.seq := rfl
@[simp] theorem State.onDisplay_store (f : Display → Display) (s : State) : (s.onDisplay f).store = s.store := rfl
@[simp] theorem State.onDisplay_speech (f : Display → Display) (s : State) : (s.onDisplay f).speech = s.speech := rfl
@[simp] theorem State.onDisplay_tone (f : Display → Display) (s : State) : (s.onDisplay f).tone = s.tone := rfl
@[simp] theorem State.onDisplay_level (f : Display → Display) (s : State) : (s.onDisplay f).level = s.level := rfl
@[simp] theorem State.onDisplay_hall (f : Display → Display) (s : State) : (s.onDisplay f).hall = s.hall := rfl
@[simp] theorem State.onDisplay_floor (f : Display → Display) (s : State) : (s.onDisplay f).floor = s.floor := rfl
@[simp] theorem State.onDisplay_rem (f : Display → Display) (s : State) : (s.onDisplay f).rem = s.rem := rfl
@[simp] theorem State.onDisplay_panel (f : Display → Display) (s : State) : (s.onDisplay f).panel = s.panel := rfl
@[simp] theorem State.onDisplay_power (f : Display → Display) (s : State) : (s.onDisplay f).power = s.power := rfl
@[simp] theorem State.onDisplay_display (f : Display → Display) (s : State) : (s.onDisplay f).display = f s.display := rfl

@[simp] theorem State.setSpeech_now (x : Speech) (s : State) : (s.setSpeech x).now = s.now := rfl
@[simp] theorem State.setSpeech_pending (x : Speech) (s : State) : (s.setSpeech x).pending = s.pending := rfl
@[simp] theorem State.setSpeech_straps (x : Speech) (s : State) : (s.setSpeech x).straps = s.straps := rfl
@[simp] theorem State.setSpeech_link (x : Speech) (s : State) : (s.setSpeech x).link = s.link := rfl
@[simp] theorem State.setSpeech_seq (x : Speech) (s : State) : (s.setSpeech x).seq = s.seq := rfl
@[simp] theorem State.setSpeech_store (x : Speech) (s : State) : (s.setSpeech x).store = s.store := rfl
@[simp] theorem State.setSpeech_speech (x : Speech) (s : State) : (s.setSpeech x).speech = x := rfl
@[simp] theorem State.setSpeech_tone (x : Speech) (s : State) : (s.setSpeech x).tone = s.tone := rfl
@[simp] theorem State.setSpeech_level (x : Speech) (s : State) : (s.setSpeech x).level = s.level := rfl
@[simp] theorem State.setSpeech_hall (x : Speech) (s : State) : (s.setSpeech x).hall = s.hall := rfl
@[simp] theorem State.setSpeech_floor (x : Speech) (s : State) : (s.setSpeech x).floor = s.floor := rfl
@[simp] theorem State.setSpeech_rem (x : Speech) (s : State) : (s.setSpeech x).rem = s.rem := rfl
@[simp] theorem State.setSpeech_panel (x : Speech) (s : State) : (s.setSpeech x).panel = s.panel := rfl
@[simp] theorem State.setSpeech_power (x : Speech) (s : State) : (s.setSpeech x).power = s.power := rfl
@[simp] theorem State.setSpeech_display (x : Speech) (s : State) : (s.setSpeech x).display = s.display := rfl

@[simp] theorem State.onOwn_now (f : OwnFloor → OwnFloor) (s : State) : (s.onOwn f).now = s.now := rfl
@[simp] theorem State.onOwn_pending (f : OwnFloor → OwnFloor) (s : State) : (s.onOwn f).pending = s.pending := rfl
@[simp] theorem State.onOwn_straps (f : OwnFloor → OwnFloor) (s : State) : (s.onOwn f).straps = s.straps := rfl
@[simp] theorem State.onOwn_link (f : OwnFloor → OwnFloor) (s : State) : (s.onOwn f).link = s.link := rfl
@[simp] theorem State.onOwn_seq (f : OwnFloor → OwnFloor) (s : State) : (s.onOwn f).seq = s.seq := rfl
@[simp] theorem State.onOwn_store (f : OwnFloor → OwnFloor) (s : State) : (s.onOwn f).store = s.store := rfl
@[simp] theorem State.onOwn_speech (f : OwnFloor → OwnFloor) (s : State) : (s.onOwn f).speech = s.speech := rfl
@[simp] theorem State.onOwn_tone (f : OwnFloor → OwnFloor) (s : State) : (s.onOwn f).tone = s.tone := rfl
@[simp] theorem State.onOwn_level (f : OwnFloor → OwnFloor) (s : State) : (s.onOwn f).level = s.level := rfl
@[simp] theorem State.onOwn_hall (f : OwnFloor → OwnFloor) (s : State) : (s.onOwn f).hall = s.hall := rfl
@[simp] theorem State.onOwn_floor (f : OwnFloor → OwnFloor) (s : State) : (s.onOwn f).floor = { s.floor with own := f s.floor.own } := rfl
@[simp] theorem State.onOwn_rem (f : OwnFloor → OwnFloor) (s : State) : (s.onOwn f).rem = s.rem := rfl
@[simp] theorem State.onOwn_panel (f : OwnFloor → OwnFloor) (s : State) : (s.onOwn f).panel = s.panel := rfl
@[simp] theorem State.onOwn_power (f : OwnFloor → OwnFloor) (s : State) : (s.onOwn f).power = s.power := rfl
@[simp] theorem State.onOwn_display (f : OwnFloor → OwnFloor) (s : State) : (s.onOwn f).display = s.display := rfl

@[simp] theorem State.arrive_now (t : Nat) (s : State) : (s.arrive t).now = s.instant t := rfl
@[simp] theorem State.arrive_pending (t : Nat) (s : State) : (s.arrive t).pending = s.pending := rfl
@[simp] theorem State.arrive_straps (t : Nat) (s : State) : (s.arrive t).straps = s.straps := rfl
@[simp] theorem State.arrive_link (t : Nat) (s : State) : (s.arrive t).link = s.link := rfl
@[simp] theorem State.arrive_seq (t : Nat) (s : State) : (s.arrive t).seq = s.seq := rfl
@[simp] theorem State.arrive_store (t : Nat) (s : State) : (s.arrive t).store = s.store := rfl
@[simp] theorem State.arrive_speech (t : Nat) (s : State) : (s.arrive t).speech = s.speech := rfl
@[simp] theorem State.arrive_tone (t : Nat) (s : State) : (s.arrive t).tone = s.tone := rfl
@[simp] theorem State.arrive_level (t : Nat) (s : State) : (s.arrive t).level = s.level := rfl
@[simp] theorem State.arrive_hall (t : Nat) (s : State) : (s.arrive t).hall = s.hall := rfl
@[simp] theorem State.arrive_floor (t : Nat) (s : State) : (s.arrive t).floor = s.floor := rfl
@[simp] theorem State.arrive_rem (t : Nat) (s : State) : (s.arrive t).rem = s.rem := rfl
@[simp] theorem State.arrive_panel (t : Nat) (s : State) : (s.arrive t).panel = s.panel := rfl
@[simp] theorem State.arrive_power (t : Nat) (s : State) : (s.arrive t).power = s.power := rfl
@[simp] theorem State.arrive_display (t : Nat) (s : State) : (s.arrive t).display = s.display := rfl

@[simp] theorem State.withPending_now (s : State) (q : List Instr) : (s.withPending q).now = s.now := rfl
@[simp] theorem State.withPending_pending (s : State) (q : List Instr) : (s.withPending q).pending = q := rfl
@[simp] theorem State.withPending_straps (s : State) (q : List Instr) : (s.withPending q).straps = s.straps := rfl
@[simp] theorem State.withPending_link (s : State) (q : List Instr) : (s.withPending q).link = s.link := rfl
@[simp] theorem State.withPending_seq (s : State) (q : List Instr) : (s.withPending q).seq = s.seq := rfl
@[simp] theorem State.withPending_store (s : State) (q : List Instr) : (s.withPending q).store = s.store := rfl
@[simp] theorem State.withPending_speech (s : State) (q : List Instr) : (s.withPending q).speech = s.speech := rfl
@[simp] theorem State.withPending_tone (s : State) (q : List Instr) : (s.withPending q).tone = s.tone := rfl
@[simp] theorem State.withPending_level (s : State) (q : List Instr) : (s.withPending q).level = s.level := rfl
@[simp] theorem State.withPending_hall (s : State) (q : List Instr) : (s.withPending q).hall = s.hall := rfl
@[simp] theorem State.withPending_floor (s : State) (q : List Instr) : (s.withPending q).floor = s.floor := rfl
@[simp] theorem State.withPending_rem (s : State) (q : List Instr) : (s.withPending q).rem = s.rem := rfl
@[simp] theorem State.withPending_panel (s : State) (q : List Instr) : (s.withPending q).panel = s.panel := rfl
@[simp] theorem State.withPending_power (s : State) (q : List Instr) : (s.withPending q).power = s.power := rfl
@[simp] theorem State.withPending_display (s : State) (q : List Instr) : (s.withPending q).display = s.display := rfl

end Sys2Proof.Machine
end

