-- ==== Sys2Proof/Laws/Frame.lean ====
section
/-! SUPPORT. What no operation moves: the timebase, the commands that wait, the straps and the flash. One lemma for each
operation; they are what a statement about every command cites. -/

namespace Sys2Proof.Machine

open Sys2Proof

/-- What only the environment changes: the timebase, the waiting commands, the straps, the flash. -/
def State.env (s : State) : Nat × List Instr × Straps × Flash := (s.now, s.pending, s.straps, s.store.flash)

@[simp] theorem State.onLink_env (f : CueLink → CueLink) (s : State) : (s.onLink f).env = s.env := rfl
@[simp] theorem State.onSeq_env (f : Sequencer → Sequencer) (s : State) : (s.onSeq f).env = s.env := rfl
@[simp] theorem State.onTone_env (f : ToneUnit → ToneUnit) (s : State) : (s.onTone f).env = s.env := rfl
@[simp] theorem State.onLevel_env (f : LevelUnit → LevelUnit) (s : State) : (s.onLevel f).env = s.env := rfl
@[simp] theorem State.onHall_env (f : HallPort → HallPort) (s : State) : (s.onHall f).env = s.env := rfl
@[simp] theorem State.onFloor_env (f : FloorUnit → FloorUnit) (s : State) : (s.onFloor f).env = s.env := rfl
@[simp] theorem State.onOwn_env (f : OwnFloor → OwnFloor) (s : State) : (s.onOwn f).env = s.env := rfl
@[simp] theorem State.onRem_env (f : ReminderUnit → ReminderUnit) (s : State) : (s.onRem f).env = s.env := rfl
@[simp] theorem State.onPanel_env (f : Panel → Panel) (s : State) : (s.onPanel f).env = s.env := rfl
@[simp] theorem State.onPower_env (f : Power → Power) (s : State) : (s.onPower f).env = s.env := rfl
@[simp] theorem State.onDisplay_env (f : Display → Display) (s : State) : (s.onDisplay f).env = s.env := rfl
@[simp] theorem State.setSpeech_env (f : Speech) (s : State) : (s.setSpeech f).env = s.env := rfl

@[simp] theorem PhraseStore.checked_flash (now : Nat) (p : PhraseStore) : (p.checked now).flash = p.flash := by
  unfold PhraseStore.checked; split <;> rfl

@[simp] theorem report_env (r : Report) (s : State) : (report r s).env = s.env := by
  unfold report
  first | rfl | (simp; done) | ((repeat' split) <;> simp <;> done) | (dsimp only; (repeat' split) <;> simp)

@[simp] theorem reportAll_env (rs : List Report) (s : State) : (reportAll rs s).env = s.env := by
  unfold reportAll
  induction rs generalizing s with
  | nil => rfl
  | cons r rs ih => rw [List.foldl_cons, ih]; simp

@[simp] theorem reportDone_env (origin : Origin) (tag : Nat) (outcome : DoneOutcome) (s : State) : (reportDone origin tag outcome s).env = s.env := by
  unfold reportDone
  first | rfl | (simp; done) | ((repeat' split) <;> simp <;> done) | (dsimp only; (repeat' split) <;> simp)

@[simp] theorem refuse_env (type : Byte) (tag : Nat) (reason : Reason) (s : State) : (refuse type tag reason s).env = s.env := by
  unfold refuse
  first | rfl | (simp; done) | ((repeat' split) <;> simp <;> done) | (dsimp only; (repeat' split) <;> simp)

@[simp] theorem latch_env (f : Latches → Latches) (s : State) : (latch f s).env = s.env := by
  unfold latch
  first | rfl | (simp; done) | ((repeat' split) <;> simp <;> done) | (dsimp only; (repeat' split) <;> simp)

@[simp] theorem readFailed_env (n : Nat) (s : State) : (readFailed n s).env = s.env := rfl

@[simp] theorem countComposition_env (c : Composed) (s : State) : (countComposition c s).env = s.env := rfl

@[simp] theorem holdSampling_env (s : State) : (holdSampling s).env = s.env := by
  unfold holdSampling
  first | rfl | (simp; done) | ((repeat' split) <;> simp <;> done) | (dsimp only; (repeat' split) <;> simp)

@[simp] theorem playChime_env (c : Chime) (s : State) : (playChime c s).env = s.env := by
  unfold playChime
  first | rfl | (simp; done) | ((repeat' split) <;> simp <;> done) | (dsimp only; (repeat' split) <;> simp)

@[simp] theorem awaitChime_env (c : Chime) (s : State) : (awaitChime c s).env = s.env := by
  unfold awaitChime
  first | rfl | (simp; done) | ((repeat' split) <;> simp <;> done) | (dsimp only; (repeat' split) <;> simp)

@[simp] theorem stopChime_env (s : State) : (stopChime s).env = s.env := by
  unfold stopChime
  first | rfl | (simp; done) | ((repeat' split) <;> simp <;> done) | (dsimp only; (repeat' split) <;> simp)

@[simp] theorem askClick_env (vs : Nat) (s : State) : (askClick vs s).env = s.env := by
  unfold askClick
  first | rfl | (simp; done) | ((repeat' split) <;> simp <;> done) | (dsimp only; (repeat' split) <;> simp)

@[simp] theorem postText_env (text : Option (List Byte)) (cls : Cls) (s : State) : (postText text cls s).env = s.env := by
  unfold postText
  first | rfl | (simp; done) | ((repeat' split) <;> simp <;> done) | (dsimp only; (repeat' split) <;> simp)

@[simp] theorem removeText_env (s : State) : (removeText s).env = s.env := by
  unfold removeText
  first | rfl | (simp; done) | ((repeat' split) <;> simp <;> done) | (dsimp only; (repeat' split) <;> simp)

@[simp] theorem askMaskedBlink_env (s : State) : (askMaskedBlink s).env = s.env := by
  unfold askMaskedBlink
  first | rfl | (simp; done) | ((repeat' split) <;> simp <;> done) | (dsimp only; (repeat' split) <;> simp)

@[simp] theorem postEstimate_env (s : State) : (postEstimate s).env = s.env := by
  unfold postEstimate
  first | rfl | (simp; done) | ((repeat' split) <;> simp <;> done) | (dsimp only; (repeat' split) <;> simp)

@[simp] theorem postDecrement_env (s : State) : (postDecrement s).env = s.env := by
  unfold postDecrement
  first | rfl | (simp; done) | ((repeat' split) <;> simp <;> done) | (dsimp only; (repeat' split) <;> simp)

@[simp] theorem lookUpPhase_env (s : State) : (lookUpPhase s).env = s.env := by
  unfold lookUpPhase
  first | rfl | (simp; done) | ((repeat' split) <;> simp <;> done) | (dsimp only; (repeat' split) <;> simp)

@[simp] theorem setMode_env (m : PowerMode) (s : State) : (setMode m s).env = s.env := by
  unfold setMode
  first | rfl | (simp; done) | ((repeat' split) <;> simp <;> done) | (dsimp only; (repeat' split) <;> simp)

@[simp] theorem activity_env (s : State) : (activity s).env = s.env := by
  unfold activity
  first | rfl | (simp; done) | ((repeat' split) <;> simp <;> done) | (dsimp only; (repeat' split) <;> simp)

@[simp] theorem holdTimers_env (s : State) : (holdTimers s).env = s.env := by
  unfold holdTimers
  first | rfl | (simp; done) | ((repeat' split) <;> simp <;> done) | (dsimp only; (repeat' split) <;> simp)

@[simp] theorem endAnnouncing_env (s : State) : (endAnnouncing s).env = s.env := by
  unfold endAnnouncing
  first | rfl | (simp; done) | ((repeat' split) <;> simp <;> done) | (dsimp only; (repeat' split) <;> simp)

@[simp] theorem startCheck_env (powerOn : Bool) (s : State) : (startCheck powerOn s).env = s.env := by
  unfold startCheck
  first | rfl | (simp; done) | ((repeat' split) <;> simp <;> done) | (dsimp only; (repeat' split) <;> simp)

@[simp] theorem endCheck_env (powerOn : Bool) (result : SpeakerResult) (steps : Nat) (s : State) : (endCheck powerOn result steps s).env = s.env := by
  unfold endCheck
  first | rfl | (simp; done) | ((repeat' split) <;> simp <;> done) | (dsimp only; (repeat' split) <;> simp)

@[simp] theorem sayHello_env (s : State) : (sayHello s).env = s.env := by
  unfold sayHello
  first | rfl | (simp; done) | ((repeat' split) <;> simp <;> done) | (dsimp only; (repeat' split) <;> simp)

@[simp] theorem helloIfChecked_env (s : State) : (helloIfChecked s).env = s.env := by
  unfold helloIfChecked
  first | rfl | (simp; done) | ((repeat' split) <;> simp <;> done) | (dsimp only; (repeat' split) <;> simp)

@[simp] theorem changeEntry_env (tag : Nat) (f : Entry → Entry) (s : State) : (changeEntry tag f s).env = s.env := by
  unfold changeEntry
  first | rfl | (simp; done) | ((repeat' split) <;> simp <;> done) | (dsimp only; (repeat' split) <;> simp)

@[simp] theorem dropRepeat_env (tag : Nat) (s : State) : (dropRepeat tag s).env = s.env := by
  unfold dropRepeat
  first | rfl | (simp; done) | ((repeat' split) <;> simp <;> done) | (dsimp only; (repeat' split) <;> simp)

@[simp] theorem dropEntry_env (tag : Nat) (s : State) : (dropEntry tag s).env = s.env := by
  unfold dropEntry
  first | rfl | (simp; done) | ((repeat' split) <;> simp <;> done) | (dsimp only; (repeat' split) <;> simp)

@[simp] theorem joinQueue_env (e : Entry) (s : State) : (joinQueue e s).env = s.env := by
  unfold joinQueue
  first | rfl | (simp; done) | ((repeat' split) <;> simp <;> done) | (dsimp only; (repeat' split) <;> simp)

@[simp] theorem countDrop_env (s : State) : (countDrop s).env = s.env := by
  unfold countDrop
  first | rfl | (simp; done) | ((repeat' split) <;> simp <;> done) | (dsimp only; (repeat' split) <;> simp)

@[simp] theorem evict_env (v : Entry) (s : State) : (evict v s).env = s.env := by
  unfold evict
  first | rfl | (simp; done) | ((repeat' split) <;> simp <;> done) | (dsimp only; (repeat' split) <;> simp)

@[simp] theorem changeService_env (f : Service → Service) (s : State) : (changeService f s).env = s.env := by
  unfold changeService
  first | rfl | (simp; done) | ((repeat' split) <;> simp <;> done) | (dsimp only; (repeat' split) <;> simp)

@[simp] theorem emptySlot_env (s : State) : (emptySlot s).env = s.env := by
  unfold emptySlot
  first | rfl | (simp; done) | ((repeat' split) <;> simp <;> done) | (dsimp only; (repeat' split) <;> simp)

@[simp] theorem returnToQueue_env (s : State) : (returnToQueue s).env = s.env := by
  unfold returnToQueue
  first | rfl | (simp; done) | ((repeat' split) <;> simp <;> done) | (dsimp only; (repeat' split) <;> simp)

@[simp] theorem applyLevel_env (r : LevelResult) (s : State) : (applyLevel r s).env = s.env := by
  unfold applyLevel
  first | rfl | (simp; done) | ((repeat' split) <;> simp <;> done) | (dsimp only; (repeat' split) <;> simp)

@[simp] theorem startItem_env (items : List ScriptItem) (i : Nat) (s : State) : (startItem items i s).env = s.env := by
  unfold startItem
  first | rfl | (simp; done) | ((repeat' split) <;> simp <;> done) | (dsimp only; (repeat' split) <;> simp)

@[simp] theorem beginOutput_env (e : Entry) (route : Route) (script : Script) (r : LevelResult) (s : State) : (beginOutput e route script r s).env = s.env := by
  unfold beginOutput
  first | rfl | (simp; done) | ((repeat' split) <;> simp <;> done) | (dsimp only; (repeat' split) <;> simp)

@[simp] theorem beginWarmUp_env (e : Entry) (route : Route) (script : Script) (r : LevelResult) (s : State) : (beginWarmUp e route script r s).env = s.env := by
  unfold beginWarmUp
  first | rfl | (simp; done) | ((repeat' split) <;> simp <;> done) | (dsimp only; (repeat' split) <;> simp)

@[simp] theorem startAudible_env (tag : Nat) (route : Route) (script : Script) (s : State) : (startAudible tag route script s).env = s.env := by
  unfold startAudible
  first | rfl | (simp; done) | ((repeat' split) <;> simp <;> done) | (dsimp only; (repeat' split) <;> simp)

@[simp] theorem startSilent_env (tag : Nat) (script : Script) (s : State) : (startSilent tag script s).env = s.env := by
  unfold startSilent
  first | rfl | (simp; done) | ((repeat' split) <;> simp <;> done) | (dsimp only; (repeat' split) <;> simp)

@[simp] theorem seqConfirmed_env (s : State) : (seqConfirmed s).env = s.env := by
  unfold seqConfirmed
  first | rfl | (simp; done) | ((repeat' split) <;> simp <;> done) | (dsimp only; (repeat' split) <;> simp)

@[simp] theorem handFrame_env (f : TxFrame) (s : State) : (handFrame f s).env = s.env := by
  unfold handFrame
  first | rfl | (simp; done) | ((repeat' split) <;> simp <;> done) | (dsimp only; (repeat' split) <;> simp)

@[simp] theorem handPresence_env (k : PresenceKind) (s : State) : (handPresence k s).env = s.env := by
  unfold handPresence
  first | rfl | (simp; done) | ((repeat' split) <;> simp <;> done) | (dsimp only; (repeat' split) <;> simp)

@[simp] theorem changePeer_env (station : Nat) (f : Peer → Peer) (s : State) : (changePeer station f s).env = s.env := by
  unfold changePeer
  first | rfl | (simp; done) | ((repeat' split) <;> simp <;> done) | (dsimp only; (repeat' split) <;> simp)

@[simp] theorem changeOwnClaim_env (f : LiveClaim → LiveClaim) (s : State) : (changeOwnClaim f s).env = s.env := by
  unfold changeOwnClaim
  first | rfl | (simp; done) | ((repeat' split) <;> simp <;> done) | (dsimp only; (repeat' split) <;> simp)

@[simp] theorem clearOwnClaim_env (s : State) : (clearOwnClaim s).env = s.env := by
  unfold clearOwnClaim
  first | rfl | (simp; done) | ((repeat' split) <;> simp <;> done) | (dsimp only; (repeat' split) <;> simp)

@[simp] theorem releaseWithdrawn_env (seq : Nat) (s : State) : (releaseWithdrawn seq s).env = s.env := by
  unfold releaseWithdrawn
  first | rfl | (simp; done) | ((repeat' split) <;> simp <;> done) | (dsimp only; (repeat' split) <;> simp)

@[simp] theorem claimLost_env (s : State) : (claimLost s).env = s.env := by
  unfold claimLost
  first | rfl | (simp; done) | ((repeat' split) <;> simp <;> done) | (dsimp only; (repeat' split) <;> simp)

@[simp] theorem confirmOwn_env (s : State) : (confirmOwn s).env = s.env := by
  unfold confirmOwn
  first | rfl | (simp; done) | ((repeat' split) <;> simp <;> done) | (dsimp only; (repeat' split) <;> simp)

@[simp] theorem confirmClaim_env (station : Nat) (s : State) : (confirmClaim station s).env = s.env := by
  unfold confirmClaim
  first | rfl | (simp; done) | ((repeat' split) <;> simp <;> done) | (dsimp only; (repeat' split) <;> simp)

@[simp] theorem confirmTop_env (z : Nat) (s : State) : (confirmTop z s).env = s.env := by
  unfold confirmTop
  first | rfl | (simp; done) | ((repeat' split) <;> simp <;> done) | (dsimp only; (repeat' split) <;> simp)

@[simp] theorem decideLoss_env (z : Nat) (s : State) : (decideLoss z s).env = s.env := by
  unfold decideLoss
  first | rfl | (simp; done) | ((repeat' split) <;> simp <;> done) | (dsimp only; (repeat' split) <;> simp)

@[simp] theorem examine_env (z : Nat) (s : State) : (examine z s).env = s.env := by
  unfold examine
  first | rfl | (simp; done) | ((repeat' split) <;> simp <;> done) | (dsimp only; (repeat' split) <;> simp)

@[simp] theorem removePeerClaim_env (station : Nat) (s : State) : (removePeerClaim station s).env = s.env := by
  unfold removePeerClaim
  first | rfl | (simp; done) | ((repeat' split) <;> simp <;> done) | (dsimp only; (repeat' split) <;> simp)

@[simp] theorem removeOwnClaim_env (s : State) : (removeOwnClaim s).env = s.env := by
  unfold removeOwnClaim
  first | rfl | (simp; done) | ((repeat' split) <;> simp <;> done) | (dsimp only; (repeat' split) <;> simp)

@[simp] theorem preempt_env (z : Nat) (cls : Cls) (heard : Nat) (s : State) : (preempt z cls heard s).env = s.env := by
  unfold preempt
  first | rfl | (simp; done) | ((repeat' split) <;> simp <;> done) | (dsimp only; (repeat' split) <;> simp)

@[simp] theorem requestClaim_env (cls : Cls) (arrival length : Nat) (s : State) : (requestClaim cls arrival length s).env = s.env := by
  unfold requestClaim
  first | rfl | (simp; done) | ((repeat' split) <;> simp <;> done) | (dsimp only; (repeat' split) <;> simp)

@[simp] theorem promotePending_env (s : State) : (promotePending s).env = s.env := by
  unfold promotePending
  first | rfl | (simp; done) | ((repeat' split) <;> simp <;> done) | (dsimp only; (repeat' split) <;> simp)

@[simp] theorem claimUnsent_env (s : State) : (claimUnsent s).env = s.env := by
  unfold claimUnsent
  first | rfl | (simp; done) | ((repeat' split) <;> simp <;> done) | (dsimp only; (repeat' split) <;> simp)

@[simp] theorem takeBack_env (why : TakenBack) (s : State) : (takeBack why s).env = s.env := by
  unfold takeBack
  first | rfl | (simp; done) | ((repeat' split) <;> simp <;> done) | (dsimp only; (repeat' split) <;> simp)

@[simp] theorem withdraw_env (s : State) : (withdraw s).env = s.env := by
  unfold withdraw
  first | rfl | (simp; done) | ((repeat' split) <;> simp <;> done) | (dsimp only; (repeat' split) <;> simp)

@[simp] theorem releaseFloor_env (outcome : ReleaseOutcome) (s : State) : (releaseFloor outcome s).env = s.env := by
  unfold releaseFloor
  first | rfl | (simp; done) | ((repeat' split) <;> simp <;> done) | (dsimp only; (repeat' split) <;> simp)

@[simp] theorem ownClaimHeard_env (s : State) : (ownClaimHeard s).env = s.env := by
  unfold ownClaimHeard
  first | rfl | (simp; done) | ((repeat' split) <;> simp <;> done) | (dsimp only; (repeat' split) <;> simp)

@[simp] theorem ownReleaseHeard_env (seq : Nat) (s : State) : (ownReleaseHeard seq s).env = s.env := by
  unfold ownReleaseHeard
  first | rfl | (simp; done) | ((repeat' split) <;> simp <;> done) | (dsimp only; (repeat' split) <;> simp)

@[simp] theorem ownClaimExpired_env (s : State) : (ownClaimExpired s).env = s.env := by
  unfold ownClaimExpired
  first | rfl | (simp; done) | ((repeat' split) <;> simp <;> done) | (dsimp only; (repeat' split) <;> simp)

@[simp] theorem floorFault_env (s : State) : (floorFault s).env = s.env := by
  unfold floorFault
  first | rfl | (simp; done) | ((repeat' split) <;> simp <;> done) | (dsimp only; (repeat' split) <;> simp)

@[simp] theorem hearPeer_env (station zone : Nat) (presence : Presence) (s : State) : (hearPeer station zone presence s).env = s.env := by
  unfold hearPeer
  first | rfl | (simp; done) | ((repeat' split) <;> simp <;> done) | (dsimp only; (repeat' split) <;> simp)

@[simp] theorem takeBackIfOutranked_env (zone : Nat) (c : LiveClaim) (station : Nat) (s : State) : (takeBackIfOutranked zone c station s).env = s.env := by
  unfold takeBackIfOutranked
  first | rfl | (simp; done) | ((repeat' split) <;> simp <;> done) | (dsimp only; (repeat' split) <;> simp)

@[simp] theorem hearClaim_env (f : ClaimFrame) (s : State) : (hearClaim f s).env = s.env := by
  unfold hearClaim
  first | rfl | (simp; done) | ((repeat' split) <;> simp <;> done) | (dsimp only; (repeat' split) <;> simp)

@[simp] theorem hearRelease_env (f : ReleaseFrame) (s : State) : (hearRelease f s).env = s.env := by
  unfold hearRelease
  first | rfl | (simp; done) | ((repeat' split) <;> simp <;> done) | (dsimp only; (repeat' split) <;> simp)

@[simp] theorem testOverlap_env (f : PresenceFrame) (s : State) : (testOverlap f s).env = s.env := by
  unfold testOverlap
  first | rfl | (simp; done) | ((repeat' split) <;> simp <;> done) | (dsimp only; (repeat' split) <;> simp)

@[simp] theorem applyPresence_env (f : PresenceFrame) (s : State) : (applyPresence f s).env = s.env := by
  unfold applyPresence
  first | rfl | (simp; done) | ((repeat' split) <;> simp <;> done) | (dsimp only; (repeat' split) <;> simp)

@[simp] theorem hearPresence_env (f : PresenceFrame) (s : State) : (hearPresence f s).env = s.env := by
  unfold hearPresence
  first | rfl | (simp; done) | ((repeat' split) <;> simp <;> done) | (dsimp only; (repeat' split) <;> simp)

@[simp] theorem peerBecomesLost_env (station : Nat) (s : State) : (peerBecomesLost station s).env = s.env := by
  unfold peerBecomesLost
  first | rfl | (simp; done) | ((repeat' split) <;> simp <;> done) | (dsimp only; (repeat' split) <;> simp)

@[simp] theorem clearView_env (s : State) : (clearView s).env = s.env := by
  unfold clearView
  first | rfl | (simp; done) | ((repeat' split) <;> simp <;> done) | (dsimp only; (repeat' split) <;> simp)

@[simp] theorem fillSlot_env (tag : Nat) (kind : Kind) (c : Composed) (s : State) : (fillSlot tag kind c s).env = s.env := by
  unfold fillSlot
  first | rfl | (simp; done) | ((repeat' split) <;> simp <;> done) | (dsimp only; (repeat' split) <;> simp)

@[simp] theorem takeEntry_env (e : Entry) (s : State) : (takeEntry e s).env = s.env := by
  unfold takeEntry
  first | rfl | (simp; done) | ((repeat' split) <;> simp <;> done) | (dsimp only; (repeat' split) <;> simp)

@[simp] theorem select_env (s : State) : (select s).env = s.env := by
  unfold select
  first | rfl | (simp; done) | ((repeat' split) <;> simp <;> done) | (dsimp only; (repeat' split) <;> simp)

@[simp] theorem startAttempt_env (s : State) : (startAttempt s).env = s.env := by
  unfold startAttempt
  first | rfl | (simp; done) | ((repeat' split) <;> simp <;> done) | (dsimp only; (repeat' split) <;> simp)

@[simp] theorem startWaitingRecovery_env (s : State) : (startWaitingRecovery s).env = s.env := by
  unfold startWaitingRecovery
  first | rfl | (simp; done) | ((repeat' split) <;> simp <;> done) | (dsimp only; (repeat' split) <;> simp)

@[simp] theorem conclude_env (s : State) : (conclude s).env = s.env := by
  unfold conclude
  first | rfl | (simp; done) | ((repeat' split) <;> simp <;> done) | (dsimp only; (repeat' split) <;> simp)

@[simp] theorem bucketSteps_env (tag : Nat) (s : State) : (bucketSteps tag s).env = s.env := by
  unfold bucketSteps
  first | rfl | (simp; done) | ((repeat' split) <;> simp <;> done) | (dsimp only; (repeat' split) <;> simp)

@[simp] theorem leaveWith_env (e : Entry) (outcome : DoneOutcome) (s : State) : (leaveWith e outcome s).env = s.env := by
  unfold leaveWith
  first | rfl | (simp; done) | ((repeat' split) <;> simp <;> done) | (dsimp only; (repeat' split) <;> simp)

@[simp] theorem stopRemoved_env (e : Entry) (outcome : DoneOutcome) (s : State) : (stopRemoved e outcome s).env = s.env := by
  unfold stopRemoved
  first | rfl | (simp; done) | ((repeat' split) <;> simp <;> done) | (dsimp only; (repeat' split) <;> simp)

@[simp] theorem cutEntry_env (e : Entry) (s : State) : (cutEntry e s).env = s.env := by
  unfold cutEntry
  first | rfl | (simp; done) | ((repeat' split) <;> simp <;> done) | (dsimp only; (repeat' split) <;> simp)

theorem atBoundary_env (e : Entry) (v : Service) (g : LevelResult → State → State)
    (h : ∀ r st, (g r st).env = st.env) (s : State) : (atBoundary e v g s).env = s.env := by
  unfold atBoundary
  (repeat' split) <;> simp [h]

@[simp] theorem dropAwaiting_env (tag : Nat) (s : State) : (dropAwaiting tag s).env = s.env := by
  unfold dropAwaiting
  first | rfl | (simp; done) | ((repeat' split) <;> simp <;> done) | (dsimp only; (repeat' split) <;> simp)

@[simp] theorem answerAwaiting_env (tag : Nat) (outcome : DoneOutcome) (s : State) : (answerAwaiting tag outcome s).env = s.env := by
  unfold answerAwaiting
  first | rfl | (simp; done) | ((repeat' split) <;> simp <;> done) | (dsimp only; (repeat' split) <;> simp)

@[simp] theorem makeAwaiting_env (e : Entry) (s : State) : (makeAwaiting e s).env = s.env := by
  unfold makeAwaiting
  first | rfl | (simp; done) | ((repeat' split) <;> simp <;> done) | (dsimp only; (repeat' split) <;> simp)

@[simp] theorem completeEntry_env (e : Entry) (s : State) : (completeEntry e s).env = s.env := by
  unfold completeEntry
  first | rfl | (simp; done) | ((repeat' split) <;> simp <;> done) | (dsimp only; (repeat' split) <;> simp)

@[simp] theorem endService_env (e : Entry) (v : Service) (s : State) : (endService e v s).env = s.env := by
  unfold endService
  first | rfl | (simp; done) | ((repeat' split) <;> simp <;> done) | (dsimp only; (repeat' split) <;> simp)

@[simp] theorem endSilent_env (e : Entry) (s : State) : (endSilent e s).env = s.env := by
  unfold endSilent
  first | rfl | (simp; done) | ((repeat' split) <;> simp <;> done) | (dsimp only; (repeat' split) <;> simp)

@[simp] theorem removeEntry_env (tag : Nat) (outcome : DoneOutcome) (s : State) : (removeEntry tag outcome s).env = s.env := by
  unfold removeEntry
  first | rfl | (simp; done) | ((repeat' split) <;> simp <;> done) | (dsimp only; (repeat' split) <;> simp)

@[simp] theorem expireEntry_env (tag : Nat) (s : State) : (expireEntry tag s).env = s.env := by
  unfold expireEntry
  first | rfl | (simp; done) | ((repeat' split) <;> simp <;> done) | (dsimp only; (repeat' split) <;> simp)

@[simp] theorem replaceEntry_env (c : PromptCue) (old : Entry) (s : State) : (replaceEntry c old s).env = s.env := by
  unfold replaceEntry
  first | rfl | (simp; done) | ((repeat' split) <;> simp <;> done) | (dsimp only; (repeat' split) <;> simp)

@[simp] theorem supersedeAwaiting_env (tag : Nat) (s : State) : (supersedeAwaiting tag s).env = s.env := by
  unfold supersedeAwaiting
  first | rfl | (simp; done) | ((repeat' split) <;> simp <;> done) | (dsimp only; (repeat' split) <;> simp)

@[simp] theorem Capacity.clear_env (c : Capacity) (s : State) : (Capacity.clear c s).env = s.env := by
  unfold Capacity.clear
  first | rfl | (simp; done) | ((repeat' split) <;> simp <;> done) | (dsimp only; (repeat' split) <;> simp)

@[simp] theorem newPrompt_env (c : PromptCue) (cap : Capacity) (s : State) : (newPrompt c cap s).env = s.env := by
  unfold newPrompt
  first | rfl | (simp; done) | ((repeat' split) <;> simp <;> done) | (dsimp only; (repeat' split) <;> simp)

@[simp] theorem internalPrompt_env (p : InternalPrompt) (s : State) : (internalPrompt p s).env = s.env := by
  unfold internalPrompt
  first | rfl | (simp; done) | ((repeat' split) <;> simp <;> done) | (dsimp only; (repeat' split) <;> simp)

@[simp] theorem makeRepeat_env (a : Awaiting) (cap : Capacity) (s : State) : (makeRepeat a cap s).env = s.env := by
  unfold makeRepeat
  first | rfl | (simp; done) | ((repeat' split) <;> simp <;> done) | (dsimp only; (repeat' split) <;> simp)

@[simp] theorem repeatFallsDue_env (a : Awaiting) (s : State) : (repeatFallsDue a s).env = s.env := by
  unfold repeatFallsDue
  first | rfl | (simp; done) | ((repeat' split) <;> simp <;> done) | (dsimp only; (repeat' split) <;> simp)

@[simp] theorem chimeEnds_env (s : State) : (chimeEnds s).env = s.env := by
  unfold chimeEnds
  dsimp only
  (repeat' split) <;> first | rfl | simp | (rw [atBoundary_env _ _ _ (by simp)]; simp)

@[simp] theorem itemEnds_env (s : State) : (itemEnds s).env = s.env := by
  unfold itemEnds
  (repeat' split) <;> first | rfl | simp | (rw [atBoundary_env _ _ _ (by simp)])

@[simp] theorem itemGapEnds_env (s : State) : (itemGapEnds s).env = s.env := by
  unfold itemGapEnds
  first | rfl | (simp; done) | ((repeat' split) <;> simp <;> done) | (dsimp only; (repeat' split) <;> simp)

@[simp] theorem silentServiceEnds_env (s : State) : (silentServiceEnds s).env = s.env := by
  unfold silentServiceEnds
  first | rfl | (simp; done) | ((repeat' split) <;> simp <;> done) | (dsimp only; (repeat' split) <;> simp)

@[simp] theorem phraseReadTimesOut_env (s : State) : (phraseReadTimesOut s).env = s.env := by
  unfold phraseReadTimesOut
  first | rfl | (simp; done) | ((repeat' split) <;> simp <;> done) | (dsimp only; (repeat' split) <;> simp)

@[simp] theorem warmUpEnds_env (s : State) : (warmUpEnds s).env = s.env := by
  unfold warmUpEnds
  first | rfl | (simp; done) | ((repeat' split) <;> simp <;> done) | (dsimp only; (repeat' split) <;> simp)

@[simp] theorem stopForFault_env (s : State) : (stopForFault s).env = s.env := by
  unfold stopForFault
  first | rfl | (simp; done) | ((repeat' split) <;> simp <;> done) | (dsimp only; (repeat' split) <;> simp)

@[simp] theorem speakerFails_env (kind : SpeakerFaultKind) (s : State) : (speakerFails kind s).env = s.env := by
  unfold speakerFails
  first | rfl | (simp; done) | ((repeat' split) <;> simp <;> done) | (dsimp only; (repeat' split) <;> simp)

@[simp] theorem fire_env (p : InternalPrompt) (s : State) : (fire p s).env = s.env := by
  unfold fire
  first | rfl | (simp; done) | ((repeat' split) <;> simp <;> done) | (dsimp only; (repeat' split) <;> simp)

@[simp] theorem crossMarks_env (old new : Nat) (s : State) : (crossMarks old new s).env = s.env := by
  unfold crossMarks
  first | rfl | (simp; done) | ((repeat' split) <;> simp <;> done) | (dsimp only; (repeat' split) <;> simp)

@[simp] theorem progressTaken_env (remaining : Nat) (running : Bool) (s : State) : (progressTaken remaining running s).env = s.env := by
  unfold progressTaken
  first | rfl | (simp; done) | ((repeat' split) <;> simp <;> done) | (dsimp only; (repeat' split) <;> simp)

@[simp] theorem moveSecond_env (s : State) : (moveSecond s).env = s.env := by
  unfold moveSecond
  first | rfl | (simp; done) | ((repeat' split) <;> simp <;> done) | (dsimp only; (repeat' split) <;> simp)

@[simp] theorem decrement_env (s : State) : (decrement s).env = s.env := by
  unfold decrement
  first | rfl | (simp; done) | ((repeat' split) <;> simp <;> done) | (dsimp only; (repeat' split) <;> simp)

@[simp] theorem setSlot_env (n : Nat) (r : Option SlotRecord) (s : State) : (setSlot n r s).env = s.env := by
  unfold setSlot
  first | rfl | (simp; done) | ((repeat' split) <;> simp <;> done) | (dsimp only; (repeat' split) <;> simp)

@[simp] theorem remindTaken_env (c : RemindCue) (s : State) : (remindTaken c s).env = s.env := by
  unfold remindTaken
  first | rfl | (simp; done) | ((repeat' split) <;> simp <;> done) | (dsimp only; (repeat' split) <;> simp)

@[simp] theorem slotFires_env (n : Nat) (s : State) : (slotFires n s).env = s.env := by
  unfold slotFires
  first | rfl | (simp; done) | ((repeat' split) <;> simp <;> done) | (dsimp only; (repeat' split) <;> simp)

@[simp] theorem restartIdleSlots_env (s : State) : (restartIdleSlots s).env = s.env := by
  unfold restartIdleSlots
  first | rfl | (simp; done) | ((repeat' split) <;> simp <;> done) | (dsimp only; (repeat' split) <;> simp)

@[simp] theorem clearSessionSlots_env (s : State) : (clearSessionSlots s).env = s.env := by
  unfold clearSessionSlots
  first | rfl | (simp; done) | ((repeat' split) <;> simp <;> done) | (dsimp only; (repeat' split) <;> simp)

@[simp] theorem toDefaults_env (s : State) : (toDefaults s).env = s.env := by
  unfold toDefaults
  first | rfl | (simp; done) | ((repeat' split) <;> simp <;> done) | (dsimp only; (repeat' split) <;> simp)

theorem foldl_env {α : Type} (f : State → α → State) (h : ∀ s a, (f s a).env = s.env) (xs : List α) (s : State) :
    (xs.foldl f s).env = s.env := by
  induction xs generalizing s with
  | nil => rfl
  | cons x xs ih => rw [List.foldl_cons, ih, h]

@[simp] theorem removeQueued_env (s : State) : (removeQueued s).env = s.env := foldl_env _ (by simp) _ _

@[simp] theorem removeServed_env (s : State) : (removeServed s).env = s.env := by
  unfold removeServed
  first | rfl | (simp; done) | ((repeat' split) <;> simp <;> done) | (dsimp only; (repeat' split) <;> simp)

@[simp] theorem clearAwaiting_env (s : State) : (clearAwaiting s).env = s.env := foldl_env _ (by simp) _ _

@[simp] theorem endSession_env (s : State) : (endSession s).env = s.env := by
  unfold endSession
  first | rfl | (simp; done) | ((repeat' split) <;> simp <;> done) | (dsimp only; (repeat' split) <;> simp)

@[simp] theorem beginSession_env (language : Option Nat) (s : State) : (beginSession language s).env = s.env := by
  unfold beginSession
  first | rfl | (simp; done) | ((repeat' split) <;> simp <;> done) | (dsimp only; (repeat' split) <;> simp)

@[simp] theorem sessionTaken_env (c : SessionCue) (s : State) : (sessionTaken c s).env = s.env := by
  unfold sessionTaken
  first | rfl | (simp; done) | ((repeat' split) <;> simp <;> done) | (dsimp only; (repeat' split) <;> simp)

@[simp] theorem actLang_env (long : Bool) (s : State) : (actLang long s).env = s.env := by
  unfold actLang
  first | rfl | (simp; done) | ((repeat' split) <;> simp <;> done) | (dsimp only; (repeat' split) <;> simp)

@[simp] theorem stepVolume_env (up : Bool) (s : State) : (stepVolume up s).env = s.env := by
  unfold stepVolume
  first | rfl | (simp; done) | ((repeat' split) <;> simp <;> done) | (dsimp only; (repeat' split) <;> simp)

@[simp] theorem actRepeat_env (s : State) : (actRepeat s).env = s.env := by
  unfold actRepeat
  first | rfl | (simp; done) | ((repeat' split) <;> simp <;> done) | (dsimp only; (repeat' split) <;> simp)

@[simp] theorem actHelp_env (s : State) : (actHelp s).env = s.env := by
  unfold actHelp
  first | rfl | (simp; done) | ((repeat' split) <;> simp <;> done) | (dsimp only; (repeat' split) <;> simp)

@[simp] theorem acknowledge_env (tag : Nat) (s : State) : (acknowledge tag s).env = s.env := by
  unfold acknowledge
  first | rfl | (simp; done) | ((repeat' split) <;> simp <;> done) | (dsimp only; (repeat' split) <;> simp)

@[simp] theorem actOk_env (s : State) : (actOk s).env = s.env := by
  unfold actOk
  first | rfl | (simp; done) | ((repeat' split) <;> simp <;> done) | (dsimp only; (repeat' split) <;> simp)

@[simp] theorem setKey_env (k : Key) (x : KeyState) (s : State) : (setKey k x s).env = s.env := by
  unfold setKey
  first | rfl | (simp; done) | ((repeat' split) <;> simp <;> done) | (dsimp only; (repeat' split) <;> simp)

@[simp] theorem setInput_env (k : Key) (down : Bool) (s : State) : (setInput k down s).env = s.env := by
  unfold setInput
  first | rfl | (simp; done) | ((repeat' split) <;> simp <;> done) | (dsimp only; (repeat' split) <;> simp)

@[simp] theorem pressAction_env (k : Key) (s : State) : (pressAction k s).env = s.env := by
  unfold pressAction
  first | rfl | (simp; done) | ((repeat' split) <;> simp <;> done) | (dsimp only; (repeat' split) <;> simp)

@[simp] theorem pressActivity_env (s : State) : (pressActivity s).env = s.env := by
  unfold pressActivity
  first | rfl | (simp; done) | ((repeat' split) <;> simp <;> done) | (dsimp only; (repeat' split) <;> simp)

@[simp] theorem pressKey_env (k : Key) (s : State) : (pressKey k s).env = s.env := by
  unfold pressKey
  first | rfl | (simp; done) | ((repeat' split) <;> simp <;> done) | (dsimp only; (repeat' split) <;> simp)

@[simp] theorem classifyPress_env (k : Key) (long : Bool) (s : State) : (classifyPress k long s).env = s.env := by
  unfold classifyPress
  first | rfl | (simp; done) | ((repeat' split) <;> simp <;> done) | (dsimp only; (repeat' split) <;> simp)

@[simp] theorem keyComesUp_env (k : Key) (s : State) : (keyComesUp k s).env = s.env := by
  unfold keyComesUp
  first | rfl | (simp; done) | ((repeat' split) <;> simp <;> done) | (dsimp only; (repeat' split) <;> simp)

@[simp] theorem releaseKey_env (k : Key) (s : State) : (releaseKey k s).env = s.env := by
  unfold releaseKey
  first | rfl | (simp; done) | ((repeat' split) <;> simp <;> done) | (dsimp only; (repeat' split) <;> simp)

@[simp] theorem inputWakes_env (k : Key) (s : State) : (inputWakes k s).env = s.env := by
  unfold inputWakes
  first | rfl | (simp; done) | ((repeat' split) <;> simp <;> done) | (dsimp only; (repeat' split) <;> simp)

@[simp] theorem holdKey_env (k : Key) (s : State) : (holdKey k s).env = s.env := by
  unfold holdKey
  first | rfl | (simp; done) | ((repeat' split) <;> simp <;> done) | (dsimp only; (repeat' split) <;> simp)

@[simp] theorem discardPartial_env (s : State) : (discardPartial s).env = s.env := by
  unfold discardPartial
  first | rfl | (simp; done) | ((repeat' split) <;> simp <;> done) | (dsimp only; (repeat' split) <;> simp)

@[simp] theorem enterSleep_env (s : State) : (enterSleep s).env = s.env := by
  unfold enterSleep
  first | rfl | (simp; done) | ((repeat' split) <;> simp <;> done) | (dsimp only; (repeat' split) <;> simp)

@[simp] theorem announcementEnds_env (s : State) : (announcementEnds s).env = s.env := by
  unfold announcementEnds
  first | rfl | (simp; done) | ((repeat' split) <;> simp <;> done) | (dsimp only; (repeat' split) <;> simp)

@[simp] theorem enterListenIn_env (s : State) : (enterListenIn s).env = s.env := by
  unfold enterListenIn
  first | rfl | (simp; done) | ((repeat' split) <;> simp <;> done) | (dsimp only; (repeat' split) <;> simp)

@[simp] theorem wakeHall_env (s : State) : (wakeHall s).env = s.env := by
  unfold wakeHall
  first | rfl | (simp; done) | ((repeat' split) <;> simp <;> done) | (dsimp only; (repeat' split) <;> simp)

@[simp] theorem wakeUp_env (s : State) : (wakeUp s).env = s.env := by
  unfold wakeUp
  first | rfl | (simp; done) | ((repeat' split) <;> simp <;> done) | (dsimp only; (repeat' split) <;> simp)

@[simp] theorem wakeIfAsleep_env (s : State) : (wakeIfAsleep s).env = s.env := by
  unfold wakeIfAsleep
  first | rfl | (simp; done) | ((repeat' split) <;> simp <;> done) | (dsimp only; (repeat' split) <;> simp)

@[simp] theorem dimPasses_env (s : State) : (dimPasses s).env = s.env := by
  unfold dimPasses
  first | rfl | (simp; done) | ((repeat' split) <;> simp <;> done) | (dsimp only; (repeat' split) <;> simp)

@[simp] theorem standbyPasses_env (s : State) : (standbyPasses s).env = s.env := by
  unfold standbyPasses
  first | rfl | (simp; done) | ((repeat' split) <;> simp <;> done) | (dsimp only; (repeat' split) <;> simp)

@[simp] theorem tellFault_env (cause : FaultCause) (s : State) : (tellFault cause s).env = s.env := by
  unfold tellFault
  first | rfl | (simp; done) | ((repeat' split) <;> simp <;> done) | (dsimp only; (repeat' split) <;> simp)

@[simp] theorem enterFault_env (cause : FaultCause) (s : State) : (enterFault cause s).env = s.env := by
  unfold enterFault
  first | rfl | (simp; done) | ((repeat' split) <;> simp <;> done) | (dsimp only; (repeat' split) <;> simp)

@[simp] theorem attemptFails_env (s : State) : (attemptFails s).env = s.env := by
  unfold attemptFails
  first | rfl | (simp; done) | ((repeat' split) <;> simp <;> done) | (dsimp only; (repeat' split) <;> simp)

@[simp] theorem duplicateHeard_env (s : State) : (duplicateHeard s).env = s.env := by
  unfold duplicateHeard
  first | rfl | (simp; done) | ((repeat' split) <;> simp <;> done) | (dsimp only; (repeat' split) <;> simp)

@[simp] theorem frameBad_env (counting : Bool) (s : State) : (frameBad counting s).env = s.env := by
  unfold frameBad
  first | rfl | (simp; done) | ((repeat' split) <;> simp <;> done) | (dsimp only; (repeat' split) <;> simp)

@[simp] theorem handedOver_env (f : HallFrame) (s : State) : (handedOver f s).env = s.env := by
  unfold handedOver
  first | rfl | (simp; done) | ((repeat' split) <;> simp <;> done) | (dsimp only; (repeat' split) <;> simp)

@[simp] theorem watchAfresh_env (s : State) : (watchAfresh s).env = s.env := by
  unfold watchAfresh
  first | rfl | (simp; done) | ((repeat' split) <;> simp <;> done) | (dsimp only; (repeat' split) <;> simp)

@[simp] theorem watchBits_env (bits : List Bool) (s : State) : (watchBits bits s).env = s.env := by
  unfold watchBits
  first | rfl | (simp; done) | ((repeat' split) <;> simp <;> done) | (dsimp only; (repeat' split) <;> simp)

@[simp] theorem frameGood_env (f : HallFrame) (s : State) : (frameGood f s).env = s.env := by
  unfold frameGood
  first | rfl | (simp; done) | ((repeat' split) <;> simp <;> done) | (dsimp only; (repeat' split) <;> simp)

@[simp] theorem frameHeard_env (f : HallFrame) (s : State) : (frameHeard f s).env = s.env := by
  unfold frameHeard
  first | rfl | (simp; done) | ((repeat' split) <;> simp <;> done) | (dsimp only; (repeat' split) <;> simp)

@[simp] theorem bitsHeard_env (bits : List Bool) (s : State) : (bitsHeard bits s).env = s.env := by
  unfold bitsHeard
  first | rfl | (simp; done) | ((repeat' split) <;> simp <;> done) | (dsimp only; (repeat' split) <;> simp)

@[simp] theorem lineIdles_env (s : State) : (lineIdles s).env = s.env := by
  unfold lineIdles
  first | rfl | (simp; done) | ((repeat' split) <;> simp <;> done) | (dsimp only; (repeat' split) <;> simp)

@[simp] theorem frameStarts_env (s : State) : (frameStarts s).env = s.env := by
  unfold frameStarts
  first | rfl | (simp; done) | ((repeat' split) <;> simp <;> done) | (dsimp only; (repeat' split) <;> simp)

@[simp] theorem dropTakenBack_env (f : TxFrame) (s : State) : (dropTakenBack f s).env = s.env := by
  unfold dropTakenBack
  first | rfl | (simp; done) | ((repeat' split) <;> simp <;> done) | (dsimp only; (repeat' split) <;> simp)

@[simp] theorem arbitrationLost_env (s : State) : (arbitrationLost s).env = s.env := by
  unfold arbitrationLost
  first | rfl | (simp; done) | ((repeat' split) <;> simp <;> done) | (dsimp only; (repeat' split) <;> simp)

@[simp] theorem failIfRecovery_env (f : TxFrame) (s : State) : (failIfRecovery f s).env = s.env := by
  unfold failIfRecovery
  first | rfl | (simp; done) | ((repeat' split) <;> simp <;> done) | (dsimp only; (repeat' split) <;> simp)

@[simp] theorem faultAtRun_env (s : State) : (faultAtRun s).env = s.env := by
  unfold faultAtRun
  first | rfl | (simp; done) | ((repeat' split) <;> simp <;> done) | (dsimp only; (repeat' split) <;> simp)

@[simp] theorem restHeard_env (rest : Option (List Bool)) (s : State) : (restHeard rest s).env = s.env := by
  unfold restHeard
  first | rfl | (simp; done) | ((repeat' split) <;> simp <;> done) | (dsimp only; (repeat' split) <;> simp)

@[simp] theorem bitErrs_env (rest : Option (List Bool)) (s : State) : (bitErrs rest s).env = s.env := by
  unfold bitErrs
  first | rfl | (simp; done) | ((repeat' split) <;> simp <;> done) | (dsimp only; (repeat' split) <;> simp)

@[simp] theorem ownClaimGoes_env (s : State) : (ownClaimGoes s).env = s.env := by
  unfold ownClaimGoes
  first | rfl | (simp; done) | ((repeat' split) <;> simp <;> done) | (dsimp only; (repeat' split) <;> simp)

@[simp] theorem ownReleaseGoes_env (s : State) : (ownReleaseGoes s).env = s.env := by
  unfold ownReleaseGoes
  first | rfl | (simp; done) | ((repeat' split) <;> simp <;> done) | (dsimp only; (repeat' split) <;> simp)

@[simp] theorem hallRestored_env (s : State) : (hallRestored s).env = s.env := by
  unfold hallRestored
  first | rfl | (simp; done) | ((repeat' split) <;> simp <;> done) | (dsimp only; (repeat' split) <;> simp)

@[simp] theorem ownPresenceGoes_env (s : State) : (ownPresenceGoes s).env = s.env := by
  unfold ownPresenceGoes
  first | rfl | (simp; done) | ((repeat' split) <;> simp <;> done) | (dsimp only; (repeat' split) <;> simp)

@[simp] theorem lineSticks_env (s : State) : (lineSticks s).env = s.env := by
  unfold lineSticks
  first | rfl | (simp; done) | ((repeat' split) <;> simp <;> done) | (dsimp only; (repeat' split) <;> simp)

@[simp] theorem listenInEnds_env (s : State) : (listenInEnds s).env = s.env := by
  unfold listenInEnds
  first | rfl | (simp; done) | ((repeat' split) <;> simp <;> done) | (dsimp only; (repeat' split) <;> simp)

@[simp] theorem heartbeatDue_env (s : State) : (heartbeatDue s).env = s.env := by
  unfold heartbeatDue
  first | rfl | (simp; done) | ((repeat' split) <;> simp <;> done) | (dsimp only; (repeat' split) <;> simp)

@[simp] theorem recoveryDue_env (s : State) : (recoveryDue s).env = s.env := by
  unfold recoveryDue
  first | rfl | (simp; done) | ((repeat' split) <;> simp <;> done) | (dsimp only; (repeat' split) <;> simp)

@[simp] theorem recoveryTimesOut_env (s : State) : (recoveryTimesOut s).env = s.env := by
  unfold recoveryTimesOut
  first | rfl | (simp; done) | ((repeat' split) <;> simp <;> done) | (dsimp only; (repeat' split) <;> simp)

@[simp] theorem finalTimesOut_env (s : State) : (finalTimesOut s).env = s.env := by
  unfold finalTimesOut
  first | rfl | (simp; done) | ((repeat' split) <;> simp <;> done) | (dsimp only; (repeat' split) <;> simp)

@[simp] theorem peerSilent_env (station : Nat) (s : State) : (peerSilent station s).env = s.env := by
  unfold peerSilent
  first | rfl | (simp; done) | ((repeat' split) <;> simp <;> done) | (dsimp only; (repeat' split) <;> simp)

@[simp] theorem claimExpires_env (station : Nat) (s : State) : (claimExpires station s).env = s.env := by
  unfold claimExpires
  first | rfl | (simp; done) | ((repeat' split) <;> simp <;> done) | (dsimp only; (repeat' split) <;> simp)

@[simp] theorem settleEnds_env (station : Nat) (s : State) : (settleEnds station s).env = s.env := by
  unfold settleEnds
  first | rfl | (simp; done) | ((repeat' split) <;> simp <;> done) | (dsimp only; (repeat' split) <;> simp)

@[simp] theorem turnGapEnds_env (s : State) : (turnGapEnds s).env = s.env := by
  unfold turnGapEnds
  first | rfl | (simp; done) | ((repeat' split) <;> simp <;> done) | (dsimp only; (repeat' split) <;> simp)

@[simp] theorem configureTaken_env (c : ConfigureCue) (s : State) : (configureTaken c s).env = s.env := by
  unfold configureTaken
  first | rfl | (simp; done) | ((repeat' split) <;> simp <;> done) | (dsimp only; (repeat' split) <;> simp)

@[simp] theorem statusTaken_env (clear : Bool) (s : State) : (statusTaken clear s).env = s.env := by
  unfold statusTaken
  first | rfl | (simp; done) | ((repeat' split) <;> simp <;> done) | (dsimp only; (repeat' split) <;> simp)

@[simp] theorem maskTaken_env (m : ClassMask) (s : State) : (maskTaken m s).env = s.env := by
  unfold maskTaken
  first | rfl | (simp; done) | ((repeat' split) <;> simp <;> done) | (dsimp only; (repeat' split) <;> simp)

@[simp] theorem quietTaken_env (q : Bool) (s : State) : (quietTaken q s).env = s.env := by
  unfold quietTaken
  first | rfl | (simp; done) | ((repeat' split) <;> simp <;> done) | (dsimp only; (repeat' split) <;> simp)

@[simp] theorem phaseTaken_env (c : PhaseCue) (s : State) : (phaseTaken c s).env = s.env := by
  unfold phaseTaken
  first | rfl | (simp; done) | ((repeat' split) <;> simp <;> done) | (dsimp only; (repeat' split) <;> simp)

@[simp] theorem sleepTaken_env (s : State) : (sleepTaken s).env = s.env := by
  unfold sleepTaken
  first | rfl | (simp; done) | ((repeat' split) <;> simp <;> done) | (dsimp only; (repeat' split) <;> simp)

@[simp] theorem softResetFloor_env (s : State) : (softResetFloor s).env = s.env := by
  unfold softResetFloor
  first | rfl | (simp; done) | ((repeat' split) <;> simp <;> done) | (dsimp only; (repeat' split) <;> simp)

@[simp] theorem softReset_env (down : Keys Bool) (s : State) : (softReset down s).env = s.env := by
  unfold softReset
  first | rfl | (simp; done) | ((repeat' split) <;> simp <;> done) | (dsimp only; (repeat' split) <;> simp)

@[simp] theorem lockFor_env (type : Byte) (s : State) : (lockFor type s).env = s.env := by
  unfold lockFor
  first | rfl | (simp; done) | ((repeat' split) <;> simp <;> done) | (dsimp only; (repeat' split) <;> simp)

@[simp] theorem cueActivity_env (type : Byte) (payload : List Byte) (s : State) : (cueActivity type payload s).env = s.env := by
  unfold cueActivity
  first | rfl | (simp; done) | ((repeat' split) <;> simp <;> done) | (dsimp only; (repeat' split) <;> simp)

/-- What a cue's handler leaves of the environment where it takes the cue. -/
def Handled.keeps (s : State) (h : Handled) : Prop := ∀ s', h = .taken s' → s'.env = s.env

theorem Handled.keeps_taken {s s' : State} (h : s'.env = s.env) : (Handled.taken s').keeps s := by
  intro x hx; cases hx; exact h

theorem Handled.keeps_refused {s : State} (r : Reason) : (Handled.refused r).keeps s := by
  intro x hx; cases hx

theorem withFields_keeps {α : Type} {s : State} (f : Option α) (g : α → Handled) (h : ∀ x, (g x).keeps s) :
    (withFields f g).keeps s := by
  unfold withFields; split
  · exact h _
  · exact Handled.keeps_refused _

theorem enqueuePrompt_keeps (c : PromptCue) (s : State) : (enqueuePrompt c s).keeps s := by
  unfold enqueuePrompt
  (repeat' split) <;> first | exact Handled.keeps_refused _ | exact Handled.keeps_taken (by simp)

theorem cancelTag_keeps (tag : Nat) (s : State) : (cancelTag tag s).keeps s := by
  unfold cancelTag
  (repeat' split) <;> first | exact Handled.keeps_refused _ | exact Handled.keeps_taken (by simp)

theorem ackTag_keeps (tag : Nat) (s : State) : (ackTag tag s).keeps s := by
  unfold ackTag
  (repeat' split) <;> first | exact Handled.keeps_refused _ | exact Handled.keeps_taken (by simp)

theorem handleSleep_keeps (s : State) : (handleSleep s).keeps s := by
  unfold handleSleep
  split <;> first | exact Handled.keeps_refused _ | exact Handled.keeps_taken (by simp)

theorem handleSelftest_keeps (s : State) : (handleSelftest s).keeps s := by
  unfold handleSelftest
  split <;> first | exact Handled.keeps_refused _ | exact Handled.keeps_taken (by simp)

theorem handleConfigure_keeps (p : List Byte) (s : State) : (handleConfigure p s).keeps s := by
  unfold handleConfigure
  split
  · exact Handled.keeps_refused _
  · exact withFields_keeps _ _ fun _ => Handled.keeps_taken (by simp)

theorem handleCue_keeps (down : Keys Bool) (type : Byte) (payload : List Byte) (s : State) :
    (handleCue down type payload s).keeps s := by
  unfold handleCue
  split <;> first
    | exact Handled.keeps_refused _
    | exact handleConfigure_keeps _ _
    | exact handleSleep_keeps _
    | exact handleSelftest_keeps _
    | exact withFields_keeps _ _ fun _ => enqueuePrompt_keeps _ _
    | exact withFields_keeps _ _ fun _ => cancelTag_keeps _ _
    | exact withFields_keeps _ _ fun _ => ackTag_keeps _ _
    | exact withFields_keeps _ _ fun _ => Handled.keeps_taken (by simp)
    | exact Handled.keeps_taken (by simp)

theorem checkCue_keeps (down : Keys Bool) (type : Byte) (payload : List Byte) (s : State) :
    (checkCue down type payload s).keeps s := by
  unfold checkCue
  (repeat' split) <;> first | exact Handled.keeps_refused _ | exact handleCue_keeps _ _ _ _

@[simp] theorem takeCue_env (down : Keys Bool) (type : Byte) (payload : List Byte) (s : State) :
    (takeCue down type payload s).env = s.env := by
  have h := checkCue_keeps down type payload (cueActivity type payload s)
  unfold takeCue
  dsimp only
  split
  next s2 e => simp [h s2 e]
  next => simp

@[simp] theorem dropStale_env (s : State) : (dropStale s).env = s.env := by
  unfold dropStale
  first | rfl | (simp; done) | ((repeat' split) <;> simp <;> done) | (dsimp only; (repeat' split) <;> simp)

@[simp] theorem receiveByte_env (down : Keys Bool) (s : State) (b : Byte) : (receiveByte down s b).env = s.env := by
  unfold receiveByte
  dsimp only
  (repeat' split) <;> simp

@[simp] theorem receiveBytes_env (down : Keys Bool) (bs : List Byte) (s : State) :
    (receiveBytes down bs s).env = s.env := foldl_env _ (by simp) _ _

@[simp] theorem cueArrives_env (down : Keys Bool) (type : Byte) (payload trail : List Byte) (s : State) : (cueArrives down type payload trail s).env = s.env := by
  unfold cueArrives
  first | rfl | (simp; done) | ((repeat' split) <;> simp <;> done) | (dsimp only; (repeat' split) <;> simp)

@[simp] theorem badStopHeard_env (s : State) : (badStopHeard s).env = s.env := by
  unfold badStopHeard
  first | rfl | (simp; done) | ((repeat' split) <;> simp <;> done) | (dsimp only; (repeat' split) <;> simp)

@[simp] theorem frameDiscarded_env (rx : List Byte) (last : Byte) (badStop : Bool) (s : State) : (frameDiscarded rx last badStop s).env = s.env := by
  unfold frameDiscarded
  first | rfl | (simp; done) | ((repeat' split) <;> simp <;> done) | (dsimp only; (repeat' split) <;> simp)

@[simp] theorem gapPasses_env (s : State) : (gapPasses s).env = s.env := by
  unfold gapPasses
  first | rfl | (simp; done) | ((repeat' split) <;> simp <;> done) | (dsimp only; (repeat' split) <;> simp)

@[simp] theorem reportLeaves_env (s : State) : (reportLeaves s).env = s.env := by
  unfold reportLeaves
  first | rfl | (simp; done) | ((repeat' split) <;> simp <;> done) | (dsimp only; (repeat' split) <;> simp)

@[simp] theorem storeCheckEnds_env (s : State) : (storeCheckEnds s).env = s.env := by
  unfold storeCheckEnds
  split
  · rw [helloIfChecked_env]; simp [State.env]
  · rfl

@[simp] theorem speakerCheckEnds_env (milliohms : Nat) (s : State) : (speakerCheckEnds milliohms s).env = s.env := by
  unfold speakerCheckEnds
  first | rfl | (simp; done) | ((repeat' split) <;> simp <;> done) | (dsimp only; (repeat' split) <;> simp)

@[simp] theorem checkOvercurrent_env (s : State) : (checkOvercurrent s).env = s.env := by
  unfold checkOvercurrent
  first | rfl | (simp; done) | ((repeat' split) <;> simp <;> done) | (dsimp only; (repeat' split) <;> simp)

@[simp] theorem repeatDueFor_env (tag : Nat) (s : State) : (repeatDueFor tag s).env = s.env := by
  unfold repeatDueFor
  first | rfl | (simp; done) | ((repeat' split) <;> simp <;> done) | (dsimp only; (repeat' split) <;> simp)

@[simp] theorem toneStepEnds_env (s : State) : (toneStepEnds s).env = s.env := by
  unfold toneStepEnds
  first | rfl | (simp; done) | ((repeat' split) <;> simp <;> done) | (dsimp only; (repeat' split) <;> simp)

@[simp] theorem clickEnds_env (s : State) : (clickEnds s).env = s.env := by
  unfold clickEnds
  first | rfl | (simp; done) | ((repeat' split) <;> simp <;> done) | (dsimp only; (repeat' split) <;> simp)

@[simp] theorem scrollStepped_env (field : ScrollField) (s : State) : (scrollStepped field s).env = s.env := by
  unfold scrollStepped
  first | rfl | (simp; done) | ((repeat' split) <;> simp <;> done) | (dsimp only; (repeat' split) <;> simp)

@[simp] theorem blinkToggled_env (field : BlinkField) (s : State) : (blinkToggled field s).env = s.env := by
  unfold blinkToggled
  first | rfl | (simp; done) | ((repeat' split) <;> simp <;> done) | (dsimp only; (repeat' split) <;> simp)

@[simp] theorem sampleDue_env (reading : Int) (s : State) : (sampleDue reading s).env = s.env := by
  unfold sampleDue
  first | rfl | (simp; done) | ((repeat' split) <;> simp <;> done) | (dsimp only; (repeat' split) <;> simp)

@[simp] theorem holdSettles_env (s : State) : (holdSettles s).env = s.env := by
  unfold holdSettles
  first | rfl | (simp; done) | ((repeat' split) <;> simp <;> done) | (dsimp only; (repeat' split) <;> simp)

end Sys2Proof.Machine
end

