-- ==== Sys2Proof/Laws/Deadlines.lean ====
section
/-! SUPPORT. What the instant of a command can be (R1, log 2): the bounds of `State.instant`, the one case in which it is
the instant the command names, what the timebase does at a gap of the cue link, and that the bounds of a row of intervals can be met. -/

namespace Sys2Proof.Machine

open Sys2Proof

theorem foldl_latest_le (l : List Timer) (t : Nat) : l.foldl (fun acc tm => min acc tm.latest) t ≤ t := by
  induction l generalizing t with
  | nil => exact Nat.le_refl t
  | cons x xs ih => exact Nat.le_trans (ih _) (Nat.min_le_left _ _)

theorem foldl_latest_le_mem {l : List Timer} {tm : Timer} (h : tm ∈ l) (t : Nat) :
    l.foldl (fun acc tm => min acc tm.latest) t ≤ tm.latest := by
  induction l generalizing t with
  | nil => cases h
  | cons x xs ih =>
    rcases List.mem_cons.mp h with rfl | h
    · exact Nat.le_trans (foldl_latest_le xs _) (Nat.min_le_right _ _)
    · exact ih h _

theorem foldl_latest_eq {l : List Timer} {t : Nat} (h : ∀ tm ∈ l, t ≤ tm.latest) :
    l.foldl (fun acc tm => min acc tm.latest) t = t := by
  induction l with
  | nil => rfl
  | cons x xs ih =>
    rw [List.foldl_cons, Nat.min_eq_left (h x (List.mem_cons_self ..))]
    exact ih fun tm ht => h tm (List.mem_cons_of_mem _ ht)

/-- The timebase never runs back. -/
theorem State.now_le_instant (t : Nat) (s : State) : s.now ≤ s.instant t := Nat.le_max_left _ _

/-- No command is taken later than the instant it names. -/
theorem State.instant_le (t : Nat) (s : State) : s.instant t ≤ max s.now t :=
  Nat.max_le.mpr ⟨Nat.le_max_left _ _, Nat.le_trans (foldl_latest_le _ _) (Nat.le_max_right _ _)⟩

/-- No command is taken after the latest end R1 allows a running interval. -/
theorem State.instant_le_latest {s : State} {tm : Timer} (h : tm ∈ s.runningTimers) (t : Nat) :
    s.instant t ≤ max s.now tm.latest :=
  Nat.max_le.mpr ⟨Nat.le_max_left _ _, Nat.le_trans (foldl_latest_le_mem h t) (Nat.le_max_right _ _)⟩

/-- Which intervals run does not depend on the timebase. -/
@[simp] theorem State.arrive_runningTimers (t : Nat) (s : State) : (s.arrive t).runningTimers = s.runningTimers := rfl

/-- Two instants one after the other are the later one. -/
theorem State.arrive_arrive {a t : Nat} (h : a ≤ t) (s : State) : (s.arrive a).arrive t = s.arrive t := by
  have m : ∀ (l : List Timer) {x y : Nat}, x ≤ y →
      l.foldl (fun acc tm => min acc tm.latest) x ≤ l.foldl (fun acc tm => min acc tm.latest) y := by
    intro l
    induction l with
    | nil => intro x y hxy; exact hxy
    | cons z zs ih => intro x y hxy; exact ih (show min x z.latest ≤ min y z.latest by omega)
  have hm := m s.runningTimers h
  have e : (s.arrive a).instant t = s.instant t := by
    simp only [State.instant, State.arrive_runningTimers, State.arrive_now]; omega
  show { s with now := (s.arrive a).instant t } = { s with now := s.instant t }
  rw [e]

/-- Where no running interval must have ended before `t`, the command is taken at `t`. -/
theorem State.instant_eq {s : State} {t : Nat} (h : ∀ tm ∈ s.runningTimers, t ≤ tm.latest) :
    s.instant t = max s.now t := by
  unfold State.instant; rw [foldl_latest_eq h]

/-- A state that has left no interval behind reaches none with the instant of a command. -/
theorem State.arrive_not_late {s : State} (h : ∀ tm ∈ s.runningTimers, tm.late s.now = false) (t : Nat) :
    ∀ tm ∈ s.runningTimers, tm.late (s.arrive t).now = false := by
  intro tm ht
  have h1 : s.now ≤ tm.latest := by simpa [Timer.late, Timer.latest] using h tm ht
  have h2 : s.instant t ≤ tm.latest := by have := State.instant_le_latest ht t; omega
  exact decide_eq_false (Nat.not_lt.mpr h2)

/-- The environment at the instant of a command: the timebase alone has moved. -/
@[simp] theorem State.arrive_env (t : Nat) (s : State) :
    (s.arrive t).env = (s.instant t, s.pending, s.straps, s.store.flash) := rfl

/-- A gap of the cue link moves the timebase to no instant past `t`, never back, and nothing else of the environment. -/
theorem gapHeard_env (t : Nat) (rx : List Byte) (s : State) :
    ∃ n, (gapHeard t rx s).env = (n, s.pending, s.straps, s.store.flash) ∧ s.now ≤ n ∧ n ≤ max s.now t := by
  have h := receiveBytes_env s.keysDown rx (s.arrive (t - Config.interByte))
  rw [State.arrive_env] at h
  generalize hr : receiveBytes s.keysDown rx (s.arrive (t - Config.interByte)) = r at h
  injection h with h1 h2
  have h3 : (r.arrive t).env = (r.instant t, s.pending, s.straps, s.store.flash) := by
    rw [State.arrive_env]; exact congrArg (Prod.mk _) h2
  refine ⟨r.instant t, ?_, ?_, ?_⟩
  · unfold gapHeard; rw [hr, gapPasses_env, h3]
  · exact Nat.le_trans (h1 ▸ State.now_le_instant _ s) (State.now_le_instant t r)
  · have := State.instant_le t r
    have := State.instant_le (t - Config.interByte) s
    omega

/-- An interval of a row has ended where both its bounds are reached (R1). -/
theorem Paced.reached_iff (p : Paced) (now : Nat) :
    p.reached now = true ↔
      p.own.due ≤ now + Config.tolerance p.own.len ∧ p.row.due ≤ now + Config.tolerance p.row.len := by
  simp [Paced.reached, Timer.reached]

/-- The two bounds of an interval of a row can always be met together: where the row has kept R1's tolerance so far, there is an
instant at which the next interval has ended and which neither bound forbids (log 39). -/
theorem Paced.next_has_an_end (p : Paced) (now len : Nat) (hlo : p.row.due ≤ now + Config.tolerance p.row.len)
    (hhi : now ≤ p.row.latest) :
    ∃ t, (p.next now len).reached t = true ∧ ∀ tm ∈ (p.next now len).timers, t ≤ tm.latest := by
  refine ⟨max (now + len - Config.tolerance len) (p.row.due + len - Config.tolerance (p.row.len + len)), ?_, ?_⟩
  · rw [Paced.reached_iff]
    simp only [Paced.next]
    omega
  · simp only [Timer.latest, Config.tolerance] at hlo hhi
    simp only [Paced.next, Paced.timers, List.mem_cons, List.not_mem_nil, or_false, forall_eq_or_imp, forall_eq,
      Timer.latest, Config.tolerance]
    omega

end Sys2Proof.Machine
end

