-- ==== Sys2Proof/Laws/Hall.lean ====
section
/-! SUPPORT. What the transmit list (R60) and the key inputs (R169) hold after each of their operations. -/

namespace Sys2Proof.Machine

open Sys2Proof

/-! ### The transmit list -/

/-- The PRESENCE frames of a transmit list. -/
def presences (l : List TxEntry) : List TxEntry := l.filter TxEntry.isPresence

theorem presences_filter_not (l : List TxEntry) : presences (l.filter fun x => !x.isPresence) = [] := by
  simp [presences, List.filter_eq_nil_iff, List.mem_filter]

/-- The list holds at most one PRESENCE once one has been handed over (R60). -/
theorem joinPresence_one (k : PresenceKind) (l : List TxEntry) (h : (presences l).length ≤ 1) :
    (presences (joinPresence k l)).length ≤ 1 := by
  unfold joinPresence
  split
  · exact h
  · rw [presences, List.filter_append, ← presences, presences_filter_not]
    rfl

/-- A CLAIM or a RELEASE stays where it is when a PRESENCE is handed over (R60). -/
theorem joinPresence_others (k : PresenceKind) (l : List TxEntry) :
    (joinPresence k l).filter (fun x => !x.isPresence) = l.filter fun x => !x.isPresence := by
  unfold joinPresence
  split
  · rfl
  · simp [List.filter_append, TxEntry.isPresence]

/-- The mark of the frame on the line moves no frame (R61). -/
@[simp] theorem markDriving_frames (f : TxFrame) (l : List TxEntry) :
    (markDriving f l).map TxEntry.frame = l.map TxEntry.frame := by
  induction l with
  | nil => rfl
  | cons x xs ih => unfold markDriving; split <;> simp [ih]

/-- A frame that waits again moves no frame (R61, R62). -/
@[simp] theorem undriven_frames (l : List TxEntry) : (undriven l).map TxEntry.frame = l.map TxEntry.frame := by
  simp [undriven, Function.comp_def]

/-! ### The key inputs -/

@[simp] theorem Keys.get_set {α : Type} (ks : Keys α) (k j : Key) (x : α) :
    (ks.set k x).get j = if j = k then x else ks.get j := by
  cases k <;> cases j <;> rfl

@[simp] theorem Keys.get_map {α β : Type} (g : α → β) (ks : Keys α) (k : Key) : (ks.map g).get k = g (ks.get k) := by
  cases k <;> rfl

@[simp] theorem setInput_inputs (k : Key) (down : Bool) (s : State) :
    (setInput k down s).panel.inputs = s.panel.inputs.set k (KeyInput.fresh s.now down) := rfl

@[simp] theorem setInput_keys (k : Key) (down : Bool) (s : State) : (setInput k down s).panel.keys = s.panel.keys := rfl

@[simp] theorem setKey_keys (k : Key) (x : KeyState) (s : State) :
    (setKey k x s).panel.keys = s.panel.keys.set k x := rfl

@[simp] theorem setKey_inputs (k : Key) (x : KeyState) (s : State) : (setKey k x s).panel.inputs = s.panel.inputs := rfl

/-- What a release does (R169): nothing within the debounce; else the input is up, afresh, and the key comes up. -/
theorem releaseKey_cases (k : Key) (s : State) :
    (s.debounced k = false ∧ releaseKey k s = s)
      ∨ (s.debounced k = true ∧ releaseKey k s = setInput k false (keyComesUp k s)) := by
  unfold releaseKey
  cases h : s.debounced k
  · exact .inl ⟨rfl, rfl⟩
  · exact .inr ⟨rfl, rfl⟩

end Sys2Proof.Machine
end

