-- ==== Sys2Proof/Laws/Level.lean ====
section
/-! SUPPORT. What the computations of the Level Unit (chapter 5) can answer. -/

namespace Sys2Proof.Machine

open Sys2Proof

/-- The cap is 70 or 85 (R117). -/
theorem levelCap_cases (quiet : Bool) (cls : Cls) : levelCap quiet cls = 70 ∨ levelCap quiet cls = 85 := by
  unfold levelCap; split <;> simp

/-- Every level lies within 40-85 (R117). -/
theorem levelResult_level (a v n : Nat) (quiet : Bool) (cls : Cls) :
    40 ≤ (levelResult a v n quiet cls).level ∧ (levelResult a v n quiet cls).level ≤ 85 := by
  have hc := levelCap_cases quiet cls
  have hf : 40 ≤ levelFloor a cls := Nat.le_max_left _ _
  simp only [levelResult]
  split <;> omega

/-- Every gain code lies within 0-45 (R119). -/
theorem levelResult_gain (a v n : Nat) (quiet : Bool) (cls : Cls) : (levelResult a v n quiet cls).gain ≤ 45 := by
  have h := levelResult_level a v n quiet cls
  have hg : (levelResult a v n quiet cls).gain = (levelResult a v n quiet cls).level - 40 := rfl
  omega

/-- A result is masked exactly when the floor lies above the cap (R118). -/
theorem levelResult_masked (a v n : Nat) (quiet : Bool) (cls : Cls) :
    (levelResult a v n quiet cls).masked = true ↔ levelCap quiet cls < levelFloor a cls := by
  simp [levelResult]

/-- The level computed for a service has a gain within 0-45 (R119). -/
theorem State.computeLevel_gain (s : State) (cls : Cls) : (s.computeLevel cls).gain ≤ 45 := levelResult_gain _ _ _ _ _

/-- The ring never holds more than 8 samples (R110). -/
theorem pushSample_length {ring : List Nat} (x : Nat) (h : ring.length ≤ Config.ringLimit) :
    (pushSample ring x).length ≤ Config.ringLimit := by
  unfold pushSample
  unfold Config.ringLimit at *
  by_cases hlt : ring.length < 8
  · rw [if_pos hlt]; simp; omega
  · rw [if_neg hlt]; simp; omega

/-- A clamped reading lies within 30-110 dB (R110). -/
theorem clampReading_bounds (r : Int) : 30 ≤ clampReading r ∧ clampReading r ≤ 110 := by
  unfold clampReading; omega

/-- A sample that joins the ring is the newest, and the others were there before (R110). -/
theorem mem_pushSample {ring : List Nat} {x y : Nat} (h : y ∈ pushSample ring x) : y = x ∨ y ∈ ring := by
  unfold pushSample at h
  split at h
  · simp only [List.mem_append, List.mem_singleton] at h; tauto
  · simp only [List.mem_append, List.mem_singleton] at h
    rcases h with h | h
    · exact .inr (List.mem_of_mem_drop h)
    · exact .inl h

end Sys2Proof.Machine
end

