-- ==== Sys2Proof/Laws/Memory.lean ====
section
/-! SUPPORT. The flash's memory (R203): reading after writing, and the canonical form, which every operation on the memory
keeps. -/

namespace Sys2Proof

/-- The form from a higher address on is the form from a lower one on. -/
theorem cellsWf_weaken {lo lo' : Nat} (h : lo' ≤ lo) : ∀ {cs : List Host.Cell}, cellsWf lo cs = true → cellsWf lo' cs = true
  | [], _ => rfl
  | c :: cs, hc => by
    simp only [cellsWf, Bool.and_eq_true, decide_eq_true_eq] at hc ⊢
    exact ⟨⟨⟨by omega, hc.1.1.2⟩, hc.1.2⟩, hc.2⟩

/-- A write keeps the canonical form. -/
theorem putCell_wf {lo a : Nat} {b : Byte} (hlo : lo ≤ a) (ha : a < Config.flashSize) :
    ∀ {cs : List Host.Cell}, cellsWf lo cs = true → cellsWf lo (putCell cs a b) = true
  | [], _ => by
    unfold putCell
    split
    · rfl
    · simp [cellsWf, *]
  | c :: cs, hc => by
    have hc' := hc
    simp only [cellsWf, Bool.and_eq_true, decide_eq_true_eq] at hc
    obtain ⟨⟨⟨h1, h2⟩, h3⟩, h4⟩ := hc
    unfold putCell
    split
    · split
      · exact hc'
      · rename_i hlt hb
        simp only [cellsWf, Bool.and_eq_true, decide_eq_true_eq]
        exact ⟨⟨⟨hlo, ha⟩, hb⟩, ⟨⟨by omega, h2⟩, h3⟩, h4⟩
    · split
      · rename_i hne heq
        split
        · exact cellsWf_weaken (by omega) h4
        · rename_i hb
          simp only [cellsWf, Bool.and_eq_true, decide_eq_true_eq]
          exact ⟨⟨⟨hlo, ha⟩, hb⟩, by rw [heq]; exact h4⟩
      · rename_i hlt hne
        simp only [cellsWf, Bool.and_eq_true, decide_eq_true_eq]
        exact ⟨⟨⟨h1, h2⟩, h3⟩, putCell_wf (by omega) ha h4⟩

/-- An address below the first cell of a canonical list reads as blank. -/
theorem cellAt_below {lo a : Nat} (ha : a < lo) : ∀ {cs : List Host.Cell}, cellsWf lo cs = true → cellAt cs a = Flash.blank
  | [], _ => rfl
  | c :: cs, hc => by
    simp only [cellsWf, Bool.and_eq_true, decide_eq_true_eq] at hc
    unfold cellAt
    rw [if_neg (by omega)]
    exact cellAt_below (by omega) hc.2

/-- A read of the address just written gives the byte written. -/
theorem cellAt_putCell_same {lo a : Nat} {b : Byte} : ∀ {cs : List Host.Cell}, cellsWf lo cs = true →
    cellAt (putCell cs a b) a = b
  | [], _ => by
    unfold putCell
    split
    · rename_i h; rw [h]; rfl
    · simp [cellAt]
  | c :: cs, hc => by
    have hc' := hc
    simp only [cellsWf, Bool.and_eq_true, decide_eq_true_eq] at hc
    unfold putCell
    split
    · rename_i hlt
      split
      · rename_i hb
        rw [hb]
        unfold cellAt
        rw [if_neg (by omega)]
        exact cellAt_below (by omega) hc.2
      · simp [cellAt]
    · split
      · rename_i heq
        split
        · rename_i hb
          rw [hb]
          exact cellAt_below (by omega) hc.2
        · simp [cellAt]
      · rename_i hne
        simp only [cellAt]
        rw [if_neg (fun h => hne h.symm)]
        exact cellAt_putCell_same hc.2

/-- A write leaves every other address as it reads. -/
theorem cellAt_putCell_other {a x : Nat} {b : Byte} (hx : x ≠ a) : ∀ {lo : Nat} {cs : List Host.Cell},
    cellsWf lo cs = true → cellAt (putCell cs a b) x = cellAt cs x
  | _, [], _ => by
    unfold putCell
    split
    · rfl
    · simp [cellAt, Ne.symm hx]
  | _, c :: cs, hc => by
    simp only [cellsWf, Bool.and_eq_true, decide_eq_true_eq] at hc
    unfold putCell
    split
    · split
      · rfl
      · simp [cellAt, Ne.symm hx]
    · split
      · rename_i heq
        split
        · simp only [cellAt]; rw [if_neg (by omega)]
        · simp only [cellAt]; rw [if_neg (by omega), if_neg (by omega)]
      · simp only [cellAt]
        split
        · rfl
        · exact cellAt_putCell_other hx hc.2

/-- The cells of any image come out in canonical form. -/
theorem canonCells_wf (cells : List Host.Cell) : cellsWf 0 (canonCells cells) = true := by
  suffices h : ∀ acc, cellsWf 0 acc = true →
      cellsWf 0 (cells.foldl (fun acc c => if c.1 < Config.flashSize then putCell acc c.1 c.2 else acc) acc) = true from
    h [] rfl
  induction cells with
  | nil => intro acc h; exact h
  | cons c cs ih =>
    intro acc h
    rw [List.foldl_cons]
    apply ih
    split
    · exact putCell_wf (Nat.zero_le _) ‹_› h
    · exact h

/-- The flash as the part finds it is in canonical form. -/
theorem Flash.fitted_wf (f : Flash) : f.fitted.wf = true := canonCells_wf f.cells

end Sys2Proof

namespace Sys2Proof.Machine

open Sys2Proof

/-- The memory of the state after reset is in canonical form. -/
theorem State.reset_flash_wf : State.reset.store.flash.wf = true := rfl

/-- The memory after a power-on reset is in canonical form, whatever image is fitted. -/
theorem poweredOn_flash_wf (t station zone : Nat) (down : Keys Bool) (flash : Flash) (waiting : List Instr) :
    (poweredOn t station zone down flash waiting).store.flash.wf = true := Flash.fitted_wf flash

end Sys2Proof.Machine
end

