-- ==== Sys2Proof/Laws/Queue.lean ====
section
/-! SUPPORT. What the operations on the prompt queue (1.3) and on the report queue (R195) can do. -/

namespace Sys2Proof.Machine

open Sys2Proof

/-- An insertion makes the queue one longer (R4). -/
@[simp] theorem insertEntry_length (e : Entry) (l : List Entry) : (insertEntry e l).length = l.length + 1 := by
  induction l with
  | nil => rfl
  | cons x xs ih => unfold insertEntry; split <;> simp [ih]

/-- An insertion adds the entry and nothing else (R4). -/
@[simp] theorem mem_insertEntry {e x : Entry} {l : List Entry} : x ∈ insertEntry e l ↔ x = e ∨ x ∈ l := by
  induction l with
  | nil => simp [insertEntry]
  | cons y ys ih => unfold insertEntry; split <;> simp [ih] <;> tauto

/-- The entries there before keep their order (R4). -/
theorem sublist_insertEntry (e : Entry) (l : List Entry) : l.Sublist (insertEntry e l) := by
  induction l with
  | nil => simp [insertEntry]
  | cons x xs ih =>
    unfold insertEntry
    split
    · exact List.sublist_cons_self _ _
    · exact ih.cons_cons x

/-- To stand before another in queue order is transitive (R4). -/
theorem Entry.before_trans {a b c : Entry} (h1 : a.before b = true) (h2 : b.before c = true) : a.before c = true := by
  simp only [Entry.before, Bool.or_eq_true, Bool.and_eq_true, decide_eq_true_eq] at *
  rcases h1 with h1 | ⟨h1, h1'⟩ <;> rcases h2 with h2 | ⟨h2, h2'⟩
  · exact .inl (by omega)
  · exact .inl (h2 ▸ h1)
  · exact .inl (h1 ▸ h2)
  · exact .inr ⟨h1.trans h2, by omega⟩

/-- An insertion into a queue in order leaves it in order (R4). -/
theorem insertEntry_inOrder (e : Entry) {l : List Entry} (h : l.Pairwise fun a b => b.before a = false) :
    (insertEntry e l).Pairwise fun a b => b.before a = false := by
  induction l with
  | nil => simp [insertEntry]
  | cons x xs ih =>
    rw [List.pairwise_cons] at h
    unfold insertEntry
    split
    · rename_i hx
      have no : ∀ y, x = y ∨ y.before x = false → y.before e = false := by
        intro y hy
        cases hye : y.before e with
        | false => rfl
        | true =>
          have := Entry.before_trans hye hx
          rcases hy with rfl | hy
          · simp [Entry.before] at this
          · rw [hy] at this; cases this
      refine List.pairwise_cons.mpr ⟨fun y hy => ?_, List.pairwise_cons.mpr h⟩
      rcases List.mem_cons.mp hy with rfl | hy
      · exact no _ (.inl rfl)
      · exact no _ (.inr (h.1 y hy))
    · rename_i hx
      refine List.pairwise_cons.mpr ⟨fun y hy => ?_, ih h.2⟩
      rcases mem_insertEntry.mp hy with rfl | hy
      · simpa using hx
      · exact h.1 y hy

/-- A change that leaves class, arrival stamp and serial leaves the order (R4). -/
theorem map_inOrder {f : Entry → Entry} (hf : ∀ a b, (f a).before (f b) = a.before b) {l : List Entry}
    (h : l.Pairwise fun a b => b.before a = false) : (l.map f).Pairwise fun a b => b.before a = false :=
  List.pairwise_map.mpr (h.imp fun hab => by rw [hf]; exact hab)

/-- In a queue in order the victim of R11 is the last QUEUED entry: of the lowest class, of the latest stamp, the last. -/
theorem victim_of_order {s : State} {v : Entry} {l r : List Entry} (hq : s.seq.queue = l ++ v :: r) (hv : v.state = .queued)
    (ho : s.seq.queue.Pairwise fun a b => b.before a = false)
    (hall : ∀ x ∈ r, x.state = .queued → v.cls.val ≤ x.cls.val ∧ (x.cls = v.cls → x.arrival < v.arrival)) :
    s.victim = some v := by
  have hr : ∀ x ∈ r, x.state ≠ .queued := by
    intro x hx hxs
    obtain ⟨h1, h2⟩ := hall x hx hxs
    rw [hq] at ho
    have hb := (List.pairwise_cons.mp (List.pairwise_append.mp ho).2.1).1 x hx
    simp only [Entry.before, Bool.or_eq_false_iff, Bool.and_eq_false_iff, decide_eq_false_iff_not] at hb
    obtain ⟨hb1, hb2⟩ := hb
    have hc : x.cls.val = v.cls.val := by omega
    have hcls : x.cls = v.cls := by
      cases hxc : x.cls <;> cases hvc : v.cls <;> simp_all [Cls.val]
    have := h2 hcls
    rcases hb2 with hb2 | ⟨hb2, _⟩
    · exact hb2 hcls
    · exact hb2 this
  unfold State.victim
  rw [hq, List.reverse_append, List.reverse_cons, List.find?_append, List.find?_append]
  have : r.reverse.find? (fun e => decide (e.state = .queued)) = none :=
    List.find?_eq_none.mpr fun x hx => by simpa using hr x (List.mem_reverse.mp hx)
  rw [this]; simp [hv]

/-- The entry found under the tag of a new one is the new one, where no other holds the tag. -/
theorem find_insertEntry_same {e : Entry} {l : List Entry} (h : l.find? (fun x => x.tag = e.tag) = none) :
    (insertEntry e l).find? (fun x => x.tag = e.tag) = some e := by
  induction l with
  | nil => simp [insertEntry]
  | cons x xs ih =>
    rw [List.find?_cons] at h
    unfold insertEntry
    split at h
    · exact absurd h (by simp)
    · rename_i hx
      split
      · rw [List.find?_cons_of_pos (by simp)]
      · rw [List.find?_cons, hx]; exact ih h

/-- An insertion leaves what another tag finds. -/
theorem find_insertEntry_other {e : Entry} {l : List Entry} {tag : Nat} (h : e.tag ≠ tag) :
    (insertEntry e l).find? (fun x => x.tag = tag) = l.find? (fun x => x.tag = tag) := by
  induction l with
  | nil => simp [insertEntry, h]
  | cons x xs ih =>
    unfold insertEntry
    split
    · rw [List.find?_cons_of_neg (by simp [h])]
    · rw [List.find?_cons, List.find?_cons, ih]

/-- The capacity check says room only where there is room (R5, R11). -/
theorem capacity_room {s : State} {cls : Cls} (h : s.capacity cls = .room) : s.seq.queue.length < Config.queueLimit := by
  unfold State.capacity at h
  split at h
  · assumption
  · split at h
    · split at h <;> cases h
    · cases h

/-- The capacity check says room wherever there is room (R11). -/
theorem capacity_of_room {s : State} (cls : Cls) (h : s.seq.queue.length < Config.queueLimit) : s.capacity cls = .room := by
  unfold State.capacity; rw [if_pos h]

/-- A victim of the capacity check is QUEUED, stands in the queue, and is of lower class than the new entry (R11). -/
theorem capacity_evict {s : State} {cls : Cls} {v : Entry} (h : s.capacity cls = .evict v) :
    v ∈ s.seq.queue ∧ v.state = .queued ∧ v.cls.val < cls.val := by
  unfold State.capacity at h
  split at h
  · cases h
  · split at h
    · rename_i w hw
      split at h
      · rename_i hlt
        cases h
        unfold State.victim at hw
        refine ⟨List.mem_reverse.mp (List.mem_of_find?_eq_some hw), ?_, hlt⟩
        simpa using List.find?_some hw
      · cases h
    · cases h

/-- Dropping a tag that an entry holds makes the queue shorter (R29). -/
theorem dropEntry_length_lt {s : State} {v : Entry} (h : v ∈ s.seq.queue) :
    (dropEntry v.tag s).seq.queue.length < s.seq.queue.length := by
  show (s.seq.queue.filter fun e => e.tag ≠ v.tag).length < _
  exact List.length_filter_lt_length_iff_exists.mpr ⟨v, h, by simp⟩

/-- No entry holds a tag that was dropped (R29). -/
theorem dropEntry_entry (tag : Nat) (s : State) : (dropEntry tag s).entry tag = none := by
  show (s.seq.queue.filter fun e => e.tag ≠ tag).find? _ = none
  simp [List.find?_eq_none, List.mem_filter]

/-- After HELLO a report joins as the newest, or is lost where the queue holds 16; before HELLO it leaves the queue as it is
(R195, log 43). -/
theorem report_reports (r : Report) (s : State) :
    (report r s).link.reports =
      if s.link.listening = true ∧ s.link.reports.length < Config.reportLimit then s.link.reports ++ [r]
      else s.link.reports := by
  unfold report; simp only [State.onLink_link]
  by_cases h : s.link.listening = true
  · simp only [h, if_true, true_and, CueLink.join]; split <;> rfl
  · simp only [h, CueLink.hold]; (repeat' split) <;> first | rfl | simp_all

/-- Before HELLO a report is held as the newest, or is lost where 15 are; after HELLO none is held (log 43). -/
theorem report_early (r : Report) (s : State) :
    (report r s).link.early =
      if s.link.listening = false ∧ s.link.early.length + 1 < Config.reportLimit then s.link.early ++ [r]
      else s.link.early := by
  unfold report; simp only [State.onLink_link]
  by_cases h : s.link.listening = true
  · simp only [h, if_true, CueLink.join]; (repeat' split) <;> first | rfl | simp_all
  · simp only [Bool.not_eq_true] at h; simp only [h, CueLink.hold]; (repeat' split) <;> first | rfl | simp_all

/-- A report leaves whether HELLO has been made. -/
@[simp] theorem report_listening (r : Report) (s : State) : (report r s).link.listening = s.link.listening := by
  unfold report; simp only [State.onLink_link, CueLink.join, CueLink.hold]; (repeat' split) <;> rfl

/-- No tag stands twice in the prompt queue where every tag has one holder (R3). -/
theorem TagsHeldOnce_queue {s : State} (h : Safety.TagsHeldOnce s) : (s.seq.queue.map Entry.tag).Nodup :=
  (List.nodup_append.mp h.1).1

/-- The report queue never holds more than 16 (R195). -/
theorem report_length (r : Report) {s : State} (h : s.link.reports.length ≤ Config.reportLimit) :
    (report r s).link.reports.length ≤ Config.reportLimit := by
  rw [report_reports]
  split
  · rename_i hlt; rw [List.length_append]; exact hlt.2
  · exact h

end Sys2Proof.Machine
end

