-- ==== Sys2Proof/Tests/Slice0.lean ====
section
/-! SUPPORT. Tests of the model's own work, all on fixed values: ill-formed operands are refused, each command does on a
small state what its rules say, and every statement that has hypotheses has a state that meets them. The expected values
are worked out by hand from the rules named. -/

namespace Sys2Proof.Tests

open Sys2Proof Machine Safety

/-! ### Operands: one ill-formed term for each check -/

theorem test_wf_payload_of_25_bytes : (Instr.prompt 0 (List.replicate 25 0#8)).wf = false := by decide
theorem test_wf_payload_of_24_bytes : (Instr.prompt 0 (List.replicate 24 0#8)).wf = true := by decide
theorem test_wf_session_begin_with_end_byte : (Instr.sessionBegin 0 [0#8, 0#8]).wf = false := by decide
theorem test_wf_session_end_with_begin_byte : (Instr.sessionEnd 0 [1#8, 0#8]).wf = false := by decide
theorem test_wf_remind_with_delay_0 :
    (Instr.remind 0 [0#8, 0#8, 0#8, 0#8, 0#8, 0#8, 0#8, 0#8, 0#8, 0#8, 0#8, 0#8]).wf = false := by decide
theorem test_wf_remind_clear_with_delay_1 :
    (Instr.remindClear 0 [0#8, 0#8, 0#8, 1#8, 0#8, 0#8, 0#8, 0#8, 0#8, 0#8, 0#8, 0#8]).wf = false := by decide
theorem test_wf_unknown_cue_of_a_known_type : (Instr.unknownCue 0 0x0E#8 []).wf = false := by decide
theorem test_wf_unknown_cue_of_type_0F : (Instr.unknownCue 0 0x0F#8 []).wf = true := by decide
theorem test_wf_discard_by_a_good_length : (Instr.cueFrameDiscard 0 [] 24#8 false).wf = false := by decide
theorem test_wf_flash_past_its_end : (Flash.mk [(16777216, 1#8)] []).fits = false := by decide
theorem test_wf_outage_backwards : (Flash.mk [] [⟨5, 4, 0, 0⟩]).fits = false := by decide
theorem test_wf_claim_of_station_0 : (Instr.peerClaim 0 ⟨0#5, 3#3, .action, 0#4, 9#8, 0#4⟩).wf = false := by decide
theorem test_wf_claim_of_length_0 : (Instr.peerClaim 0 ⟨8#5, 3#3, .action, 0#4, 0#8, 0#4⟩).wf = false := by decide
theorem test_wf_release_of_station_0 : (Instr.peerRelease 0 ⟨0#5, 3#3, 0#4, .cut⟩).wf = false := by decide
theorem test_wf_presence_of_station_0 : (Instr.peerPresence 0 ⟨0#5, 3#3, .active, false, .on⟩).wf = false := by decide
theorem test_wf_bad_frame_without_start_bit : (Instr.badFrame 0 [true]).wf = false := by decide
theorem test_wf_bad_frame_of_41_bits : (Instr.badFrame 0 (List.replicate 41 false)).wf = false := by decide
theorem test_wf_bit_error_with_a_rest_without_start_bit : (Instr.bitError 0 (some [true])).wf = false := by decide
theorem test_wf_peer_0 : (Instr.peerLost 0 0#5).wf = false := by decide
theorem test_wf_expiry_of_station_0 : (Instr.claimExpiry 0 0#5).wf = false := by decide
theorem test_wf_window_of_station_0 : (Instr.settleWindowEnd 0 0#5).wf = false := by decide
theorem test_wf_deadline_of_tag_75 : (Instr.deadline 0 75).wf = false := by decide
theorem test_wf_bucket_of_tag_0 : (Instr.waitBucketStep 0 0).wf = false := by decide
theorem test_wf_repeat_of_tag_64 : (Instr.repeatDue 0 64).wf = false := by decide
theorem test_wf_slot_4 : (Instr.slotFiring 0 4).wf = false := by decide

/-! ### The states the tests start from -/

/-- Awake and quiet at 10,000 ms: station 7 of zone 3, hall ON with the line idle, the amplifier ON, the phrase store
FAILED, HELLO made. -/
def calm : State :=
  { State.reset with
    now := 10000
    straps := ⟨7, 3⟩
    link := { CueLink.reset with listening := true }
    store := { PhraseStore.reset with state := .failed }
    level := { LevelUnit.reset with sampleDue := some ⟨70000, 250⟩ }
    hall := { HallPort.reset with line := .idle, state := .on, heartbeat := some ⟨70000, 2000⟩ }
    power :=
      { Power.reset with
        dim := some ⟨70000, 60000⟩, timersHeld := false, amp := .on, check := .idle, result := .ok, impedance := 16 } }

/-- An entry of the machine controller with its arrival at 9,000 ms. -/
def prompt5 (cls : Cls) (state : EntryState) : Entry :=
  ⟨5, .machine, cls, 2, 90, 0, ⟨true, true, true⟩, false, 0, 5, none, 9000, 0, state, 0⟩

/-- A phrase of 500 ms. -/
def phrase12 : ScriptItem := .phrase ⟨12, 0, 131072, 4000, 500, [72#8, 73#8], .text⟩

/-- A service of the SPEECH route with these items. -/
def service5 (items : List ScriptItem) : Service :=
  ⟨5, .audible .speech, ⟨some 1, items, 20, []⟩, false, false, none, none, none⟩

/-- `calm` with the entry of tag 5 in service, its station HOLDING with a confirmed claim of sequence 4. -/
def serving (cls : Cls) (items : List ScriptItem) (speech : Speech) (chime : ChimeVoice) : State :=
  { calm with
    seq := { Sequencer.reset with queue := [prompt5 cls .speaking], slot := some (service5 items) }
    speech := speech
    tone := ⟨chime, .idle⟩
    power := { calm.power with timersHeld := true }
    floor :=
      { FloorUnit.reset with
        own :=
          { OwnFloor.reset with
            state := .holding, nextSeq := 5
            claim := some ⟨3, .heard cls, 0, 20, some 4, 9000, true, true, ⟨12060, 3000⟩, false, none⟩ } } }

/-- The chime of `serving` (R126), begun at 9,600 ms, in the last of its steps of 150, 50 and 200 ms. -/
def chime1 : Chime := ⟨1, .speaker, false, 20, 62, 2, 9600, 9800⟩

/-- The same chime in its first step, begun at 9,850 ms. -/
def chime0 : Chime := ⟨1, .speaker, false, 20, 62, 0, 9850, 9850⟩

/-- A peer of number 9 in zone 3, heard at 9,000 ms. -/
def peer9 (claim : Option LiveClaim) : Peer := ⟨9, 3, .present, 9000, claim, none⟩

/-- The claim of peer 9: unconfirmed, of class ACTION and sequence 2. -/
def claim9 : LiveClaim := ⟨3, .heard .action, 1, 30, some 2, 9000, true, false, ⟨13060, 4060⟩, false, none⟩

/-- A PRESUMED claim of peer 9. -/
def presumed9 : LiveClaim := ⟨3, .presumed, 15, 255, none, 9000, true, false, ⟨35500, 26500⟩, false, none⟩

/-- `calm` with peer 9 in the view. -/
def beside (claim : Option LiveClaim) : State := { calm with floor := { FloorUnit.reset with peers := [peer9 claim] } }

/-- `calm` with a frame on the line. -/
def sending (f : TxFrame) (own : OwnFloor) : State :=
  { calm with
    hall := { calm.hall with line := .sending, txList := [⟨f, true⟩] }
    floor := { FloorUnit.reset with own := own } }

/-- The own record of a station whose CLAIM of sequence 4 is on its way. -/
def claiming4 : OwnFloor := { OwnFloor.reset with state := .claiming, nextSeq := 5, outgoing := some ⟨⟨.action, 0, 20, 4⟩, .no⟩ }

/-- The state a command leaves. -/
def after (c : Instr) (s : State) : State :=
  match exec c s with
  | .next u => u
  | .fault _ => s
  | .refused _ => s

/-- A small phrase store: one language, one template (phrase 12 and param1 as a NUMBER), two phrases. -/
def image : Flash where
  cells :=
    [(0, 1#8), (2, 1#8), (3, 0x01#8), (4, 0xCA#8), (6, 1#8), (9, 0x10#8)]
      ++ [(256, 2#8), (257, 0xFF#8), (260, 12#8), (261, 1#8)]
      ++ [(4684, 2#8), (4688, 0x10#8), (4690, 2#8), (4692, 2#8), (4693, 72#8), (4694, 73#8)]
      ++ [(4733, 3#8), (4737, 0x10#8), (4739, 2#8)]
  outages := []

/-- The start-up state, its speaker check over, with a flash fitted. -/
def checking (flash : Flash) : State :=
  { State.reset with
    store := { PhraseStore.reset with flash := flash }
    power := { calm.power with dim := some ⟨60000, 60000⟩, timersHeld := false } }

/-! ### Start-up and speaker check -/

theorem test_power_on_reset_listens_in :
    (after (.powerOnReset 5000 7#5 3#3 ⟨false, true, false, false, false, false⟩ image) calm).hall.state =
      .listenIn ⟨7500, 2500⟩ := by decide
theorem test_power_on_reset_blocks_a_key_that_is_down :
    (after (.powerOnReset 5000 7#5 3#3 ⟨false, true, false, false, false, false⟩ image) calm).panel.keys =
      ⟨.up, .blocked, .up, .up, .up, .up⟩ := by decide
theorem test_store_check_passes_with_hello_first :
    let s := checking image
    (after (.storeCheckEnd 400) { s with link := { s.link with early := [.key .ok false] } }).link.reports =
      [.hello 0x01#8 0 0, .key .ok false] := by decide
theorem test_store_check_fails : (after (.storeCheckEnd 400) (checking ⟨[], []⟩)).link.reports = [.hello 0x02#8 0 0] := by decide

/-- `calm` in the test of a SELFTEST's check, due at 10,300 ms. -/
def testing : State := { calm with power := { calm.power with check := .test false ⟨10300, 300⟩, timersHeld := true } }

theorem test_speaker_check_of_3_ohm_is_weak :
    let u := after (.speakerCheckEnd 10300 3200) testing
    (u.power.result, u.power.impedance, u.power.weakSpeaker) = (.weak, 6, 1) := by decide
theorem test_speaker_check_of_30_ohm_is_open :
    let u := after (.speakerCheckEnd 10300 30000) testing
    (u.power.result, u.power.amp, u.link.reports) = (.open_, .off, [.event .speakerFault]) := by decide
theorem test_overcurrent_is_short :
    let u := after (.speakerCheckOvercurrent 10100) testing
    (u.power.result, u.power.amp, u.link.latches.speakerFault) = (.short, .off, true) := by decide

/-- `calm` in the warm-up of a check. -/
def warming : State :=
  { calm with power := { calm.power with amp := .warming ⟨10120, 120⟩, check := .warmUp false, timersHeld := true } }

theorem test_warm_up_end_starts_the_test :
    let u := after (.warmUpEnd 10120) warming
    (u.power.amp, u.power.check, u.speakerDrive, u.amplifierGain) = (.on, .test false ⟨10420, 300⟩, .tone 1000, 20) := by
  decide
theorem test_warm_up_does_not_end_early : (after (.warmUpEnd 10100) warming).power = warming.power := by decide

/-- `serving` in the middle of its first phrase. -/
def speaking (cls : Cls) : State := serving cls [phrase12, .pause 200] (.playing 0 (some (12, 0)) 9700 none) .idle

theorem test_speaker_fault_keeps_the_entry :
    let u := after (.speakerFault 10000 .overcurrent) (speaking .action)
    (u.power.result, u.link.reports, u.seq.queue.map Entry.cutCount) = (.short, [.event .speakerFault], [0]) := by decide
theorem test_open_line_is_not_sensed_in_a_pause :
    let s := { speaking .action with speech := .playing 1 none 9900 none }
    (after (.speakerFault 10000 .openLine) s).power = s.power := by decide

/-! ### Cues -/

theorem test_configure_clamps_the_volume :
    let u := after (.configure 10010 [1#8, 0#8, 9#8, 5#8, 0#8, 60#8, 0#8, 0#8, 0#8, 0#8, 0#8, 0#8, 3#8, 2#8]) calm
    (u.link.config, u.rem.marks.a0, u.link.locked) =
      (⟨⟨true, false, false, false⟩, 0, 7, 5, 3, .never⟩, ⟨60, .armed⟩, true) := by decide +kernel
theorem test_configure_refuses_a_mark_of_29 :
    (after (.configure 10010 [1#8, 0#8, 9#8, 5#8, 0#8, 29#8, 0#8, 0#8, 0#8, 0#8, 0#8, 0#8, 3#8, 2#8]) calm).link.reports =
      [.refused 0x01#8 0 .badField] := by decide
theorem test_session_begins :
    let u := after (.sessionBegin 10010 [1#8, 255#8]) { calm with panel := { Panel.reset with volume := 7 } }
    (u.panel.inSession, u.panel.volume, u.link.locked) = (true, 4, true) := by decide

/-- An awaiting record of the tag 5. -/
def awaiting5 : Awaiting := ⟨5, .action, 2, 90, 0, ⟨true, true, true⟩, 1, 10, 9500, ⟨19500, 10000⟩⟩

theorem test_session_end_clears_the_awaiting_list :
    let u := after (.sessionEnd 10010 [0#8, 7#8]) { calm with panel := { Panel.reset with inSession := true, awaiting := [awaiting5] } }
    (u.panel.awaiting, u.link.reports) = ([], [.done 5 .cleared]) := by decide
theorem test_session_end_cancels_status_and_keeps_action :
    let s :=
      { calm with
        seq :=
          { Sequencer.reset with
            queue := [{ prompt5 .action .queued with tag := 6 }, prompt5 .status .queued], mask := ⟨true, true, true⟩ } }
    let u := after (.sessionEnd 10010 [0#8, 0#8]) s
    (u.seq.queue.map Entry.tag, u.link.reports) = ([6], [.done 5 .cancelled]) := by decide
/-- R144; the codes of the characters are log 50. -/
theorem test_phase_word_while_the_store_failed :
    (after (.phase 10010 [3#8, 0#8, 12#8, 255#8, 255#8]) calm).display.phaseText =
      [80#8, 72#8, 65#8, 83#8, 69#8, 32#8, 51#8] := by decide
theorem test_progress_posts_started_minutes :
    let u := after (.progress 10010 [0#8, 61#8, 1#8]) calm
    (u.rem.estimate, u.rem.secondPhase, u.display.minutes) = (61, some ⟨11010, 1000⟩, 2) := by decide
theorem test_progress_clamps_the_estimate : (after (.progress 10010 [255#8, 255#8, 0#8]) calm).rem.estimate = 43200 := by decide
theorem test_prompt_claims_the_floor :
    let u := after (.prompt 10010 [9#8, 2#8, 4#8, 0#8, 90#8, 0#8, 0#8, 7#8, 1#8, 2#8, 3#8, 30#8]) calm
    (u.link.reports, u.floor.own.state, u.seq.queue.map fun e => (e.tag, e.repeatInterval, e.state)) =
      ([.queued 9], .claiming, [(9, 5, .claiming)]) := by decide
theorem test_prompt_without_a_channel_is_refused :
    (after (.prompt 10010 [9#8, 2#8, 4#8, 0#8, 90#8, 0#8, 0#8, 0#8, 1#8, 2#8, 3#8, 30#8]) calm).link.reports =
      [.refused 0x05#8 9 .badField] := by decide

/-- `calm` with a masked entry that waits. -/
def waiting5 : State :=
  { calm with
    seq := { Sequencer.reset with queue := [prompt5 .status .queued], madeCount := 1, mask := ⟨true, true, true⟩ } }

theorem test_cancel_of_a_queued_entry :
    let u := after (.cancel 10010 [5#8]) waiting5
    (u.seq.queue, u.link.reports) = ([], [.done 5 .cancelled]) := by decide
theorem test_cancel_of_a_spoken_entry_waits_for_its_boundary :
    let u := after (.cancel 10010 [5#8]) (speaking .action)
    (u.seq.queue.map Entry.tag, u.seq.slot.bind Service.removal, u.link.reports) = ([5], some .cancelled, []) := by decide
theorem test_ack_answers_the_record :
    let u := after (.ack 10010 [5#8]) { calm with panel := { Panel.reset with awaiting := [awaiting5] } }
    (u.panel.awaiting, u.link.reports) = ([], [.done 5 .acked]) := by decide
theorem test_ack_of_no_record_is_refused :
    (after (.ack 10010 [6#8]) { calm with panel := { Panel.reset with awaiting := [awaiting5] } }).link.reports =
      [.refused 0x07#8 6 .noSuchTag] := by decide
theorem test_mask_bits : (after (.mask 10010 [5#8]) calm).seq.mask = ⟨true, false, true⟩ := by decide
theorem test_unmasking_selects : (after (.mask 10010 [0#8]) waiting5).floor.own.state = .claiming := by decide
theorem test_remind_programs_a_periodic_slot :
    (after (.remind 10010 [2#8, 1#8, 0#8, 30#8, 0#8, 60#8, 3#8, 4#8, 1#8, 0#8, 5#8, 1#8]) calm).rem.slots.a2 =
      some ⟨.periodic, 30, 60, none, some 3, 4, .status, 5, true, some ⟨40010, 30000⟩⟩ := by decide

/-- A slot that fires every 60 s, twice more, next at 10,000 ms. -/
def slot60 : SlotRecord := ⟨.periodic, 30, 60, none, some 2, 4, .status, 5, true, some ⟨10000, 60000⟩⟩

theorem test_remind_clear_makes_the_slot_idle :
    (after (.remindClear 10010 [2#8, 9#8, 0#8, 0#8, 0#8, 0#8, 0#8, 0#8, 0#8, 0#8, 0#8, 0#8])
      { calm with rem := { ReminderUnit.reset with slots := ⟨some slot60, none, some slot60, none⟩ } }).rem.slots =
      ⟨some slot60, none, none, none⟩ := by decide
theorem test_quiet : (after (.quiet 10010 [1#8]) calm).level.quiet = true := by decide
theorem test_quiet_of_2_is_refused : (after (.quiet 10010 [2#8]) calm).link.reports = [.refused 0x0A#8 0 .badField] := by decide
theorem test_sleep_announces :
    let u := after (.sleep 10010 [] []) calm
    (u.power.mode, u.power.announcing, u.hall.finalTimer, u.hall.txList) =
      (.active, true, some ⟨10110, 100⟩, [⟨.presence .final, false⟩]) := by decide
theorem test_sleep_at_once_in_fault :
    (after (.sleep 10010 [] []) { calm with hall := { calm.hall with state := .fault .stuck } }).power.mode = .sleep := by decide
theorem test_selftest_starts_the_test : (after (.selftest 10010 []) calm).power.check = .test false ⟨10310, 300⟩ := by decide
theorem test_selftest_is_busy_during_a_service :
    (after (.selftest 10010 []) (speaking .action)).link.reports = [.refused 0x0C#8 0 .busy] := by decide
theorem test_status_page_0 :
    ((after (.status 10010 [0#8]) calm).link.reports.head?) =
      some (.statusReply 0 [0#8, 2#8, 0#8, 0#8, 0#8, 0#8, 4#8, 0#8, 0#8, 0#8, 0#8, 0#8, 45#8, 0#8, 1#8, 16#8, 2#8, 0#8, 0#8, 0#8]) := by decide
theorem test_status_clears_the_latches_after_reading :
    let s := { calm with link := { calm.link with latches := ⟨true, false, false, false, false, false, true⟩ } }
    let u := after (.status 10010 [1#8]) s
    (u.link.latches, u.link.reports.map fun r => (match r with
      | .statusReply _ c => c.getLast?
      | _ => none)) = (Latches.clear, [some 0x41#8, some 0#8, some 0#8, some 0#8, some 0xFF#8]) := by decide
theorem test_reset_releases_the_floor :
    let u := after (.reset 10010 [] ⟨true, false, false, false, false, false⟩ []) (speaking .action)
    (u.floor.own.state, u.hall.txList, u.seq.queue, u.panel.keys.rep, u.link.reports) =
      (.free, [⟨.release 4 .cut, false⟩], [], .blocked, [.hello 0x02#8 7 3]) := by decide
theorem test_unknown_cue_is_refused : (after (.unknownCue 10010 0x2A#8 [1#8]) calm).link.reports = [.refused 0x2A#8 0 .unknownCue] := by decide
theorem test_length_25_discards :
    let u := after (.cueFrameDiscard 10010 [0x7E#8, 0x05#8] 25#8 false) calm
    (u.link.framer, u.link.framingErrors) = (.hunt, 1) := by decide
theorem test_gap_discards :
    let u := after (.interByteTimeout 10006 []) { calm with link := { calm.link with framer := .type 10000 } }
    (u.link.framer, u.link.framingErrors) = (.hunt, 1) := by decide
theorem test_gap_is_measured_from_its_bytes :
    let u := after (.interByteTimeout 10020 [0x7E#8, 0x05#8]) calm
    let v := after (.interByteTimeout 10003 [0x7E#8, 0x05#8]) calm
    (u.link.framer, u.link.framingErrors, u.now, v.link.framer, v.link.framingErrors) =
      (.hunt, 1, 10020, .length 10000 0x05#8, 0) := by decide
theorem test_report_sent_in_sleep :
    (after (.reportSent 10010) { calm with
      power := { calm.power with mode := .sleep }
      link := { calm.link with reports := [.queued 1, .queued 2] } }).link.reports = [.queued 2] := by decide

/-! ### The hall line -/

/-- The bits of a CLAIM of station 9, zone 3, rank 1 (ACTION), bucket 2, length 30, sequence 6, written out from R202. -/
def claimBits : List Bool :=
  [false] ++ [false, false] ++ [false, true] ++ [false, true, false, false, true] ++ [false, true, true]
    ++ [false, false, true, false] ++ [false, false, false, true, true, true, true, false] ++ [false, true, true, false]

theorem test_claim_bits_of_the_table :
    (HallFrame.bits (.claim ⟨9#5, 3#3, .action, 2#4, 30#8, 6#4⟩)).take 29 = claimBits := by decide
theorem test_claim_frame_is_good :
    judge (HallFrame.bits (.claim ⟨9#5, 3#3, .action, 2#4, 30#8, 6#4⟩)) = .good (.claim ⟨9#5, 3#3, .action, 2#4, 30#8, 6#4⟩) := by decide +kernel
theorem test_release_outcome_11_is_bad :
    judge ((HallFrame.bits (.release ⟨9#5, 3#3, 6#4, .cut⟩)).set 17 true) = .bad := by decide
theorem test_peer_claim :
    ((after (.peerClaim 10010 ⟨9#5, 3#3, .action, 2#4, 30#8, 6#4⟩) calm).peer 9).bind Peer.claim =
      some ⟨3, .heard .action, 2, 30, some 6, 10010, false, false, ⟨14070, 4060⟩, false, none⟩ := by decide
theorem test_peer_claim_preempts_a_lower_holder :
    let u := after (.peerClaim 10010 ⟨9#5, 3#3, .safety, 0#4, 30#8, 6#4⟩) (speaking .action)
    (u.seq.slot.map Service.preempt, u.floor.own.claim.map LiveClaim.preemptPending, u.floor.own.claim.map LiveClaim.ends) =
      (some true, some true, some [⟨12060, 3000⟩, ⟨13010, 3000⟩]) := by decide
theorem test_peer_release_of_another_sequence :
    ((after (.peerRelease 10010 ⟨9#5, 3#3, 3#4, .complete⟩) (beside (some claim9))).peer 9).bind Peer.claim = some claim9 := by decide
theorem test_peer_release_confirms_the_next_claim :
    let own := { OwnFloor.reset with state := .claiming, claim := some ⟨3, .heard .action, 0, 20, some 4, 9900, true, false, ⟨12960, 3060⟩, false, none⟩ }
    let s :=
      { calm with
        seq := { Sequencer.reset with queue := [prompt5 .action .claiming], slot := some (service5 [phrase12]) }
        floor := { FloorUnit.reset with own := own, peers := [peer9 (some { claim9 with confirmed := true })] } }
    let u := after (.peerRelease 10010 ⟨9#5, 3#3, 2#4, .complete⟩) s
    ((u.peer 9).bind Peer.claim, u.floor.own.state, u.floor.claimsConfirmed, u.seq.queue.map Entry.state) =
      (none, .holding, 1, [.speaking]) := by decide
theorem test_peer_presence_presumes :
    ((after (.peerPresence 10010 ⟨9#5, 3#3, .active, true, .on⟩) calm).peer 9).bind Peer.claim =
      some ⟨3, .presumed, 15, 255, none, 10010, true, true, ⟨36510, 26500⟩, false, none⟩ := by decide
theorem test_overlap_is_noticed_by_the_higher_number :
    let s0 := speaking .action
    let s :=
      { s0 with
        straps := ⟨10, 3⟩, floor := { s0.floor with peers := [peer9 (some { claim9 with zone := 2, confirmed := true })] } }
    let u := after (.peerPresence 10010 ⟨9#5, 3#3, .active, true, .on⟩) s
    (u.seq.slot.map Service.overlap, u.floor.overlaps, u.link.latches.overlap) = (some true, 1, true) := by decide
theorem test_bad_frame :
    let u := after (.badFrame 10010 (claimBits ++ List.replicate 11 true)) calm
    (u.hall.badFrames, u.hall.line, u.floor.peers) = (1, .receiving, []) := by decide +kernel
theorem test_failed_end_field_counts_the_idle_line :
    let bits := (HallFrame.bits (.release ⟨9#5, 3#3, 6#4, .cut⟩)).set 31 false
    let u := after (.badFrame 10010 bits) calm
    (u.hall.badFrames, u.hall.line, u.hall.idleCounting) = (1, .receiving, true) := by decide +kernel
theorem test_release_goes_first :
    let s :=
      { calm with
        hall :=
          { calm.hall with
            txList := [⟨.presence .heartbeat, false⟩, ⟨.claim ⟨.action, 0, 20, 4⟩, false⟩, ⟨.release 3 .complete, false⟩] } }
    (after (.frameStart 10010) s).hall.onLine = some (.release ⟨7#5, 3#3, 3#4, .complete⟩) := by decide
theorem test_presence_content_at_its_start :
    let s := { speaking .action with hall := { calm.hall with txList := [⟨.presence .heartbeat, false⟩] } }
    (after (.frameStart 10010) s).hall.onLine = some (.presence ⟨7#5, 3#3, .active, true, .on⟩) := by decide
theorem test_arbitration_loss_retries :
    let u := after (.arbitrationLoss 10010) (sending (.claim ⟨.action, 0, 20, 4⟩) claiming4)
    (u.hall.line, u.hall.txList, u.hall.errorRun) = (.receiving, [⟨.claim ⟨.action, 0, 20, 4⟩, false⟩], 0) := by decide
theorem test_bit_error_retries_and_a_failed_rest_is_counted :
    let s := sending (.claim ⟨.action, 0, 20, 4⟩) claiming4
    let u := after (.bitError 10010 none) s
    let v := after (.bitError 10010 (some ((HallFrame.bits (.release ⟨7#5, 3#3, 6#4, .cut⟩)).set 31 false))) s
    (u.hall.line, u.hall.txList.length, u.hall.errorRun, u.hall.ownBitErrors) = (.waitIdle, 1, 1, 1)
      ∧ (v.hall.ownBitErrors, v.hall.badFrames, v.hall.line) = (1, 1, .receiving) := by decide +kernel
theorem test_sixteenth_bit_error :
    let s := sending (.presence .heartbeat) OwnFloor.reset
    (after (.bitError 10010 none) { s with hall := { s.hall with errorRun := 15 } }).hall.state = .fault .errors := by decide
theorem test_stuck_line :
    let u := after (.stuckLine 10010) calm
    (u.hall.state, u.hall.recovery, u.link.reports) = (.fault .stuck, .scheduled ⟨20010, 10000⟩, [.event .hallFault]) := by decide
theorem test_line_is_not_stuck_before_10_ms :
    (after (.stuckLine 10005) { calm with hall := { calm.hall with watch := ⟨10010, 10⟩ } }).hall.state = .on := by decide
theorem test_own_claim_sent :
    let u := after (.ownClaimSent 10010) (sending (.claim ⟨.action, 0, 20, 4⟩) claiming4)
    (u.floor.own.claim, u.floor.claimsSent, u.hall.txList) =
      (some ⟨3, .heard .action, 0, 20, some 4, 10010, false, false, ⟨13070, 3060⟩, false, none⟩, 1, []) := by decide
/-- The record of `claiming4` whose CLAIM has been taken back. -/
def takenBack4 (why : TakenBack) : OwnFloor := { claiming4 with outgoing := some ⟨⟨.action, 0, 20, 4⟩, why⟩ }

theorem test_own_claim_sent_taken_back :
    let u := after (.ownClaimSent 10010) (sending (.claim ⟨.action, 0, 20, 4⟩) (takenBack4 .outranked))
    (u.floor.own.released, u.floor.claimsLost, u.floor.own.state, u.hall.txList) =
      (true, 1, .free, [⟨.release 4 .withdrawn, false⟩]) := by decide
/-- `sending` the CLAIM of `claiming4` beside a holder of a class. -/
def sendingBeside (cls : ClaimCls) : State :=
  let s := sending (.claim ⟨.action, 0, 20, 4⟩) claiming4
  { s with floor := { s.floor with peers := [peer9 (some { claim9 with cls := cls, confirmed := true })] } }

theorem test_own_claim_sent_preempts_a_lower_class :
    ((after (.ownClaimSent 10010) (sendingBeside (.heard .status))).peer 9).bind Peer.claim =
      some { claim9 with
        cls := .heard .status, confirmed := true, preemptPending := true, expiry := ⟨13010, 3000⟩
        outer := some ⟨13060, 4060⟩ } := by decide
theorem test_own_release_sent :
    let own := { OwnFloor.reset with claim := some { claim9 with seq := some 4 }, released := true }
    (after (.ownReleaseSent 10010) (sending (.release 4 .complete) own)).floor.own.claim = none := by decide
theorem test_recovery_presence_restores :
    let s := sending (.presence .recovery) OwnFloor.reset
    let u := after (.ownPresenceSent 10010) { s with hall := { s.hall with state := .fault .errors, recovery := .attempting 9950 } }
    (u.hall.state, u.link.reports) = (.listenIn ⟨12510, 2500⟩, [.event .hallRestored]) := by decide
theorem test_listen_in_end :
    (after (.listenInEnd 10010) { calm with hall := { calm.hall with state := .listenIn ⟨10010, 2500⟩ } }).hall.state = .on := by decide
theorem test_heartbeat :
    let u := after (.heartbeat 70000) calm
    (u.hall.heartbeat, u.hall.txList) = (some ⟨72000, 2000⟩, [⟨.presence .heartbeat, false⟩]) := by decide
theorem test_heartbeat_replaces_one_on_the_line :
    let u := after (.heartbeat 70000) (sending (.presence .heartbeat) OwnFloor.reset)
    (u.hall.txList, (after (.ownPresenceSent 70003) u).hall.txList) =
      ([⟨.presence .heartbeat, false⟩], [⟨.presence .heartbeat, false⟩]) := by decide
theorem test_recovery_attempt :
    let s := { calm with hall := { calm.hall with state := .fault .errors, recovery := .scheduled ⟨10000, 10000⟩ } }
    (after (.recoveryAttempt 10000) s).hall.recovery = .attempting 10000 := by decide
theorem test_recovery_timeout :
    let s := { calm with hall := { calm.hall with state := .fault .errors, recovery := .attempting 9900 } }
    (after (.recoveryTimeout 10000) s).hall.recovery = .scheduled ⟨19900, 10000⟩ := by decide
theorem test_final_presence_timeout :
    let s := { calm with power := { calm.power with announcing := true }, hall := { calm.hall with finalTimer := some ⟨10000, 100⟩ } }
    (after (.finalPresenceTimeout 10000) s).power.mode = .sleep := by decide
theorem test_peer_lost :
    (after (.peerLost 15500 9#5) (beside (some { claim9 with expiry := ⟨16000, 4060⟩ }))).floor.peers = [⟨9, 3, .lost, 9000, none, none⟩] := by decide
theorem test_claim_expiry :
    ((after (.claimExpiry 13060 9#5) (beside (some claim9))).peer 9).bind Peer.claim = none := by decide
theorem test_settle_window_end_confirms_a_peer :
    (((after (.settleWindowEnd 10060 9#5) (beside (some { claim9 with settled := false, heard := 10000 }))).peer 9).bind
      Peer.claim).map (fun c => (c.confirmed, c.expiry)) = some (true, ⟨14060, 4000⟩) := by decide
theorem test_turn_gap_end :
    let s := { calm with floor := { FloorUnit.reset with own := { OwnFloor.reset with state := .gap, gapEnd := some ⟨10000, 250⟩ } } }
    (after (.turnGapEnd 10000) s).floor.own = OwnFloor.reset := by decide
theorem test_line_idle :
    (after (.lineIdle 10000) { calm with hall := { calm.hall with line := .waitIdle } }).hall.line = .idle := by decide

/-! ### Queue, service and outputs -/

/-- `calm` with an ACTION entry that waits behind the claim of peer 9. -/
def outranked5 : State := { beside (some claim9) with seq := { Sequencer.reset with queue := [prompt5 .action .queued] } }

theorem test_bucket_step_outranks :
    (after (.waitBucketStep 11000 5) outranked5).floor.own.outgoing.map (fun o => (o.content.bucket, o.takenBack)) =
      some (1, .no) := by decide
theorem test_bucket_0_does_not_outrank : (after (.waitBucketStep 10990 5) outranked5).floor.own.outgoing = none := by decide
theorem test_timebase_waits_for_an_end_not_yet_taken :
    (outranked5.instant 10999, outranked5.instant 11020, outranked5.instant 19000) = (10999, 11020, 11020) := by decide
theorem test_deadline :
    let s := { waiting5 with seq := { waiting5.seq with queue := [{ prompt5 .status .queued with deadline := some ⟨10000, 1000⟩ }] } }
    (after (.deadline 10000 5) s).link.reports = [.done 5 .expired] := by decide
theorem test_deadline_withdraws_the_claim :
    let e := { prompt5 .action .claiming with deadline := some ⟨10000, 1000⟩ }
    let s :=
      { calm with
        seq := { Sequencer.reset with queue := [e], slot := some (service5 [phrase12]) }
        floor := { FloorUnit.reset with own := { OwnFloor.reset with state := .claiming, claim := some { claim9 with seq := some 4 } } } }
    let u := after (.deadline 10000 5) s
    (u.link.reports, u.floor.own.state, u.hall.txList) =
      ([.done 5 .expired], .free, [⟨.release 4 .withdrawn, false⟩]) := by decide
theorem test_passed_deadline_is_not_taken :
    let e := { prompt5 .action .queued with deadline := some ⟨10000, 1000⟩ }
    (calm.eligible e, (calm.arrive 10011).eligible e) = (true, false) := by decide
theorem test_chime_end_cuts_the_last_step_and_starts_the_first_item :
    let s := serving .action [phrase12] .idle (.playing ⟨0, .speaker, false, 20, 62, 6, 9600, 9903⟩)
    let u := after (.chimeEnd 10000) s
    (u.tone.chime, u.speech, (after (.chimeEnd 9995) { s with now := 9990 }).tone) =
      (.idle, .playing 0 (some (12, 0)) 10000 none, s.tone) := by decide
theorem test_chime_end_cuts_for_a_notice :
    let s0 := serving .action [phrase12] .idle (.playing chime1)
    let s := { s0 with seq := { s0.seq with slot := some { service5 [phrase12] with preempt := true }, mask := ⟨true, true, true⟩ } }
    let u := after (.chimeEnd 10000) s
    (u.seq.queue.map Entry.cutCount, u.floor.own.state, u.hall.txList) =
      ([1], .free, [⟨.release 4 .cut, false⟩]) := by decide
theorem test_item_end_begins_the_gap :
    (after (.itemEnd 10200) (speaking .action)).speech = .gap 1 ⟨10240, 40⟩ := by decide
theorem test_last_item_completes :
    let s := serving .action [phrase12] (.playing 0 (some (12, 0)) 9700 none) .idle
    let u := after (.itemEnd 10200) s
    (u.link.reports, u.floor.own.state, u.hall.txList) = ([.done 5 .completed], .gap, [⟨.release 4 .complete, false⟩]) := by decide
theorem test_item_gap_end :
    (after (.itemGapEnd 10000) { speaking .action with speech := .gap 1 ⟨10000, 40⟩ }).speech = .playing 1 none 10000 none := by decide

/-- `calm` with a silent service that ends at 10,000 ms. -/
def showing5 : State :=
  { calm with
    seq :=
      { Sequencer.reset with
        queue := [{ prompt5 .status .showing with channels := ⟨false, false, true⟩ }]
        slot := some ⟨5, .silent, ⟨none, [], 4, []⟩, false, false, none, none, some ⟨10000, 4000⟩⟩ }
    power := { calm.power with timersHeld := true } }

theorem test_silent_service_end :
    (after (.silentServiceEnd 10000) showing5).link.reports = [.done 5 .completed] := by decide
theorem test_repeat_due :
    let u := after (.repeatDue 19500 5) { calm with panel := { Panel.reset with awaiting := [awaiting5] } }
    (u.panel.repeats, u.seq.queue.map fun e => (e.tag, e.repeatsLeft), u.link.reports) = ([⟨5, 9500⟩], [(5, 0)], [.queued 5]) := by decide
theorem test_phrase_read_timeout :
    let u := after (.phraseReadTimeout 10000) (speaking .action)
    (u.speech, u.store.readErrors) = (.playing 0 (some (12, 0)) 9700 (some 2400), 1) := by decide +kernel
theorem test_phrase_whose_first_read_fails_is_silent :
    let s0 := speaking .action
    let s :=
      { s0 with
        store := { s0.store with flash := ⟨[], [⟨9990, 9999, 131072, 131072⟩]⟩ }, speech := .playing 0 (some (12, 0)) 9998 none }
    let u := after (.phraseReadTimeout 10003) s
    (u.speech, u.store.readErrors) = (.playing 0 (some (12, 0)) 9998 (some 0), 1)
      ∧ (after (.itemEnd 10200) s).now = 10004 ∧ (after (.itemEnd 10200) u).now = 10200 := by decide +kernel
theorem test_high_four_bits_are_played_first : codesOf 0xA5#8 = [0xA#4, 0x5#4] := by decide
theorem test_chime_drives_a_note :
    (serving .action [] .idle (.playing chime0)).speakerDrive ≠ .silence := by decide
theorem test_tone_step_end :
    let s := serving .action [] .idle (.playing chime0)
    (after (.toneStepEnd 10000) s).tone.chime = .playing { chime0 with step := 1, stepStart := 10000 } := by decide
theorem test_rest_begun_late_is_counted_from_its_beginning :
    let s := serving .action [] .idle (.playing { chime0 with step := 1, stepStart := 10002 })
    ((after (.toneStepEnd 10050) s).tone.chime, (after (.toneStepEnd 10051) s).tone.chime) =
      (s.tone.chime, .playing { chime0 with step := 2, stepStart := 10051 }) := by decide
theorem test_click_end :
    (after (.clickEnd 10000) { calm with tone := ⟨.idle, .playing 62 ⟨10000, 40⟩⟩ }).tone.click = .idle := by decide

/-- `calm` with a text of 22 characters on line 1 at its first position. -/
def scrolling : State :=
  { calm with
    display :=
      { Display.reset with text := some ⟨List.replicate 22 65#8, .action⟩, line1Scroll := ⟨0, some ⟨⟨10000, 1000⟩, ⟨10000, 1000⟩⟩⟩ } }

theorem test_scroll_step :
    (after (.scrollStep 10004 .prompt) scrolling).display.line1Scroll = ⟨1, some ⟨⟨10254, 250⟩, ⟨10250, 1250⟩⟩⟩ := by decide
theorem test_scroll_holds_at_its_end :
    (after (.scrollStep 10000 .prompt)
      { scrolling with
        display := { scrolling.display with line1Scroll := ⟨1, some ⟨⟨10000, 250⟩, ⟨9999, 1250⟩⟩⟩ } }).display.line1Scroll =
      ⟨2, some ⟨⟨11000, 1000⟩, ⟨10999, 2250⟩⟩⟩ := by decide
theorem test_masked_blink_is_counted_from_its_beginning :
    let u :=
      after (.blinkPhase 10003 .line1) { calm with display := { Display.reset with blink := .masked true ⟨10000, 250⟩ } }
    (u.display.blink, (after (.blinkPhase 10249 .line1) u).display.blink, (after (.blinkPhase 10300 .line1) u).now) =
      (.masked false ⟨10253, 250⟩, .masked false ⟨10253, 250⟩, 10256) := by decide
theorem test_ambient_sample_is_clamped :
    let u := after (.ambientSample 70000 120) calm
    (u.level.ring, u.level.sampleDue) = ([110], some ⟨70250, 250⟩) := by decide
theorem test_ambient_sample_is_skipped_while_held :
    (after (.ambientSample 70000 50) { calm with level := { calm.level with hold := .held } }).level.ring = [] := by decide
theorem test_sample_hold_settles :
    (after (.sampleHoldSettled 10000) { calm with level := { calm.level with hold := .settling ⟨10000, 250⟩ } }).level.hold =
      .open_ := by decide
theorem test_level_of_the_quiet_hall : levelResult 45 4 0 false .action = ⟨66, 26, 80, false⟩ := by decide
theorem test_level_masked_by_noise : levelResult 90 7 0 false .status = ⟨85, 45, 128, true⟩ := by decide

/-! ### Reminders, keys, power -/

/-- `calm` with a running estimate of 61 s and a mark at 60 s. -/
def counting : State :=
  { calm with
    rem :=
      { ReminderUnit.reset with
        estimate := 61, running := true, secondPhase := some ⟨10000, 1000⟩, marks := ⟨⟨61, .armed⟩, ⟨30, .armed⟩, ⟨0, .unused⟩, ⟨0, .unused⟩⟩ }
    seq := { Sequencer.reset with mask := ⟨true, true, true⟩ } }

theorem test_progress_fires_the_lowest_crossed_mark :
    let u := after (.progress 10000 [0#8, 10#8, 1#8]) counting
    (u.rem.marks.a0.state, u.rem.marks.a1.state, u.seq.queue.map fun e => (e.tag, e.param1, e.deadline)) =
      (.spent, .spent, [(69, 10, some ⟨40000, 30000⟩)]) := by decide
theorem test_decrement_crosses_a_mark :
    let u := after (.estimateDecrement 10000) counting
    (u.rem.estimate, u.rem.marks.a0.state, u.rem.marks.a1.state, u.seq.queue.map fun e => (e.tag, e.param1)) =
      (60, .spent, .armed, [(68, 60)]) := by decide

/-- `calm` with the slot of `slot60` as slot 2. -/
def reminding : State :=
  { calm with
    rem := { ReminderUnit.reset with slots := ⟨none, none, some slot60, none⟩ }
    seq := { Sequencer.reset with mask := ⟨true, true, true⟩ } }

theorem test_slot_firing_reloads :
    let u := after (.slotFiring 10000 2) reminding
    (u.rem.slots.a2.bind SlotRecord.nextFiring, u.rem.slots.a2.bind SlotRecord.remaining, u.seq.queue.map Entry.tag) =
      (some ⟨70000, 60000⟩, some 1, [66]) := by decide
theorem test_volume_key_steps_within_a_session_only :
    let u := after (.keyPress 10010 .vup) { calm with panel := { Panel.reset with inSession := true } }
    (u.panel.volume, u.tone.click, (after (.keyPress 10010 .vup) calm).panel.volume) =
      (5, .playing 92 ⟨10050, 40⟩, 4) := by decide

/-- `calm` with a key pressed since 9,000 ms. -/
def pressed (k : Key) : State := { calm with panel := { Panel.reset with keys := Panel.reset.keys.set k (.pressed ⟨10500, 1500⟩) } }

theorem test_short_press : (after (.keyRelease 10010 .ok) (pressed .ok)).link.reports = [.key .ok false] := by decide
theorem test_release_within_the_debounce_is_not_taken :
    let u := after (.keyPress 10010 .ok) calm
    ((after (.keyRelease 10011 .ok) u).panel.keys.ok, (after (.keyRelease 10040 .ok) u).panel.keys.ok) =
      (.pressed ⟨11510, 1500⟩, .up) := by decide
theorem test_long_press :
    let u := after (.keyLong 10500 .ok) (pressed .ok)
    (u.link.reports, u.panel.keys.ok) = ([.key .ok true], .long) := by decide
theorem test_dim_deadline :
    let u := after (.dimDeadline 70000) calm
    (u.power.mode, u.display.brightness, u.power.standby) = (.dim, 4, some ⟨670000, 600000⟩) := by decide
theorem test_standby_deadline :
    let s := { calm with power := { calm.power with mode := .dim, dim := none, standby := some ⟨10000, 600000⟩ } }
    let u := after (.standbyDeadline 10000) s
    (u.power.mode, u.power.amp, u.display.brightness) = (.standby, .off, 1) := by decide

/-- `calm` asleep, its line SILENT. -/
def asleep : State :=
  { calm with
    power := { calm.power with mode := .sleep, dim := none, amp := .off }
    hall := HallPort.asleep calm.hall
    display := { Display.reset with brightness := 0 } }

theorem test_wake_from_sleep_and_awake :
    let u := after (.wake 20000 .startBit) asleep
    (u.power.mode, u.hall.state, u.hall.heartbeat, u.display.brightness) =
      (.active, .listenIn ⟨22500, 2500⟩, some ⟨20700, 700⟩, 15)
    ∧ after (.wake 10000 .startBit) calm = { calm with seq := { calm.seq with askedAt := 10000 } } := by decide
theorem test_held_key_wakes_and_is_pressed_again :
    let u := after (.wake 20000 (.key .ok)) { asleep with panel := (pressed .ok).panel }
    (u.power.mode, u.panel.keys.ok, u.link.reports, (after (.keyPress 20030 .ok) u).panel.keys.ok) =
      (.active, .up, [.key .ok true], .pressed ⟨21530, 1500⟩) := by decide

theorem test_key_press_in_sleep_wakes_30_ms_before :
    let u := after (.keyPress 20000 .ok) asleep
    let v := after (.keyPress 10010 .ok) asleep
    (u.power.mode, u.power.dim, u.panel.keys.ok, u.hall.state) =
        (.active, some ⟨80000, 60000⟩, .pressed ⟨21500, 1500⟩, .listenIn ⟨22470, 2500⟩)
      ∧ (v.power.mode, v.panel.keys.ok, (after (.keyPress 10030 .ok) v).panel.keys.ok) =
        (.active, .up, .pressed ⟨11530, 1500⟩) := by decide
theorem test_partial_frame_stands_no_longer_than_its_gap :
    let s := { calm with link := { calm.link with framer := .type 10000 } }
    (s.instant 10004, s.instant 10100) = (10004, 10006) := by decide

/-! ### Witnesses: for every statement, and each of its clauses, a state and operands that meet its hypotheses -/

/-- `calm` with the entry of tag 5 CLAIMING, its deadline at 10,000 ms, and an own record. -/
def withdrawing (own : OwnFloor) : State :=
  { calm with
    seq :=
      { Sequencer.reset with
        queue := [{ prompt5 .action .claiming with deadline := some ⟨10000, 1000⟩ }], slot := some (service5 [phrase12]) }
    hall := { calm.hall with txList := [⟨.claim ⟨.action, 0, 20, 4⟩, false⟩] }
    floor := { FloorUnit.reset with own := { own with state := .claiming } } }

/-- `calm` with 16 QUEUED entries of one class and one arrival stamp, of the tags 20 to 35 in the order they were made. -/
def fullOf (cls : Cls) : State :=
  { calm with
    seq :=
      { Sequencer.reset with
        queue := (List.range 16).map fun n => { prompt5 cls .queued with tag := 20 + n, made := n }
        madeCount := 16, mask := ⟨true, true, true⟩ } }

/-- The last entry of `fullOf`. -/
def last35 (cls : Cls) : Entry := { prompt5 cls .queued with tag := 35, made := 15 }

theorem fullOf_in_order (cls : Cls) : QueueInOrder (fullOf cls) := by unfold QueueInOrder; cases cls <;> decide
theorem fullOf_victim (cls : Cls) : IsVictim (fullOf cls) (last35 cls) := by
  refine ⟨rfl, (fullOf cls).seq.queue.take 15, [], rfl, ?_, by intro x h; cases h⟩
  cases cls <;> decide
theorem fullOf_evicts {cls : Cls} {n : Nat} (h : cls.val < n) : Evicts (fullOf cls) n (last35 cls) :=
  ⟨fullOf_in_order cls, by cases cls <;> decide, fullOf_victim cls, h⟩
theorem fullOf_full {cls : Cls} {n : Nat} (h : n ≤ cls.val) : QueueFull (fullOf cls) n :=
  ⟨fullOf_in_order cls, by cases cls <;> decide, last35 cls, fullOf_victim cls, h⟩

theorem witness_StepRunsFrontCommand : State.reset.pending = [] := rfl
theorem witness_CommandsKeepTheEnvironment :
    (∃ u, exec (.heartbeat 11000) calm = .next u)
      ∧ (∀ t station zone down flash, Instr.heartbeat 11000 ≠ .powerOnReset t station zone down flash)
      ∧ (∀ t b rx, Instr.heartbeat 11000 ≠ .interByteTimeout t (b :: rx))
      ∧ (∀ t k, Instr.heartbeat 11000 = .keyPress t k → calm.power.mode ≠ .sleep)
      ∧ (⟨70000, 250⟩ : Timer) ∈ calm.runningTimers ∧ ∀ tm ∈ calm.runningTimers, 70000 ≤ tm.due + (tm.len + 99) / 100 :=
  ⟨⟨_, rfl⟩, (fun _ _ _ _ _ h => by cases h), (fun _ _ _ h => by cases h), (fun _ _ h => by cases h), by decide, by decide⟩
theorem witness_StepKeepsCounters :
    CountersBounded (calm.withPending [.heartbeat 11000]) ∧ ∃ u, step (calm.withPending [.heartbeat 11000]) = .next u := by
  refine ⟨?_, _, rfl⟩; unfold CountersBounded counter; decide
theorem witness_StepKeepsStores :
    StoresBounded ((fullOf .status).withPending [.heartbeat 11000])
      ∧ ∃ u, step ((fullOf .status).withPending [.heartbeat 11000]) = .next u := by
  refine ⟨?_, _, rfl⟩; unfold StoresBounded QueueInOrder; decide
theorem witness_StepKeepsStores_for_tags_and_peers :
    (let e : Entry := { prompt5 .status .queued with tag := 74, origin := .key };
      let a : Awaiting := ⟨63, .status, 2, 90, 0, ⟨true, true, true⟩, 1, 5, 9000, ⟨14000, 5000⟩⟩;
      let s :=
        ({ beside (some claim9) with
          seq := { Sequencer.reset with queue := [prompt5 .status .queued, e] }
          panel := { Panel.reset with awaiting := [a] } }).withPending [.heartbeat 11000];
      TagsHeldOnce s ∧ OneRecordEach s ∧ (s.seq.queue.map Entry.tag).Nodup ∧ ∃ u, step s = .next u) := by
  refine ⟨?_, ?_, by decide, _, rfl⟩
  · unfold TagsHeldOnce TagInRange; decide
  · unfold OneRecordEach; decide
theorem witness_StepKeepsValues :
    ValuesBounded (calm.withPending [.heartbeat 11000]) ∧ PendingBounded (calm.withPending [.heartbeat 11000])
      ∧ ∃ u, step (calm.withPending [.heartbeat 11000]) = .next u := by
  refine ⟨?_, ?_, _, rfl⟩
  · unfold ValuesBounded; decide
  · intro v h; cases h
theorem witness_StepKeepsMemoryCanonical :
    MemoryCanonical ((checking image).withPending [.storeCheckEnd 400])
      ∧ ∃ u, step ((checking image).withPending [.storeCheckEnd 400]) = .next u := by
  refine ⟨?_, _, rfl⟩; unfold MemoryCanonical; decide
theorem witness_SleepIsStill :
    asleep.power.mode = .sleep ∧ stirsSleep (.heartbeat 11000) = false ∧ ∃ u, exec (.heartbeat 11000) asleep = .next u :=
  ⟨rfl, rfl, _, rfl⟩
theorem witness_SelectionFrame : (speaking .action).seq.slot.isSome = true := rfl

/-- `calm` with a masked ACTION entry before an entry of the tag 5. -/
def choosing (e : Entry) : State :=
  { calm with
    seq := { Sequencer.reset with queue := [{ prompt5 .action .queued with tag := 6 }, e], mask := ⟨true, false, false⟩ } }

/-- An entry that is shown alone. -/
def shown5 : Entry := { prompt5 .status .queued with channels := ⟨false, false, true⟩ }

theorem choosing_takes_an_audible_entry (hall : HallState) (h : hall = .on ∨ hall = .off ∨ hall = .fault .stuck) :
    NextTaken { choosing (prompt5 .status .queued) with hall := { calm.hall with state := hall } } (prompt5 .status .queued) := by
  refine ⟨rfl, [{ prompt5 .action .queued with tag := 6 }], [], rfl, fun x hx hm => ?_, rfl, rfl, rfl, (fun h => by cases h),
    .inr ⟨by rcases h with h | h | h <;> subst h <;> decide, (fun _ h => by cases h), (fun tm hl => ?_), fun _ => ?_⟩,
    fun _ h => by cases h⟩
  · rw [List.mem_singleton.mp hx] at hm; exact Bool.noConfusion (show true = false from hm.2.1)
  · rcases h with h | h | h <;> subst h <;> cases hl
  · intro x hx; exact absurd hx (List.not_mem_nil)
theorem choosing_takes_a_silent_entry : NextTaken (choosing shown5) shown5 := by
  refine ⟨rfl, [{ prompt5 .action .queued with tag := 6 }], [], rfl, fun x hx hm => ?_, rfl, rfl, rfl, (fun h => by cases h),
    .inl (.inl rfl), fun _ h => by cases h⟩
  rw [List.mem_singleton.mp hx] at hm; exact Bool.noConfusion (show true = false from hm.2.1)
theorem witness_SelectionFrame_of_the_next_entry :
    SilentNow (choosing shown5) shown5 ∧ (choosing shown5).entry 5 = some shown5
      ∧ (choosing shown5).power.mode ≠ .sleep
      ∧ (∀ hall ∈ [HallState.on, .off],
          let s := { choosing (prompt5 .status .queued) with hall := { calm.hall with state := hall } }
          ¬ SilentNow s (prompt5 .status .queued) ∧ s.entry 5 = some (prompt5 .status .queued) ∧ s.power.mode ≠ .sleep)
      ∧ (let s := { choosing (prompt5 .status .queued) with hall := { calm.hall with state := .fault .stuck } };
        SilentNow s (prompt5 .status .queued)) := by
  unfold SilentNow; decide
theorem witness_SelectionFrame_of_no_entry :
    waiting5.power.mode ≠ .sleep ∧ waiting5.seq.slot = none ∧ ∀ e ∈ waiting5.seq.queue, ¬ MaySelect waiting5 e := by
  refine ⟨by decide, rfl, fun e he hm => ?_⟩
  rw [List.mem_singleton.mp he] at hm; exact absurd hm.2.1 (by decide)
theorem witness_PowerOnResetStartsAfresh : State.reset.pending = calm.pending := rfl
theorem witness_StoreCheckEndGivesHello :
    (checking image).power.mode ≠ .sleep ∧ (checking image).store.state = .checking ∧ (checking image).power.check = .idle
      ∧ (checking image).link.listening = false ∧ (checking image).link.reports = []
      ∧ (checking image).link.early.length ≤ 15 ∧ State.reset.power.check ≠ .idle
      ∧ State.reset.store.state = .checking := by decide

/-- The test of the power-on check with 15 reports held for HELLO. -/
def testingFirst : State :=
  { State.reset with
    link := { CueLink.reset with early := List.replicate 15 (.key .ok false) }
    level := { LevelUnit.reset with sampleDue := some ⟨500, 250⟩ }
    power := { Power.reset with amp := .on, check := .test true ⟨420, 300⟩ } }

theorem witness_SpeakerCheckClassifies_at_power_on :
    testingFirst.power.mode ≠ .sleep ∧ testingFirst.power.check = .test true ⟨420, 300⟩ ∧ DueAt testingFirst 420 420
      ∧ testingFirst.link.listening = false ∧ testingFirst.link.reports = [] ∧ testingFirst.link.early.length = 15
      ∧ testingFirst.store.state = .checking
      ∧ ({ testingFirst with store := { PhraseStore.reset with state := .ready } }).store.state ≠ .checking := by
  unfold DueAt; decide
theorem witness_SpeakerCheckClassifies :
    testing.power.mode ≠ .sleep ∧ testing.power.check = .test false ⟨10300, 300⟩ ∧ DueAt testing 10300 10300
      ∧ testing.link.listening = true ∧ ReportFits testing := by unfold DueAt ReportFits; decide

/-- `serving` whose output waits for the warm-up. -/
def warmingService : State :=
  { serving .action [phrase12] .idle .idle with
    seq :=
      { Sequencer.reset with
        queue := [prompt5 .action .speaking], slot := some { service5 [phrase12] with pendingLevel := some ⟨66, 26, 80, false⟩ } }
    power := { calm.power with amp := .warming ⟨10120, 120⟩, timersHeld := true } }

theorem witness_WarmUpEndStartsOutput :
    (warming.power.mode ≠ .sleep ∧ warming.power.amp = .warming ⟨10120, 120⟩ ∧ DueAt warming 10120 10120
      ∧ warming.power.check = .warmUp false)
    ∧ warmingService.power.mode ≠ .sleep ∧ warmingService.power.amp = .warming ⟨10120, 120⟩ ∧ DueAt warmingService 10120 10120
      ∧ warmingService.power.check = .idle
      ∧ warmingService.seq.slot = some { service5 [phrase12] with pendingLevel := some ⟨66, 26, 80, false⟩ }
      ∧ warmingService.served = some (prompt5 .action .speaking) := by unfold DueAt; decide
theorem witness_WarmUpEndStartsOutput_masked :
    let v := { service5 [phrase12] with pendingLevel := some ⟨85, 45, 128, true⟩ }
    let s :=
      { warmingService with
        seq := { warmingService.seq with slot := some v }, display := { Display.reset with text := some ⟨[65#8], .action⟩ } }
    s.seq.slot = some v ∧ s.served = some (prompt5 .action .speaking) ∧ s.display.text = some ⟨[65#8], .action⟩
      ∧ s.display.blink = .steady ∧ DueAt s 10120 10120 := by unfold DueAt; decide
theorem witness_SpeakerFaultStopsOutput :
    ((speaking .action).power.mode ≠ .sleep ∧ ((speaking .action).arrive 10000).senses .overcurrent = true
      ∧ (speaking .action).speaking = some (prompt5 .action .speaking, service5 [phrase12, .pause 200])
      ∧ (service5 [phrase12, .pause 200]).removal = none ∧ ReportFits (speaking .action))
    ∧ (let s := serving .action [phrase12] .idle (.playing chime0);
      (s.arrive 10000).senses .openLine = true ∧ s.speaking = some (prompt5 .action .speaking, service5 [phrase12]))
    ∧ (let v := { service5 [phrase12] with removal := some .cancelled };
      let s0 := serving .action [phrase12] .idle (.playing chime0);
      let s := { s0 with seq := { s0.seq with slot := some v } };
      (s.arrive 10000).senses .openLine = true ∧ s.speaking = some (prompt5 .action .speaking, v)
        ∧ (prompt5 .action .speaking).origin = .machine ∧ s.link.listening = true
        ∧ s.link.reports.length + 2 ≤ 16) := by
  unfold ReportFits; decide +kernel
theorem witness_CutReleased :
    (let s := speaking .action;
      s.hall.state.isFault = false ∧ s.hall.recovery ≠ .waiting ∧ s.floor.own.state = .holding ∧ ReleaseSeq s.floor.own 4)
    ∧ ReleaseSeq { OwnFloor.reset with state := .holding, nextSeq := 0 } 15
    ∧ (let s := { speaking .action with floor := FloorUnit.reset }; s.floor.own.state ≠ .holding) :=
  ⟨⟨by decide, by decide, rfl, rfl⟩, rfl, by decide⟩
theorem witness_FramerTakesWholeCue : CueReady calm ∧ (List.replicate 24 0#8).length ≤ 24 := by unfold CueReady; decide
theorem witness_PartialFramesAreDiscarded :
    (CueReady calm ∧ 24 < (25#8).toNat)
    ∧ (let s := { calm with link := { calm.link with framer := .type 10000 } };
      s.power.mode ≠ .sleep ∧ s.link.listening = true ∧ s.link.framer ≠ .hunt ∧ s.link.framer.stamp = some 10000
        ∧ s.now ≤ 10000 + 6 ∧ DueAt s 10005 (10000 + 5)
        ∧ (let u := { s with now := 10007 }; u.link.framer.stamp = some 10000 ∧ 10000 + 6 < u.now))
    ∧ (CueReady calm ∧ calm.instant (10005 - 5) + 5 ≤ calm.instant 10005)
    ∧ calm.instant 10003 + 1 < calm.instant (10003 - 5) + 5 := by unfold CueReady DueAt; decide
theorem witness_ReportsLeaveAndJoin :
    (calm.link.listening = true ∧ calm.link.reports.length < 16
      ∧ 16 ≤ ({ calm with link := { calm.link with reports := List.replicate 16 (.queued 1) } }).link.reports.length)
    ∧ State.reset.link.listening = false ∧ State.reset.link.early.length < 15
    ∧ testingFirst.link.listening = false ∧ 15 ≤ testingFirst.link.early.length := by decide

/-- The state at which a cue's payload is checked. -/
def atCue (t : Nat) (type : Byte) (payload : List Byte) (s : State) : State := cueActivity type payload (s.arrive t)

/-- The reason a cue is refused for. -/
def refusal (type : Byte) (payload : List Byte) (s : State) : Option Reason :=
  match checkCue s.keysDown type payload s with
  | .refused r => some r
  | .taken _ => none

theorem witness_RefusedCuesChangeLittle :
    CueReady calm ∧ ReportFits calm ∧ refusal 0x0A#8 [2#8] (atCue 10010 0x0A#8 [2#8] calm) = some .badField
      ∧ (0x0F#8).toNat > 14 ∧ cueLength 0x05#8 = some 12 ∧ [0#8].length ≠ 12
      ∧ ({ calm with link := { calm.link with locked := true } }).link.locked = true := by
  unfold CueReady ReportFits; decide

/-- A CONFIGURE payload of two languages, volume 9, one mark at its lowest value and one at its highest. -/
def configurePayload : List Byte := [3#8, 1#8, 9#8, 5#8, 0#8, 30#8, 0x1C#8, 0x20#8, 0#8, 0#8, 0#8, 0#8, 3#8, 2#8]

theorem witness_ConfigureTakesEffect :
    CueReady calm ∧ calm.link.locked = false ∧ configurePayload.length = 14 ∧ 1 ≤ at1 configurePayload 0
      ∧ at1 configurePayload 0 ≤ 15 ∧ at1 configurePayload 1 ≤ 3 ∧ at1 configurePayload 13 ≤ 2
      ∧ (∀ i ∈ [4, 6, 8, 10], at2 configurePayload i = 0 ∨ 30 ≤ at2 configurePayload i ∧ at2 configurePayload i ≤ 7200) := by
  unfold CueReady; decide
theorem witness_SessionsBeginAndEnd :
    CueReady waiting5 ∧ at1 [1#8, 255#8] 0 = 1 ∧ at1 [1#8, 255#8] 1 = 255 ∧ at1 [0#8, 0#8] 0 = 0
      ∧ (waiting5.seq.queue.map Entry.tag).Nodup := by unfold CueReady; decide
theorem witness_SessionsBeginAndEnd_for_each_entry :
    (waiting5.panel.inSession = false ∧ ({ waiting5 with panel := { Panel.reset with inSession := true } }).panel.inSession = true)
    ∧ (∀ s ∈ [speaking .status, withdrawing claiming4, showing5],
      CueReady s ∧ (s.seq.queue.map Entry.tag).Nodup ∧ s.served.isSome = true ∧ s.seq.slot.isSome = true)
    ∧ (speaking .status).served = some (prompt5 .status .speaking) ∧ (prompt5 .status .speaking).cls.val ≤ 1
    ∧ showing5.link.reports.length + showing5.seq.queue.length + 4 ≤ 16 := by unfold CueReady; decide
theorem witness_SmallSettingsAreApplied :
    CueReady calm ∧ (7#8).toNat < 8 ∧ (1#8).toNat < 2 ∧ at1 [31#8, 3#8, 255#8, 255#8, 255#8] 0 ≤ 31
      ∧ at2 [31#8, 3#8, 255#8, 255#8, 255#8] 1 ≤ 1023 ∧ at2 [31#8, 3#8, 255#8, 255#8, 255#8] 3 = 65535 := by
  unfold CueReady; decide
theorem witness_MarkFires :
    MarkFires counting 10 1 ∧ CueReady counting ∧ [0#8, 10#8, 1#8].length = 3 ∧ min 43200 (at2 [0#8, 10#8, 1#8] 0) = 10
      ∧ (∀ n, ¬ MarkCrossed counting 61 n) ∧ counting.store.state ≠ .ready ∧ counting.seq.queue.length < 16
      ∧ counting.entry 69 = none
      ∧ ({ counting with
          seq := { Sequencer.reset with queue := [{ prompt5 .status .queued with tag := 69, origin := .mark }] } }).entry 69
          = some { prompt5 .status .queued with tag := 69, origin := .mark } := by
  refine ⟨⟨by unfold MarkCrossed; decide, ?_⟩, by unfold CueReady; decide, by decide, by decide, ?_, by decide, by decide,
    by decide, by decide⟩
  · intro m h
    obtain ⟨h3, ha, -, -⟩ := h
    interval_cases m <;> revert ha <;> decide
  · rintro n ⟨h3, -, hle, hlt⟩
    interval_cases n <;> revert hle hlt <;> decide
theorem witness_ProgressSetsTheEstimate : CueReady calm ∧ [255#8, 255#8, 1#8].length = 3 ∧ at1 [255#8, 255#8, 1#8] 2 ≤ 1 := by
  unfold CueReady; decide

/-- A PROMPT payload with its fields at the ends of their ranges. -/
def promptPayload (tag : Byte) : List Byte :=
  [tag, 3#8, 255#8, 0xA8#8, 0xC0#8, 0#8, 0#8, 7#8, 1#8, 3#8, 255#8, 255#8]

theorem witness_PromptMakesOrReplacesAnEntry :
    (CueReady calm ∧ PromptInRange (promptPayload 63#8) ∧ at1 (promptPayload 63#8) 0 = 63 ∧ at2 (promptPayload 63#8) 3 = 43200
      ∧ TemplateKnown calm 255 ∧ calm.entry 63 = none ∧ calm.awaitingRecord 63 = none ∧ calm.seq.queue.length < 16
      ∧ ReportFits calm)
    ∧ (let s := { calm with panel := { Panel.reset with awaiting := [awaiting5] } };
      CueReady s ∧ PromptInRange (promptPayload 5#8) ∧ TemplateKnown s 255 ∧ s.entry 5 = none
        ∧ s.awaitingRecord 5 = some awaiting5 ∧ s.seq.queue.length < 16 ∧ s.link.reports.length + 2 ≤ 16)
    ∧ (CueReady waiting5 ∧ at1 (promptPayload 5#8) 0 = 5 ∧ TemplateKnown waiting5 255
      ∧ waiting5.entry 5 = some (prompt5 .status .queued) ∧ waiting5.link.reports.length + 2 ≤ 16)
    ∧ (let s := { calm with store := { PhraseStore.reset with state := .ready, flash := image } };
      CueReady s ∧ ReportFits s ∧ ¬ TemplateKnown s 255)
    ∧ (CueReady (speaking .action) ∧ TemplateKnown (speaking .action) 255
      ∧ (speaking .action).entry 5 = some (prompt5 .action .speaking) ∧ ReportFits (speaking .action)) := by
  unfold CueReady ReportFits TemplateKnown PromptInRange
  exact ⟨by decide, by decide, by decide, by decide, by decide⟩
theorem witness_PromptMakesOrReplacesAnEntry_in_a_full_queue :
    (Evicts (fullOf .action) (at1 (promptPayload 63#8) 1) (last35 .action) ∧ QueueFull (fullOf .safety) (at1 (promptPayload 63#8) 1))
    ∧ ∀ s ∈ [fullOf .action, fullOf .safety, { fullOf .action with panel := { Panel.reset with awaiting := [{ awaiting5 with tag := 63 }] } }],
      CueReady s ∧ s.store.state ≠ .ready ∧ s.entry 63 = none ∧ ReportFits s ∧ s.link.reports.length + 3 ≤ 16 := by
  unfold CueReady ReportFits
  exact ⟨⟨fullOf_evicts (by decide), fullOf_full (by decide)⟩, by decide⟩
theorem witness_CancelAndAckAnswer :
    (CueReady waiting5 ∧ waiting5.entry (5#8).toNat = some (prompt5 .status .queued)
      ∧ (prompt5 .status .queued).origin = .machine ∧ ReportFits waiting5)
    ∧ (let s := { calm with panel := { Panel.reset with awaiting := [awaiting5] } };
      CueReady s ∧ s.entry (5#8).toNat = none ∧ s.awaitingRecord (5#8).toNat = some awaiting5 ∧ ReportFits s)
    ∧ (calm.entry (63#8).toNat = none ∧ calm.awaitingRecord (63#8).toNat = none
      ∧ ∀ r ∈ calm.panel.repeats, r.tag ≠ (63#8).toNat)
    ∧ (let s := { waiting5 with panel := { Panel.reset with repeats := [⟨5, 9000⟩] } };
      CueReady s ∧ s.awaitingRecord (5#8).toNat = none ∧ (∃ r ∈ s.panel.repeats, r.tag = (5#8).toNat)
        ∧ s.entry (5#8).toNat = some (prompt5 .status .queued) ∧ ReportFits s)
    ∧ (let s := { speaking .action with panel := { Panel.reset with repeats := [⟨5, 9000⟩] } };
      CueReady s ∧ s.awaitingRecord (5#8).toNat = none ∧ (∃ r ∈ s.panel.repeats, r.tag = (5#8).toNat)
        ∧ s.entry (5#8).toNat = some (prompt5 .action .speaking)
        ∧ s.seq.slot = some (service5 [phrase12, .pause 200]))
    ∧ (∀ s0 ∈ [showing5, withdrawing claiming4],
      let s := { s0 with panel := { Panel.reset with repeats := [⟨5, 9000⟩] } };
      CueReady s ∧ s.awaitingRecord (5#8).toNat = none ∧ (∃ r ∈ s.panel.repeats, r.tag = (5#8).toNat)
        ∧ ((s.entry (5#8).toNat).map Entry.origin) = some .machine ∧ ReportFits s)
    ∧ (showing5.entry 5).map Entry.state = some .showing ∧ ((withdrawing claiming4).entry 5).map Entry.state = some .claiming
    ∧ ∃ e, showing5.seq.queue = [e] := by
  unfold CueReady ReportFits
  exact ⟨by decide, by decide, by decide, by decide, by decide, by decide, by decide, by decide, _, rfl⟩

/-- A REMIND payload for slot 3 with delay and period at their largest. -/
def remindPayload : List Byte := [3#8, 1#8, 0x0E#8, 0x10#8, 0x0E#8, 0x10#8, 15#8, 4#8, 3#8, 0xA8#8, 0xC0#8, 1#8]

theorem witness_RemindProgramsASlot :
    (CueReady calm ∧ remindPayload.length = 12 ∧ at1 remindPayload 0 ≤ 3 ∧ at1 remindPayload 1 ≤ 2 ∧ at2 remindPayload 2 = 3600
      ∧ at2 remindPayload 4 = 3600 ∧ at1 remindPayload 6 ≤ 15 ∧ at1 remindPayload 8 ≤ 3 ∧ at2 remindPayload 9 = 43200
      ∧ at1 remindPayload 11 ≤ 1 ∧ calm.rem.slots.get (at1 remindPayload 0) = none)
    ∧ at2 (List.replicate 12 (0#8)) 2 = 0
    ∧ (let s := { calm with rem := { ReminderUnit.reset with slots := ⟨none, none, none, some slot60⟩ } };
      CueReady s ∧ at1 remindPayload 1 = 1 ∧ s.rem.slots.get (at1 remindPayload 0) = some slot60 ∧ slot60.mode = .periodic)
    ∧ (let r := { slot60 with mode := .oneShot };
      let s := { calm with rem := { ReminderUnit.reset with slots := ⟨none, none, none, some r⟩ } };
      s.rem.slots.get (at1 remindPayload 0) = some r ∧ r.mode ≠ .periodic) := by unfold CueReady; decide
theorem witness_SleepCueIsTaken :
    CueReady calm ∧ calm.panel.inSession = false ∧ calm.seq.queue = [] ∧ calm.panel.awaiting = []
      ∧ calm.rem.slots = ⟨none, none, none, none⟩ ∧ calm.power.check = .idle ∧ calm.power.announcing = false
      ∧ calm.hall.state.isUp = true ∧ (∀ x ∈ calm.hall.txList, x.frame ≠ .presence .final)
      ∧ ({ calm with hall := { calm.hall with state := .fault .stuck } }).hall.state.isUp = false := by unfold CueReady; decide
theorem witness_SleepCueIsTaken_refused :
    (∀ s ∈ [{ calm with panel := { Panel.reset with inSession := true } }, waiting5,
        { calm with panel := { Panel.reset with awaiting := [awaiting5] } }, reminding, testing,
        { calm with power := { calm.power with announcing := true } }],
      CueReady s ∧ ReportFits s)
    ∧ ({ calm with panel := { Panel.reset with inSession := true } }).panel.inSession = true ∧ waiting5.seq.queue ≠ []
    ∧ ({ calm with panel := { Panel.reset with awaiting := [awaiting5] } }).panel.awaiting ≠ []
    ∧ reminding.rem.slots.get 2 = some slot60 ∧ testing.power.check ≠ .idle
    ∧ ({ calm with power := { calm.power with announcing := true } }).power.announcing = true := by
  unfold CueReady ReportFits; decide
theorem witness_SelftestStartsACheck :
    (CueReady calm ∧ calm.seq.slot = none ∧ calm.floor.own.state ≠ .holding ∧ calm.power.check = .idle)
    ∧ CueReady testing ∧ ReportFits testing ∧ testing.power.check ≠ .idle := by unfold CueReady ReportFits; decide
theorem witness_StatusReportsFivePages :
    (CueReady calm ∧ NothingToSelect calm ∧ (1#8).toNat ≤ 1 ∧ calm.link.reports.length + 5 ≤ 16)
    ∧ CueReady (speaking .action) ∧ NothingToSelect (speaking .action) := by
  unfold CueReady NothingToSelect; decide
theorem witness_SoftResetClearsAndKeeps :
    (CueReady (speaking .action) ∧ (speaking .action).hall.recovery ≠ .waiting ∧ (speaking .action).floor.own.state = .holding
      ∧ (speaking .action).hall.state.isFault = false ∧ ReleaseSeq (speaking .action).floor.own 4)
    ∧ (let s := sending (.presence .heartbeat) OwnFloor.reset;
      let u := { s with hall := { s.hall with onLine := some (.presence ⟨7#5, 3#3, .active, false, .on⟩) } };
      CueReady u ∧ u.hall.line = .sending ∧ u.hall.onLine.isSome = true ∧ u.floor.own.claim = none)
    ∧ (let s := { speaking .action with hall := { calm.hall with state := .fault .errors, recovery := .waiting } };
      CueReady s ∧ s.hall.recovery = .waiting ∧ ∀ x ∈ s.hall.txList, x.isPresence = false)
    ∧ (let s0 := speaking .action;
      let s := { s0 with floor := { s0.floor with peers := [peer9 (some claim9)] } };
      CueReady s ∧ s.floor.own.claim.isSome = true ∧ (∀ y ∈ s.peerClaims, y.2.zone = 3 → y.2.confirmed = false)
        ∧ topClaim (s.peerClaims.filter fun y => y.2.zone = 3) = some (9, claim9) ∧ 9 ≠ s.straps.station)
    ∧ (let s0 := speaking .action;
      let s := { s0 with floor := { s0.floor with peers := [peer9 (some { claim9 with confirmed := true })] } };
      ∃ x ∈ s.peerClaims, x.2.zone = 3 ∧ x.2.confirmed = true) := by
  unfold CueReady
  exact ⟨⟨by decide, by decide, rfl, rfl, rfl⟩, by decide, by decide, by decide, ⟨_, List.mem_singleton.mpr rfl, rfl, rfl⟩⟩

theorem witness_HallFrameRoundTrip :
    (HallFrame.claim ⟨31#5, 7#3, .safety, 15#4, 255#8, 15#4⟩).good = true
      ∧ (HallFrame.release ⟨1#5, 0#3, 0#4, .withdrawn⟩).good = true
      ∧ (HallFrame.presence ⟨1#5, 0#3, .sleeping, true, .listenIn⟩).good = true := by decide
theorem witness_BadFramesReachNoBlock_by_their_check :
    (HallFrame.release ⟨1#5, 0#3, 0#4, .cut⟩).good = true
      ∧ 0xFF#8 ≠ crc8 (HallFrame.release ⟨1#5, 0#3, 0#4, .cut⟩).covered
      ∧ calm.hall.follows = true
      ∧ judge ((HallFrame.bits (.release ⟨1#5, 0#3, 0#4, .cut⟩)).set 31 false) = .badCheck := by decide +kernel
theorem witness_PeerClaimsAndReleases :
    (calm.power.mode ≠ .sleep ∧ calm.hall.follows = true ∧ 31#5 ≠ 0#5 ∧ 255#8 ≠ 0#8 ∧ (31#5).toNat ≠ calm.straps.station)
    ∧ (let s := beside (some claim9);
      s.power.mode ≠ .sleep ∧ s.hall.follows = true ∧ (9#5).toNat ≠ s.straps.station
        ∧ s.peer (9#5).toNat = some (peer9 (some claim9)) ∧ claim9.cls ≠ .presumed ∧ claim9.seq = some 2)
    ∧ (let s := beside (some presumed9);
      s.hall.follows = true ∧ s.peer (9#5).toNat = some (peer9 (some presumed9)) ∧ presumed9.cls = .presumed) := by decide
theorem witness_PeerClaimsAndReleases_by_preemption :
    (∀ due ∈ [13009, 13010, 13011], ∃ oc : LiveClaim,
      let s := speaking .action
      s.floor.own.claim = some oc ∧ oc.confirmed = true ∧ oc.zone = (3#3).toNat ∧ oc.cls = .heard .action
        ∧ Cls.action.val < Cls.safety.val ∧ oc.preemptPending = false ∧ oc.outer = none
        ∧ ({ oc with expiry := ⟨due, 3000⟩ }).expiry.due = due)
    ∧ (let s := speaking .action;
      s.power.mode ≠ .sleep ∧ s.hall.follows = true ∧ s.floor.own.state = .holding ∧ s.floor.own.outgoing = none
        ∧ s.seq.slot = some (service5 [phrase12, .pause 200]) ∧ (s.peer (9#5).toNat).bind Peer.claim = none) :=
  ⟨fun _ _ => ⟨_, rfl, rfl, rfl, rfl, by decide, rfl, rfl, rfl⟩, by decide⟩
theorem witness_PeerPresenceUpdatesTheView :
    (calm.power.mode ≠ .sleep ∧ calm.hall.follows = true ∧ (9#5).toNat ≠ calm.straps.station
      ∧ (calm.peer (9#5).toNat).bind Peer.claim = none ∧ calm.holderOf 3 = none)
    ∧ (let s := beside (some claim9);
      s.hall.follows = true ∧ (s.peer (9#5).toNat).bind Peer.claim = some claim9 ∧ claim9.cls ≠ .presumed)
    ∧ (let s := beside (some presumed9);
      s.hall.follows = true ∧ s.peer (9#5).toNat = some (peer9 (some presumed9)) ∧ presumed9.cls = .presumed) := by decide
theorem witness_PeerPresenceUpdatesTheView_at_an_overlap :
    (let s := speaking .action;
      s.power.mode ≠ .sleep ∧ s.hall.follows = true ∧ (9#5).toNat ≠ s.straps.station ∧ (3#3).toNat = s.straps.zone
        ∧ s.floor.own.state = .holding ∧ s.seq.slot = some (service5 [phrase12, .pause 200])
        ∧ (s.floor.own.claim.map LiveClaim.confirmed) = some true ∧ (s.floor.own.claim.map LiveClaim.zone) = some 3
        ∧ (s.peer (9#5).toNat).bind Peer.claim = none ∧ s.straps.station < (9#5).toNat ∧ (6#5).toNat < s.straps.station)
    ∧ calm.floor.own.state ≠ .holding
    ∧ (let s := beside (some { claim9 with confirmed := true });
      (s.peer (9#5).toNat).bind Peer.claim = some { claim9 with confirmed := true } ∧ claim9.zone = s.straps.zone) := by decide
theorem witness_BadFramesReachNoBlock :
    calm.power.mode ≠ .sleep ∧ calm.hall.follows = true ∧ judge (false :: List.replicate 39 false) = .bad
      ∧ ∀ f, judge (false :: List.replicate 39 false) ≠ .good f := by
  refine ⟨by decide, by decide, by decide +kernel, fun f h => ?_⟩
  rw [show judge (false :: List.replicate 39 false) = .bad by decide +kernel] at h
  cases h
theorem witness_FrameStartDrivesTheFirstFrame :
    let s := { calm with hall := { calm.hall with txList := [⟨.presence .final, false⟩, ⟨.claim ⟨.action, 0, 20, 4⟩, false⟩] } }
    (s.power.mode ≠ .sleep ∧ s.hall.line = .idle ∧ s.hall.txList ≠ [] ∧ (∀ x ∈ s.hall.txList, x.isRelease = false)
      ∧ ∃ x ∈ s.hall.txList, x.isClaim = true)
    ∧ ∃ x ∈ s.hall.txList ++ [⟨.release 3 .cut, false⟩], x.isRelease = true := by decide
theorem witness_PortTimersRun :
    (let s := { calm with hall := { calm.hall with line := .receiving, idleCounting := true } };
      s.power.mode ≠ .sleep ∧ s.hall.idleCounting = true ∧ s.hall.line ≠ .silent)
    ∧ (let s := { calm with hall := { calm.hall with state := .listenIn ⟨10010, 2500⟩ } };
      s.power.mode ≠ .sleep ∧ s.hall.state = .listenIn ⟨10010, 2500⟩ ∧ DueAt s 10010 10010)
    ∧ (calm.hall.heartbeat = some ⟨70000, 2000⟩ ∧ DueAt calm 70000 70000 ∧ calm.hall.state.isUp = true ∧ calm.hall.txList = [])
    ∧ (let s := { calm with hall := { calm.hall with txList := [⟨.presence .heartbeat, false⟩, ⟨.release 3 .cut, false⟩] } };
      s.hall.heartbeat = some ⟨70000, 2000⟩ ∧ s.hall.state.isUp = true
        ∧ s.hall.txList = [] ++ ⟨.presence .heartbeat, false⟩ :: [⟨.release 3 .cut, false⟩]
        ∧ ∀ x ∈ [] ++ [TxEntry.mk (.release 3 .cut) false], x.isPresence = false)
    ∧ (sending (.presence .heartbeat) OwnFloor.reset).hall.txList = [] ++ ⟨.presence .heartbeat, true⟩ :: []
    ∧ (sending (.presence .final) OwnFloor.reset).hall.heartbeat = some ⟨70000, 2000⟩
    ∧ ∃ x ∈ (sending (.presence .final) OwnFloor.reset).hall.txList, x.frame = .presence .final := by
  unfold DueAt; decide
theorem witness_FramesThatFailWaitAgain :
    (let s := sending (.claim ⟨.action, 0, 20, 4⟩) claiming4;
      s.power.mode ≠ .sleep ∧ Driving s (.claim ⟨.action, 0, 20, 4⟩) ∧ s.claimTakenBack = false ∧ s.hall.recovery ≠ .waiting
        ∧ s.hall.errorRun < 15)
    ∧ (let s :=
        sending (.claim ⟨.action, 0, 20, 4⟩)
          { OwnFloor.reset with outgoing := some ⟨⟨.action, 0, 20, 4⟩, .withdrawn⟩ };
      Driving s (.claim ⟨.action, 0, 20, 4⟩) ∧ s.floor.own.outgoing = some ⟨⟨.action, 0, 20, 4⟩, .withdrawn⟩
        ∧ s.floor.own.pendingClaim = none ∧ NothingToSelect s)
    ∧ (let s0 := sending (.presence .heartbeat) OwnFloor.reset;
      let s := { s0 with hall := { s0.hall with errorRun := 15 } };
      Driving s (.presence .heartbeat) ∧ 15 ≤ s.hall.errorRun ∧ s.hall.state.isUp = true ∧ s.power.announcing = false
        ∧ ReportFits s) := by unfold Driving NothingToSelect ReportFits; decide
theorem witness_FramesThatFailWaitAgain_by_a_bit_error :
    (∀ why ∈ [TakenBack.outranked, .withdrawn],
      let own : OwnFloor := { OwnFloor.reset with outgoing := some ⟨⟨.action, 0, 20, 4⟩, why⟩ }
      let s := sending (.claim ⟨.action, 0, 20, 4⟩) own
      Driving s (.claim ⟨.action, 0, 20, 4⟩) ∧ s.floor.own.outgoing = some ⟨⟨.action, 0, 20, 4⟩, why⟩
        ∧ s.floor.own.pendingClaim = none ∧ s.hall.errorRun < 15 ∧ s.hall.recovery ≠ .waiting ∧ why ≠ .no)
    ∧ (let s :=
        sending (.claim ⟨.action, 0, 20, 4⟩)
          { claiming4 with outgoing := some ⟨⟨.action, 0, 20, 4⟩, .withdrawn⟩, pendingClaim := some ⟨.safety, 0, 20, 5⟩ };
      Driving s (.claim ⟨.action, 0, 20, 4⟩) ∧ s.floor.own.pendingClaim = some ⟨.safety, 0, 20, 5⟩
        ∧ s.hall.state.isFault = false)
    ∧ (let s0 := sending (.presence .recovery) OwnFloor.reset;
      let s := { s0 with hall := { s0.hall with state := .fault .errors, recovery := .attempting 9950 } };
      Driving s (.presence .recovery) ∧ s.hall.recovery = .attempting 9950 ∧ s.hall.errorRun < 15)
    ∧ (let s0 := sending (.presence .final) OwnFloor.reset;
      let s := { s0 with hall := { s0.hall with errorRun := 16 }, power := { s0.power with announcing := true } };
      Driving s (.presence .final) ∧ 15 ≤ s.hall.errorRun ∧ s.hall.state.isUp = true ∧ s.power.announcing = true
        ∧ ReportFits s ∧ s.link.reports.length + 2 ≤ 16) := by unfold Driving ReportFits; decide
theorem witness_FramesThatFailWaitAgain_by_their_rest :
    (let s := sending (.claim ⟨.action, 0, 20, 4⟩) claiming4;
      s.power.mode ≠ .sleep ∧ Driving s (.claim ⟨.action, 0, 20, 4⟩) ∧ s.hall.errorRun < 15 ∧ s.hall.state.isUp = true
        ∧ s.power.announcing = false ∧ ReportFits s ∧ (7#5).toNat = s.straps.station)
    ∧ judge (HallFrame.bits (.release ⟨7#5, 3#3, 6#4, .cut⟩)) = .good (.release ⟨7#5, 3#3, 6#4, .cut⟩)
    ∧ judge (false :: List.replicate 39 false) = .bad
    ∧ judge ((HallFrame.bits (.release ⟨7#5, 3#3, 6#4, .cut⟩)).set 31 false) = .badCheck := by
  unfold Driving ReportFits; decide +kernel
theorem witness_FaultsOfTheHallLine :
    (calm.power.mode ≠ .sleep ∧ calm.hall.line ≠ .silent ∧ calm.hall.state.isUp = true ∧ calm.power.announcing = false
      ∧ ReportFits calm ∧ calm.hall.follows = true ∧ DueAt calm 10010 calm.hall.watch.due)
    ∧ (let s := { calm with hall := { calm.hall with watch := ⟨10010, 10⟩ } };
      max s.now 10005 + Config.tolerance s.hall.watch.len < s.hall.watch.due)
    ∧ ({ calm with hall := { calm.hall with state := .fault .errors } }).hall.state = .fault .errors
    ∧ State.reset.power.mode ≠ .sleep ∧ State.reset.hall.state = .off
    ∧ (HallFrame.release ⟨7#5, 0#3, 0#4, .cut⟩).good = true
    ∧ (HallFrame.release ⟨7#5, 0#3, 0#4, .cut⟩).station.toNat = calm.straps.station := by unfold ReportFits DueAt; decide
theorem witness_OwnClaimAndReleaseSent :
    (let s := sending (.claim ⟨.action, 0, 20, 4⟩) claiming4;
      s.power.mode ≠ .sleep ∧ Driving s (.claim ⟨.action, 0, 20, 4⟩)
        ∧ s.floor.own.outgoing = some ⟨⟨.action, 0, 20, 4⟩, .no⟩ ∧ s.floor.own.claim = none ∧ s.holderOf s.straps.zone = none
        ∧ NothingToSelect s ∧ s.hall.recovery ≠ .waiting ∧ s.floor.own.pendingClaim = none)
    ∧ (let s := sending (.release 4 .complete) { OwnFloor.reset with claim := some { claim9 with seq := some 4 }, released := true };
      Driving s (.release 4 .complete) ∧ s.floor.own.claim = some { claim9 with seq := some 4 } ∧ NothingToSelect s
        ∧ s.hall.recovery ≠ .waiting)
    ∧ (let s := sending (.release 3 .complete) { OwnFloor.reset with claim := some { claim9 with seq := some 4 } };
      Driving s (.release 3 .complete)) := by unfold Driving NothingToSelect; decide
theorem witness_OwnClaimAndReleaseSent_beside_a_holder :
    (let s := sendingBeside (.heard .status);
      Driving s (.claim ⟨.action, 0, 20, 4⟩) ∧ s.floor.own.outgoing = some ⟨⟨.action, 0, 20, 4⟩, .no⟩ ∧ OneRecordEach s
        ∧ (9, { claim9 with cls := .heard .status, confirmed := true }) ∈ s.peerClaims
        ∧ (∀ y ∈ s.peerClaims, y = (9, { claim9 with cls := .heard .status, confirmed := true }))
        ∧ s.peer 9 = some (peer9 (some { claim9 with cls := .heard .status, confirmed := true })))
    ∧ OneRecordEach (sendingBeside (.heard .action)) ∧ OneRecordEach (sendingBeside .presumed) := by
  unfold Driving OneRecordEach; decide
theorem witness_OwnClaimAndReleaseSent_taken_back :
    (let s := sending (.claim ⟨.action, 0, 20, 4⟩) (takenBack4 .outranked);
      s.power.mode ≠ .sleep ∧ Driving s (.claim ⟨.action, 0, 20, 4⟩) ∧ OneRecordEach s
        ∧ s.floor.own.outgoing = some ⟨⟨.action, 0, 20, 4⟩, .outranked⟩ ∧ s.floor.own.pendingClaim = none)
    ∧ (let s := sending (.claim ⟨.action, 0, 20, 4⟩) (takenBack4 .withdrawn);
      s.floor.own.pendingClaim = none ∧ s.hall.state.isFault = false ∧ s.hall.recovery ≠ .waiting)
    ∧ (let s :=
        sending (.claim ⟨.action, 0, 20, 4⟩) { takenBack4 .withdrawn with pendingClaim := some ⟨.status, 1, 9, 5⟩ };
      s.floor.own.pendingClaim = some ⟨.status, 1, 9, 5⟩ ∧ OneRecordEach s) := by
  unfold Driving OneRecordEach; decide
theorem witness_OwnPresenceSentTakesEffect :
    Driving (sending (.presence .heartbeat) OwnFloor.reset) (.presence .heartbeat)
    ∧ (let s :=
        { calm with
          hall :=
            { calm.hall with
              line := .sending, txList := [⟨.presence .heartbeat, false⟩]
              onLine := some (.presence ⟨7#5, 3#3, .active, false, .on⟩) } };
      s.power.mode ≠ .sleep ∧ s.hall.line = .sending ∧ s.hall.driven = none
        ∧ s.hall.onLine = some (.presence ⟨7#5, 3#3, .active, false, .on⟩) ∧ NothingToSelect s ∧ s.hall.recovery ≠ .waiting)
    ∧ (let s := sending (.presence .recovery) OwnFloor.reset;
      Driving s (.presence .recovery) ∧ ReportFits s)
    ∧ (let s0 := sending (.presence .final) OwnFloor.reset;
      let s :=
        { s0 with power := { s0.power with announcing := true }, hall := { s0.hall with finalTimer := some ⟨10050, 100⟩ } };
      s.power.mode ≠ .sleep ∧ Driving s (.presence .final) ∧ s.power.announcing = true
        ∧ s.hall.finalTimer = some ⟨10050, 100⟩ ∧ DueAt s 10050 10050) := by
  unfold Driving ReportFits DueAt NothingToSelect; decide
theorem witness_RecoveryAttemptsRun :
    (let s := { calm with hall := { calm.hall with state := .fault .errors, recovery := .scheduled ⟨10000, 10000⟩ } };
      s.power.mode ≠ .sleep ∧ s.hall.recovery = .scheduled ⟨10000, 10000⟩ ∧ DueAt s 10000 10000 ∧ s.slotSpeaks = false
        ∧ s.hall.txList = [] ∧ s.hall.state.isFault = true)
    ∧ (speaking .action).slotSpeaks = true
    ∧ (let s := { calm with hall := { calm.hall with recovery := .attempting 9900 } };
      s.hall.recovery = .attempting 9900 ∧ DueAt s 10000 (9900 + 100)) := by unfold DueAt; decide
theorem witness_PeersAndClaimsAge :
    (let s := beside (some claim9);
      s.power.mode ≠ .sleep ∧ s.peer (9#5).toNat = some (peer9 (some claim9)) ∧ (peer9 (some claim9)).presence = .present
        ∧ (9#5).toNat ≠ s.straps.station ∧ DueAt s 13060 claim9.expiry.due)
    ∧ (let s := beside none;
      s.peer (9#5).toNat = some (peer9 none) ∧ (peer9 none).presence = .present ∧ DueAt s 15500 (9000 + 6500))
    ∧ (let s := serving .action [phrase12] .idle .idle
      (7#5).toNat = s.straps.station ∧ s.floor.own.claim.map LiveClaim.expiry = some ⟨12060, 3000⟩ ∧ DueAt s 12060 12060
        ∧ s.floor.own.state = .holding ∧ s.seq.slot.isSome = true)
    ∧ (let s := sending (.presence .heartbeat) { claiming4 with claim := some claim9, outgoing := none };
      s.floor.own.claim = some claim9 ∧ s.floor.own.state = .claiming ∧ s.floor.own.released = false) := by
  unfold DueAt; decide

/-- A claim of this station in its settle window. -/
def claim7 : LiveClaim := ⟨3, .heard .action, 0, 20, some 4, 10000, false, false, ⟨13060, 3060⟩, false, none⟩

/-- `calm` with the entry of tag 5 CLAIMING and its claim in its settle window. -/
def settling : State :=
  { calm with
    seq := { Sequencer.reset with queue := [prompt5 .action .claiming], slot := some (service5 [phrase12]) }
    floor := { FloorUnit.reset with own := { OwnFloor.reset with state := .claiming, nextSeq := 5, claim := some claim7 } } }

theorem witness_SettleWindowEndConfirms :
    settling.power.mode ≠ .sleep ∧ (7#5).toNat = settling.straps.station ∧ settling.floor.own.claim = some claim7
      ∧ claim7.settled = false ∧ claim7.confirmed = false ∧ DueAt settling 10060 (10000 + 60) ∧ settling.holderOf 3 = none
      ∧ topClaim (settling.claimsIn 3) = some (7, claim7) ∧ settling.floor.own.state = .claiming
      ∧ settling.floor.own.released = false ∧ settling.seq.slot = some (service5 [phrase12])
      ∧ (service5 [phrase12]).kind = .audible .speech ∧ settling.entry 5 = some (prompt5 .action .claiming) := by
  unfold DueAt; decide
theorem witness_SettleWindowEndConfirms_with_the_amplifier_off :
    let s := { settling with power := { settling.power with amp := .off } }
    settling.power.amp = .on ∧ s.power.amp ≠ .on ∧ topClaim (s.claimsIn 3) = some (7, claim7) ∧ s.holderOf 3 = none
      ∧ s.entry 5 = some (prompt5 .action .claiming) ∧ s.display.text = none ∧ s.display.blink = .steady := by decide
/-- `settling` beside a SAFETY claim of peer 9, made at 10,000 ms. -/
def losing : State :=
  { settling with
    floor :=
      { settling.floor with
        peers := [peer9 (some { claim9 with cls := .heard .safety, heard := 10000, settled := false })] } }

theorem witness_PeerClaimsAndReleases_taken_back :
    (let s := withdrawing claiming4;
      s.power.mode ≠ .sleep ∧ s.hall.follows = true ∧ (9#5).toNat ≠ s.straps.station
        ∧ (s.peer (9#5).toNat).bind Peer.claim = none ∧ s.floor.own.outgoing = some ⟨⟨.action, 0, 20, 4⟩, .no⟩
        ∧ (3#3).toNat = s.straps.zone ∧ (∀ x ∈ s.hall.txList, x.isClaim = true → x.driving = false)
        ∧ RankKey.outranks ⟨Cls.safety.val, (0#4).toNat, (9#5).toNat⟩ ⟨Cls.action.val, 0, s.straps.station⟩ = true
        ∧ RankKey.outranks ⟨Cls.status.val, (0#4).toNat, (9#5).toNat⟩ ⟨Cls.action.val, 0, s.straps.station⟩ = false
        ∧ (2#3).toNat ≠ s.straps.zone ∧ s.hall.recovery ≠ .waiting)
    ∧ (let s := sending (.claim ⟨.action, 0, 20, 4⟩) claiming4;
      let u := { s with hall := { s.hall with idleCounting := true } };
      u.hall.follows = true ∧ u.floor.own.outgoing = some ⟨⟨.action, 0, 20, 4⟩, .no⟩
        ∧ ∃ x ∈ u.hall.txList, x.isClaim = true ∧ x.driving = true) := by decide

/-- `losing` with the own window over. -/
def losingLater : State :=
  { losing with
    floor := { losing.floor with own := { losing.floor.own with claim := some { claim7 with settled := true } } } }

/-- `losingLater` with these claims of the peers 9 and 10 in place of the one. -/
def neighbours (c d : LiveClaim) : State :=
  { losingLater with
    floor := { losingLater.floor with peers := [peer9 (some c), { peer9 (some d) with station := 10 }] } }

/-- The claim of peer 9 as the holder's. -/
def holder9 : LiveClaim := { claim9 with confirmed := true }

theorem witness_Examined :
    (∀ s ∈ [neighbours holder9 claim9, neighbours holder9 { claim9 with cls := .heard .status },
        neighbours holder9 { claim9 with cls := .heard .safety },
        neighbours holder9 { claim9 with cls := .heard .safety, heard := 10000, settled := false },
        neighbours { claim9 with cls := .heard .status } holder9],
      OneRecordEach s ∧ s.power.mode ≠ .sleep ∧ s.hall.follows = true ∧ (9#5).toNat ≠ s.straps.station
        ∧ (s.peer 9).bind Peer.claim = (s.peer (9#5).toNat).bind Peer.claim ∧ s.seq.slot = some (service5 [phrase12])
        ∧ s.entry 5 = some (prompt5 .action .claiming) ∧ s.floor.own.state = .claiming ∧ s.floor.own.released = false)
    ∧ (let left (s : State) := (s.claimsIn 3).filter fun x => decide (x.1 ≠ 9);
      (∃ x ∈ left (neighbours { claim9 with cls := .heard .status } holder9), x.2.confirmed = true)
      ∧ (let s := neighbours holder9 { claim9 with cls := .heard .status };
        (∀ y ∈ left s, y.2.confirmed = false) ∧ topClaim (left s) = some (7, { claim7 with settled := true })
          ∧ ({ claim7 with settled := true } : LiveClaim).windowEnded (s.instant 10010) = true)
      ∧ (let s := neighbours holder9 { claim9 with cls := .heard .safety };
        (∀ y ∈ left s, y.2.confirmed = false) ∧ topClaim (left s) = some (10, { claim9 with cls := .heard .safety })
          ∧ (10, { claim9 with cls := .heard .safety }) ∈ left s
          ∧ RankKey.outranks ⟨3, 1, 10⟩ (claim7.rankKey s.straps.station) = true)
      ∧ (let s := neighbours holder9 { claim9 with cls := .heard .safety, heard := 10000, settled := false };
        (∀ y ∈ left s, y.2.confirmed = false)
          ∧ (topClaim (left s)).map (fun x => x.2.windowEnded (s.instant 10010)) = some false)) := by
  unfold OneRecordEach; decide
theorem witness_PeersAndClaimsAge_with_an_examination :
    let s := neighbours holder9 { claim9 with cls := .heard .status }
    let u := { s with floor := { s.floor with peers := s.floor.peers.map fun p => { p with lastHeard := 3600 } } }
    (s.peer 9).bind Peer.claim = some holder9 ∧ OneRecordEach s ∧ DueAt s 13060 holder9.expiry.due
      ∧ (u.peer 9).bind Peer.claim = some holder9 ∧ (u.peer 9).map Peer.presence = some .present ∧ OneRecordEach u
      ∧ DueAt u 10100 (3600 + 6500) := by
  unfold DueAt OneRecordEach; decide
theorem test_settle_window_end_loses_an_outranked_claim :
    let u := after (.settleWindowEnd 10060 7#5) losing
    (u.floor.own.state, u.floor.own.released, u.floor.claimsLost, u.hall.txList) =
        (.free, true, 1, [⟨.release 4 .withdrawn, false⟩])
      ∧ u.seq.queue = [prompt5 .action .queued] ∧ u.seq.slot = none := by decide
theorem witness_ClaimLostTo :
    losing.power.mode ≠ .sleep ∧ (7#5).toNat = losing.straps.station ∧ losing.floor.own.claim = some claim7
      ∧ claim7.seq = some 4 ∧ claim7.confirmed = false ∧ claim7.settled = false ∧ losing.floor.own.released = false
      ∧ OneRecordEach losing ∧ (9, { claim9 with cls := .heard .safety, heard := 10000, settled := false }) ∈ losing.peerClaims
      ∧ (RankKey.outranks ⟨3, 1, 9⟩ (claim7.rankKey losing.straps.station) = true) ∧ DueAt losing 10060 (10000 + 60)
      ∧ losing.floor.own.state = .claiming
      ∧ losing.hall.state.isUp = true ∧ losing.hall.recovery ≠ .waiting ∧ losing.seq.slot = some (service5 [phrase12])
      ∧ losing.seq.queue = [prompt5 .action .claiming]
      ∧ (losing.arrive 10060).kindFor (prompt5 .action .claiming) = .audible .fallback
      ∧ (losing.arrive 10060).outranked .action 9000 = true
      ∧ (let s := { losingLater with floor := { losingLater.floor with peers := [peer9 (some { claim9 with cls := .heard .safety })] } };
        DueAt s 13060 claim7.expiry.due ∧ OneRecordEach s ∧ (s.arrive 13060).outranked .action 9000 = true) := by
  unfold DueAt OneRecordEach; decide
theorem witness_SettleWindowEndConfirms_of_a_peer :
    (let c := { claim9 with heard := 10000, settled := false };
      let s := beside (some c);
      s.power.mode ≠ .sleep ∧ (9#5).toNat ≠ s.straps.station ∧ s.peer (9#5).toNat = some (peer9 (some c))
        ∧ c.confirmed = false ∧ DueAt s 10060 (10000 + 60) ∧ s.holderOf 3 = none
        ∧ topClaim (s.claimsIn 3) = some ((9#5).toNat, c))
    ∧ (let c := { claim9 with heard := 10000, settled := false };
      let s0 := serving .action [phrase12] .idle .idle;
      let s := { s0 with floor := { s0.floor with peers := [peer9 (some c)] } };
      s.holderOf 3 ≠ none ∧ DueAt s 10060 (10000 + 60))
    ∧ (let c := { claim9 with cls := .heard .status, heard := 10000, settled := false };
      let s := { settling with floor := { settling.floor with peers := [peer9 (some c)] } };
      topClaim (s.claimsIn 3) = some (7, claim7) ∧ (7 : Nat) ≠ (9#5).toNat ∧ DueAt s 10060 (10000 + 60))
    ∧ (losingLater.floor.own.claim = some { claim7 with settled := true }
      ∧ ({ claim7 with settled := true } : LiveClaim).windowEnded (losingLater.instant 10060) = true
      ∧ (losingLater.peer 9).bind Peer.claim = some { claim9 with cls := .heard .safety, heard := 10000, settled := false }
      ∧ DueAt losingLater 10060 (10000 + 60)) := by
  unfold DueAt; decide
theorem witness_FloorIsTakenWhenClear :
    (let s := { calm with floor := { FloorUnit.reset with own := { OwnFloor.reset with state := .gap, gapEnd := some ⟨10000, 250⟩ } } };
      s.power.mode ≠ .sleep ∧ s.floor.own.state = .gap ∧ s.floor.own.gapEnd = some ⟨10000, 250⟩ ∧ DueAt s 10000 10000
        ∧ NothingToSelect s)
    ∧ (outranked5.power.mode ≠ .sleep ∧ outranked5.seq.slot = none ∧ outranked5.seq.queue = [prompt5 .action .queued]
      ∧ outranked5.hall.state = .on ∧ outranked5.hall.recovery = .none_ ∧ outranked5.floor.own.outgoing = none
      ∧ (outranked5.seq.askedAt - 9000) / 2000 < 15
      ∧ DueAt outranked5 11000 (9000 + 2000 * ((outranked5.seq.askedAt - 9000) / 2000 + 1))
      ∧ (outranked5.arrive 11000).eligible (prompt5 .action .queued) = true
      ∧ (outranked5.arrive 11000).kindFor (prompt5 .action .queued) = .audible .fallback)
    ∧ (outranked5.entry 5 = some (prompt5 .action .queued)
      ∧ outranked5.instant 10999 < 9000 + 2000 * ((outranked5.seq.askedAt - 9000) / 2000 + 1)) := by
  unfold DueAt NothingToSelect; decide
theorem witness_FloorIsTakenWhenClear_with_its_script :
    (let s := choosing (prompt5 .status .queued);
      s.power.mode ≠ .sleep ∧ s.hall.state.isUp = true ∧ ¬ SilentNow s (prompt5 .status .queued)
        ∧ s.floor.own.outgoing = none ∧ s.kindFor (prompt5 .status .queued) = .audible .fallback)
    ∧ (let s := { choosing (prompt5 .status .queued) with floor := { FloorUnit.reset with own := takenBack4 .withdrawn } };
      s.floor.own.outgoing.isSome = true)
    ∧ (let s := { choosing (prompt5 .status .queued) with store := { PhraseStore.reset with state := .ready, flash := image } };
      s.kindFor (prompt5 .status .queued) = .audible .speech ∧ (prompt5 .status .queued).channels.speech = true
        ∧ PrefixPlaced { s with link := { s.link with config := { s.link.config with policy := .always } } } ⟨none, []⟩
        ∧ ¬ PrefixPlaced { s with link := { s.link with config := { s.link.config with policy := .never } } } ⟨none, []⟩
        ∧ s.kindFor { prompt5 .status .queued with channels := ⟨false, true, true⟩ } = .audible .speech
        ∧ s.kindFor shown5 = .silent)
    ∧ (∀ store ∈ [StoreState.ready, .failed],
      let s := choosing (prompt5 .status .queued)
      let u := { s with store := { PhraseStore.reset with state := store }, power := { s.power with result := .short } }
      u.kindFor (prompt5 .status .queued) = .audible .piezo)
    ∧ (choosing shown5).kindFor shown5 = .silent ∧ (choosing shown5).store.state ≠ .ready := by
  unfold SilentNow PrefixPlaced; decide
theorem test_taken_entry_is_composed :
    let e := { prompt5 .status .queued with template := 0 }
    let s0 := choosing e
    let s :=
      conclude
        { s0 with
          store := ({ PhraseStore.reset with flash := image }).checked 400
          link := { s0.link with config := { s0.link.config with policy := .never } } }
    (s.seq.slot.map fun v => (v.kind, v.script.chime, v.script.items.map ScriptItem.ms, v.script.estimate)) =
        some (.audible .speech, none, [512], 6)
      ∧ (s.store.readErrors, s.store.truncated, s.floor.own.outgoing.map fun o => o.content.length) = (0, 0, some 6) := by
  decide +kernel
theorem witness_DeadlineExpiresWaiting :
    (let e := { prompt5 .status .queued with deadline := some ⟨10000, 1000⟩ };
      let s := { waiting5 with seq := { waiting5.seq with queue := [e] } };
      s.power.mode ≠ .sleep ∧ s.entry 5 = some e ∧ e.state = .queued ∧ e.origin = .machine ∧ DueAt s 10000 10000 ∧ ReportFits s)
    ∧ (speaking .action).entry 5 = some (prompt5 .action .speaking) := by unfold DueAt ReportFits; decide
theorem witness_ClaimWithdrawn :
    (let s := withdrawing { OwnFloor.reset with claim := some { claim9 with seq := some 4 } };
      s.power.mode ≠ .sleep ∧ CueReady s ∧ ReportFits s ∧ s.link.reports.length + 2 ≤ 16
        ∧ s.entry 5 = some { prompt5 .action .claiming with deadline := some ⟨10000, 1000⟩ }
        ∧ s.seq.queue = [{ prompt5 .action .claiming with deadline := some ⟨10000, 1000⟩ }] ∧ DueAt s 10000 10000
        ∧ s.floor.own.state = .claiming ∧ s.hall.state.isFault = false ∧ s.hall.recovery ≠ .waiting
        ∧ s.floor.own.pendingClaim = none ∧ s.floor.own.outgoing = none
        ∧ s.floor.own.claim = some { claim9 with seq := some 4 } ∧ s.floor.own.released = false)
    ∧ (let s := withdrawing claiming4;
      s.floor.own.pendingClaim = none ∧ s.floor.own.outgoing = some ⟨⟨.action, 0, 20, 4⟩, .no⟩
        ∧ ∀ x ∈ s.hall.txList, x.isClaim = true → x.driving = false)
    ∧ (let s := sending (.claim ⟨.action, 0, 20, 4⟩) claiming4;
      s.floor.own.state = .claiming ∧ s.floor.own.outgoing = some ⟨⟨.action, 0, 20, 4⟩, .no⟩
        ∧ ∃ x ∈ s.hall.txList, x.isClaim = true ∧ x.driving = true)
    ∧ (let s := withdrawing { claiming4 with pendingClaim := some ⟨.safety, 0, 20, 5⟩ };
      s.floor.own.pendingClaim = some ⟨.safety, 0, 20, 5⟩
        ∧ s.floor.own.outgoing = some ⟨⟨.action, 0, 20, 4⟩, .no⟩) := by
  unfold CueReady ReportFits DueAt; decide
theorem witness_ServiceEndsComplete_after_an_item :
    let s := serving .action [phrase12] (.playing 0 (some (12, 0)) 9700 none) .idle
    EndsService (.itemEnd 10200) 10200 s (service5 [phrase12]) (prompt5 .action .speaking) ∧ s.power.mode ≠ .sleep
      ∧ s.seq.slot = some (service5 [phrase12]) ∧ s.seq.queue = [prompt5 .action .speaking] ∧ ReportFits s := by
  unfold EndsService DueAt ReportFits
  exact ⟨.inr (.inl ⟨rfl, rfl, _, _, _, _, _, rfl, rfl, rfl, by decide⟩), by decide, rfl, rfl, by decide⟩
theorem witness_ServiceEndsComplete_with_its_release :
    let s := serving .action [phrase12] (.playing 0 (some (12, 0)) 9700 none) .idle
    s.floor.own.state = .holding ∧ (s.floor.own.claim.bind LiveClaim.seq) = some 4 ∧ s.hall.state.isFault = false
      ∧ s.hall.recovery ≠ .waiting := by decide
theorem witness_ServiceEndsComplete_with_a_full_list :
    let e := { prompt5 .action .speaking with ackRequired := true }
    let s0 := serving .action [phrase12] (.playing 0 (some (12, 0)) 9700 none) .idle
    let s :=
      { s0 with
        seq := { s0.seq with queue := [e] }
        panel := { s0.panel with awaiting := [1, 2, 3, 4].map fun n => { awaiting5 with tag := n } } }
    EndsService (.itemEnd 10200) 10200 s (service5 [phrase12]) e ∧ s.power.mode ≠ .sleep
      ∧ s.seq.slot = some (service5 [phrase12]) ∧ s.seq.queue = [e] ∧ ReportFits s ∧ e.ackRequired = true
      ∧ ∃ a rest, s.panel.awaiting = a :: rest ∧ 3 ≤ rest.length := by
  unfold EndsService DueAt ReportFits
  exact ⟨.inr (.inl ⟨rfl, rfl, _, _, _, _, _, rfl, rfl, rfl, by decide⟩), by decide, rfl, rfl, by decide, rfl, _, _, rfl,
    by decide⟩
theorem witness_ServiceEndsComplete_after_a_chime :
    EndsService (.chimeEnd 10000) 10000 (serving .action [] .idle (.playing chime1)) (service5 []) (prompt5 .action .speaking) := by
  unfold EndsService DueAt
  exact .inl ⟨rfl, rfl, rfl, _, rfl, by decide⟩
theorem witness_ServiceEndsComplete_silent :
    ∃ v e, EndsService (.silentServiceEnd 10000) 10000 showing5 v e ∧ showing5.seq.slot = some v ∧ showing5.seq.queue = [e] := by
  unfold EndsService DueAt
  exact ⟨_, _, .inr (.inr ⟨rfl, rfl, _, rfl, by decide⟩), rfl, rfl⟩
theorem witness_ServiceEndsComplete_of_other_origins :
    (∀ x ∈ [(64, Origin.reminder), (68, Origin.mark), (72, Origin.key)],
      let e := { prompt5 .action .speaking with tag := x.1, origin := x.2 }
      let v := { service5 [phrase12] with tag := x.1 }
      let s0 := serving .action [phrase12] (.playing 0 (some (12, 0)) 9700 none) .idle
      let s := { s0 with seq := { s0.seq with queue := [e], slot := some v } }
      EndsService (.itemEnd 10200) 10200 s v e ∧ s.power.mode ≠ .sleep ∧ v.removal = none ∧ e.tag = v.tag
        ∧ e.origin ≠ .machine ∧ e.ackRequired = false)
    ∧ ∃ e ∈ showing5.seq.queue, e.state = .showing := by
  unfold EndsService DueAt
  refine ⟨fun x hx => ?_, by decide⟩
  simp only [List.mem_cons, List.not_mem_nil, or_false] at hx
  rcases hx with rfl | rfl | rfl <;>
    exact ⟨.inr (.inl ⟨rfl, rfl, _, _, _, _, _, rfl, rfl, rfl, by decide⟩), by decide, rfl, rfl, by decide, rfl⟩
theorem witness_ServiceEndsComplete_with_a_removal :
    let v := { service5 [phrase12] with removal := some .cancelled }
    let s0 := serving .action [phrase12] (.playing 0 (some (12, 0)) 9700 none) .idle
    let s := { s0 with seq := { s0.seq with slot := some v } }
    EndsService (.itemEnd 10200) 10200 s v (prompt5 .action .speaking) ∧ s.power.mode ≠ .sleep
      ∧ s.seq.queue = [prompt5 .action .speaking] ∧ ReportFits s := by
  unfold EndsService DueAt ReportFits
  exact ⟨.inr (.inl ⟨rfl, rfl, _, _, _, _, _, rfl, rfl, rfl, by decide⟩), by decide, rfl, by decide⟩
theorem witness_BoundaryGoesOn_masked :
    let s0 := speaking .status
    let s :=
      { s0 with
        level := { s0.level with ring := [100] }, display := { Display.reset with text := some ⟨[65#8], .status⟩ } }
    IsBoundary (.itemEnd 10200) 10200 s (service5 [phrase12, .pause 200]) ∧ (levelNow s .status).masked = true
      ∧ s.served = some (prompt5 .status .speaking) := by
  unfold IsBoundary DueAt
  exact ⟨.inr ⟨rfl, _, _, _, _, _, rfl, rfl, by decide, by decide⟩, by decide, by decide⟩
theorem witness_BoundaryGoesOn :
    (let s := speaking .action;
      IsBoundary (.itemEnd 10200) 10200 s (service5 [phrase12, .pause 200]) ∧ s.power.mode ≠ .sleep
        ∧ s.seq.slot = some (service5 [phrase12, .pause 200]) ∧ s.served = some (prompt5 .action .speaking)
        ∧ s.higherWaits (prompt5 .action .speaking) = false)
    ∧ IsBoundary (.chimeEnd 10000) 10000 (serving .action [phrase12] .idle (.playing chime1)) (service5 [phrase12])
    ∧ (let s := { speaking .action with speech := .gap 1 ⟨10000, 40⟩ };
      s.speech = .gap 1 ⟨10000, 40⟩ ∧ (service5 [phrase12, .pause 200]).script.items[1]? = some (.pause 200))
    ∧ (let s := serving .action [.pause 200, phrase12] (.gap 1 ⟨10000, 40⟩) .idle;
      s.speech = .gap 1 ⟨10000, 40⟩ ∧ (service5 [.pause 200, phrase12]).script.items[1]? = some phrase12
        ∧ s.power.amp = .on ∧ s.power.check = .idle ∧ s.tone.chime = .idle) := by
  unfold IsBoundary DueAt
  exact ⟨⟨.inr ⟨rfl, _, _, _, _, _, rfl, rfl, by decide, by decide⟩, by decide, rfl, by decide, by decide⟩,
    .inl ⟨rfl, by decide, _, rfl, by decide⟩, ⟨rfl, rfl⟩, by decide⟩

/-- `speaking` with a service changed. -/
def speakingWith (cls : Cls) (cuts : Nat) (f : Service → Service) : State :=
  { speaking cls with
    seq :=
      { Sequencer.reset with
        queue := [{ prompt5 cls .speaking with cutCount := cuts }], slot := some (f (service5 [phrase12, .pause 200])) } }

theorem witness_BoundaryCutsOrRemoves :
    (let v := { service5 [phrase12, .pause 200] with removal := some .cancelled };
      let s := speakingWith .action 0 fun _ => v;
      IsBoundary (.itemEnd 10200) 10200 s v ∧ s.seq.slot = some v ∧ s.served = some (prompt5 .action .speaking) ∧ ReportFits s)
    ∧ (let v := { service5 [phrase12, .pause 200] with preempt := true };
      let s := speakingWith .status 2 fun _ => v;
      IsBoundary (.itemEnd 10200) 10200 s v ∧ s.seq.slot = some v
        ∧ s.served = some { prompt5 .status .speaking with cutCount := 2 }) := by
  unfold IsBoundary DueAt ReportFits
  exact ⟨⟨.inr ⟨rfl, _, _, _, _, _, rfl, rfl, by decide, by decide⟩, rfl, by decide, by decide⟩,
    .inr ⟨rfl, _, _, _, _, _, rfl, rfl, by decide, by decide⟩, rfl, by decide⟩
theorem witness_RepeatsFallDue :
    (let a := { awaiting5 with repeatsLeft := 0 };
      let s := { calm with panel := { Panel.reset with awaiting := [a] } };
      s.power.mode ≠ .sleep ∧ s.awaitingRecord 5 = some a ∧ DueAt s 19500 a.repeatDue.due ∧ ReportFits s)
    ∧ (let s := { calm with panel := { Panel.reset with awaiting := [awaiting5] } };
      s.awaitingRecord 5 = some awaiting5 ∧ 1 ≤ awaiting5.repeatsLeft ∧ s.seq.queue.length < 16 ∧ s.entry 5 = none) := by
  unfold DueAt ReportFits; decide
theorem witness_RepeatsFallDue_in_a_full_queue :
    (Evicts (fullOf .status) awaiting5.cls.val (last35 .status) ∧ QueueFull (fullOf .action) awaiting5.cls.val)
    ∧ ∀ s0 ∈ [fullOf .status, fullOf .action], let s := { s0 with panel := { Panel.reset with awaiting := [awaiting5] } }
      s.power.mode ≠ .sleep ∧ s.awaitingRecord 5 = some awaiting5 ∧ DueAt s 19500 awaiting5.repeatDue.due
        ∧ 1 ≤ awaiting5.repeatsLeft ∧ s.entry 5 = none ∧ s.link.listening = true ∧ s.link.reports.length + 2 ≤ 16 := by
  unfold DueAt
  exact ⟨⟨fullOf_evicts (by decide), fullOf_full (by decide)⟩, by decide⟩
theorem witness_DroppedOrRoomMade :
    (TemplateKnown (fullOf .courtesy) 2 ∧ (∀ tag ∈ [64, 67, 68, 71, 72, 73, 74], (fullOf .courtesy).entry tag = none)
      ∧ (fullOf .courtesy).link.reports.length + 1 + 1 ≤ 16)
    ∧ (Evicts (fullOf .courtesy) Cls.status.val (last35 .courtesy) ∧ HasRoom (fullOf .courtesy) 1
      ∧ QueueFull (fullOf .status) Cls.status.val)
    ∧ ¬ TemplateKnown { calm with store := { PhraseStore.reset with state := .ready, flash := image } } 255 := by
  unfold TemplateKnown
  exact ⟨by decide, ⟨fullOf_evicts (by decide), .inr ⟨_, fullOf_evicts (by decide)⟩, fullOf_full (by decide)⟩, by decide⟩
theorem witness_TimersStepOn :
    (let s := speaking .action;
      s.speech = .playing 0 (some (12, 0)) 9700 none ∧ s.seq.slot = some (service5 [phrase12, .pause 200])
        ∧ (service5 [phrase12, .pause 200]).script.items[0]? = some phrase12 ∧ DueAt s 10000 (9700 + 5))
    ∧ (let s0 := speaking .action;
      let s :=
        { s0 with
          store := { s0.store with flash := ⟨[], [⟨9990, 9999, 131072, 131072⟩]⟩ }, speech := .playing 0 (some (12, 0)) 9998 none };
      s.speech = .playing 0 (some (12, 0)) 9998 none ∧ s.store.flash.answers 9998 131072 1 = false ∧ 1 ≤ 4000
        ∧ s.now ≤ 9998 + 6)
    ∧ (let s := serving .action [] .idle (.playing chime0);
      s.tone.chime = .playing chime0 ∧ chime0.step + 1 < (chimeSteps chime0.id).length
        ∧ DueAt s 10000 (chime0.stepStart + chime0.stepLength)
        ∧ DueAt s 10000 (chime0.start + patternLength ((chimeSteps chime0.id).take (chime0.step + 1))))
    ∧ (let s := { calm with tone := ⟨.idle, .playing 62 ⟨10000, 40⟩⟩ };
      s.tone.click = .playing 62 ⟨10000, 40⟩ ∧ DueAt s 10000 10000)
    ∧ ((scrolling.power.mode = .active ∨ scrolling.power.mode = .dim)
      ∧ scrolling.display.text = some ⟨List.replicate 22 65#8, .action⟩
      ∧ scrolling.display.line1Scroll.timer = some ⟨⟨10000, 1000⟩, ⟨10000, 1000⟩⟩ ∧ DueAt scrolling 10000 10000)
    ∧ (let s := { calm with display := { Display.reset with phaseScroll := ⟨0, some ⟨⟨10000, 1000⟩, ⟨10000, 1000⟩⟩⟩ } };
      s.display.phaseScroll.timer = some ⟨⟨10000, 1000⟩, ⟨10000, 1000⟩⟩ ∧ DueAt s 10000 10000)
    ∧ (let s := { calm with display := { Display.reset with blink := .masked true ⟨10000, 250⟩ } };
      s.display.blink = .masked true ⟨10000, 250⟩)
    ∧ (let s := { calm with display := { Display.reset with blink := .safety true ⟨10000, 500⟩ } };
      s.display.blink = .safety true ⟨10000, 500⟩)
    ∧ (let s := { calm with display := { Display.reset with timeBlink := some (true, ⟨10000, 500⟩) } };
      s.display.timeBlink = some (true, ⟨10000, 500⟩)) := by unfold DueAt; decide
theorem witness_AmbientSamplesAreTaken :
    (calm.power.mode ≠ .sleep ∧ calm.level.sampleDue = some ⟨70000, 250⟩ ∧ DueAt calm 70000 70000 ∧ calm.level.hold = .open_)
    ∧ ({ calm with level := { calm.level with hold := .held } }).level.hold ≠ .open_
    ∧ (let s := { calm with level := { calm.level with hold := .settling ⟨10000, 250⟩ } };
      s.level.hold = .settling ⟨10000, 250⟩ ∧ DueAt s 10000 10000) := by unfold DueAt; decide
theorem witness_EstimateRunsDown :
    (counting.power.mode ≠ .sleep ∧ counting.rem.running = true ∧ counting.rem.secondPhase = some ⟨10000, 1000⟩
      ∧ DueAt counting 10000 10000 ∧ 1 ≤ counting.rem.estimate ∧ (counting.rem.marks.get 0).state = .armed
      ∧ (counting.rem.marks.get 0).value = counting.rem.estimate ∧ counting.store.state ≠ .ready
      ∧ (∀ m, m < 0 → (counting.rem.marks.get m).state = .armed →
          (counting.rem.marks.get m).value ≠ counting.rem.estimate)
      ∧ counting.seq.queue.length < 16 ∧ counting.entry 68 = none)
    ∧ (let s := { counting with store := { PhraseStore.reset with state := .ready, flash := image } };
      s.store.state = .ready ∧ s.link.config.countdownTemplate < s.store.flash.templateCount)
    ∧ ({ counting with rem := { counting.rem with estimate := 0 } }).rem.estimate = 0 := by unfold DueAt; decide
theorem witness_SlotFiringGoesOnByMode :
    reminding.power.mode ≠ .sleep ∧ reminding.rem.slots.get 2 = some slot60 ∧ slot60.nextFiring = some ⟨10000, 60000⟩
      ∧ DueAt reminding 10000 10000 ∧ reminding.store.state ≠ .ready ∧ reminding.seq.queue.length < 16
      ∧ reminding.entry (64 + 2) = none := by unfold DueAt; decide
theorem witness_SlotFiringGoesOnByMode_for_each_record :
    (∀ r ∈ [{ slot60 with remaining := some 2, nextPeriod := some 7 }, { slot60 with remaining := none },
        { slot60 with remaining := none, nextPeriod := some 7 }, { slot60 with remaining := some 1 },
        { slot60 with mode := .oneShot }, { slot60 with mode := .idle }],
      let s := { reminding with rem := { ReminderUnit.reset with slots := ⟨none, none, some r, none⟩ } };
      s.power.mode ≠ .sleep ∧ s.rem.slots.get 2 = some r ∧ r.nextFiring = some ⟨10000, 60000⟩ ∧ DueAt s 10000 10000)
    ∧ (let r := { slot60 with template := 0 };
      let s := { reminding with store := { PhraseStore.reset with state := .ready, flash := image } };
      s.store.state = .ready ∧ r.template < s.store.flash.templateCount)
    ∧ ({ waiting5 with seq := { waiting5.seq with queue := [{ prompt5 .status .queued with tag := 66 }] } }).entry (64 + 2) =
      some { prompt5 .status .queued with tag := 66 } := by unfold DueAt; decide
theorem witness_KeyPressActs :
    (calm.power.mode ≠ .sleep ∧ calm.panel.keys.get .vup = .up ∧ DueAt calm 10010 (calm.panel.inputs.get .vup).debounce.due
      ∧ NothingToSelect calm ∧ calm.panel.volume ≤ 7)
    ∧ (let s := { calm with panel := { Panel.reset with inputs := freshInputs 10000 ⟨false, false, false, false, false, false⟩ } };
      max s.now 10010 + Config.tolerance (s.panel.inputs.get .vup).debounce.len < (s.panel.inputs.get .vup).debounce.due)
    ∧ (pressed .vup).panel.keys.get .vup ≠ .up := by
  unfold NothingToSelect DueAt; decide
theorem witness_KeyPressActs_with_its_click :
    (∀ k ∈ [Key.rep, .hlp, .lng, .ok], ∀ volume ∈ [0, 1, 7],
      let s := { calm with panel := { Panel.reset with volume := volume } }
      s.power.mode ≠ .sleep ∧ s.panel.keys.get k = .up ∧ DueAt s 10010 (s.panel.inputs.get k).debounce.due
        ∧ s.piezoHeld = false ∧ (after (.keyPress 10010 k) s).piezoHeld = false)
    ∧ (let s := serving .action [] .idle (.playing { chime0 with device := .piezo });
      s.piezoHeld = true ∧ (after (.keyPress 10010 .ok) s).piezoHeld = true)
    ∧ (let r := { slot60 with mode := .idle, nextFiring := none };
      let s := { calm with rem := { ReminderUnit.reset with slots := ⟨none, none, some r, none⟩ } };
      s.rem.slots.a2 = some r ∧ r.mode = .idle) := by unfold DueAt; decide
theorem test_piezo_chime_that_starts_at_a_press_stops_its_click :
    let r : LastCompleted := ⟨2, 90, 0, .action, ⟨true, true, true⟩⟩
    let s :=
      { calm with
        panel := { Panel.reset with lastCompleted := some r }
        hall := { calm.hall with state := .off, line := .silent }
        power := { calm.power with result := .open_, amp := .off } }
    let u := after (.keyPress 10010 .rep) s
    (u.piezoHeld, u.tone.click, s.piezoHeld) = (true, .idle, false) := by decide
theorem test_ok_takes_a_record_before_a_repeat_entry_of_equal_stamp :
    let repeated : RepeatItem := ⟨5, 8000⟩
    let s0 := speaking .action
    let s :=
      { s0 with panel := { Panel.reset with awaiting := [{ awaiting5 with tag := 4, spokenAt := 10000 }], repeats := [repeated] } }
    (okStamp s 10000 repeated, (actOk s).link.reports) = (10000, [.done 4 .acked]) := by decide
theorem witness_KeyPressActs_by_repeat_help_and_ok :
    (let r : LastCompleted := ⟨2, 90, 0, .safety, ⟨true, true, true⟩⟩;
      let s :=
        { calm with
          panel := { Panel.reset with lastCompleted := some r, helpTemplate := some 3 }
          display := { Display.reset with phase := some ⟨3, 12⟩ } };
      s.power.mode ≠ .sleep ∧ s.panel.keys.rep = .up ∧ s.panel.keys.hlp = .up
        ∧ DueAt s 10010 s.panel.inputs.rep.debounce.due ∧ DueAt s 10010 s.panel.inputs.hlp.debounce.due
        ∧ s.panel.lastCompleted = some r ∧ s.panel.helpTemplate = some 3 ∧ s.display.phase = some ⟨3, 12⟩
        ∧ s.store.state ≠ .ready ∧ s.seq.queue.length < 16 ∧ s.entry 72 = none ∧ s.entry 73 = none)
    ∧ (calm.panel.lastCompleted = none ∧ calm.panel.helpTemplate = none)
    ∧ (let s := { calm with panel := { Panel.reset with awaiting := [{ awaiting5 with tag := 4 }, awaiting5] } };
      s.panel.keys.ok = .up ∧ DueAt s 10010 s.panel.inputs.ok.debounce.due ∧ ReportFits s
        ∧ s.panel.awaiting = [{ awaiting5 with tag := 4 }] ++ [awaiting5] ∧ s.panel.repeats = []
        ∧ ∀ x ∈ [{ awaiting5 with tag := 4 }], x.spokenAt ≤ awaiting5.spokenAt)
    ∧ (let s := { waiting5 with panel := { Panel.reset with repeats := [⟨5, 9000⟩] } };
      s.panel.awaiting = [] ∧ s.panel.repeats = [⟨5, 9000⟩] ∧ s.entry 5 = some (prompt5 .status .queued)
        ∧ (prompt5 .status .queued).origin = .machine ∧ ReportFits s)
    ∧ (calm.panel.awaiting = [] ∧ calm.panel.repeats = []) := by
  unfold DueAt ReportFits; decide
theorem witness_KeyPressActs_by_ok_for_each_repeat_entry :
    (∀ s0 ∈ [waiting5, withdrawing claiming4, showing5, speaking .action],
      let s := { s0 with panel := { Panel.reset with awaiting := [{ awaiting5 with tag := 4, spokenAt := 8999 }], repeats := [⟨5, 9000⟩] } };
      s.panel.keys.ok = .up ∧ DueAt s 10010 s.panel.inputs.ok.debounce.due ∧ ReportFits s
        ∧ LatestSpoken s (s.instant 10010) ⟨5, 9000⟩ ∧ (s.entry 5).map Entry.origin = some .machine)
    ∧ [waiting5, withdrawing claiming4, showing5, speaking .action].map (fun s => (s.entry 5).map Entry.state) =
      [some .queued, some .claiming, some .showing, some .speaking]
    ∧ (speaking .action).seq.slot.isSome = true
    ∧ (let s := { waiting5 with panel := { Panel.reset with awaiting := [awaiting5], repeats := [⟨5, 9000⟩] } };
      ∀ x ∈ s.panel.repeats, okStamp s (s.instant 10010) x < awaiting5.spokenAt)
    ∧ (let s := { waiting5 with panel := { Panel.reset with awaiting := [awaiting5], repeats := [⟨5, 9500⟩] } };
      ∀ x ∈ s.panel.repeats, okStamp s (s.instant 10010) x = awaiting5.spokenAt) := by
  unfold DueAt ReportFits LatestSpoken; decide
theorem witness_PressesAreClassified :
    (let s := pressed .ok;
      s.power.mode ≠ .sleep ∧ s.panel.keys.get .ok = .pressed ⟨10500, 1500⟩ ∧ ReportFits s ∧ DueAt s 10500 10500
        ∧ DueAt s 10010 (s.panel.inputs.get .ok).debounce.due ∧ max s.now 10010 ≤ 10500 + 15
        ∧ 10500 + 15 < max s.now 10516)
    ∧ (let s := { calm with panel := { Panel.reset with keys := ⟨.blocked, .long, .up, .up, .up, .up⟩ } };
      s.panel.keys.get .rep = .blocked ∧ s.panel.keys.get .hlp = .long
        ∧ DueAt s 10010 (s.panel.inputs.get .rep).debounce.due)
    ∧ (let s := { pressed .lng with panel := { (pressed .lng).panel with inSession := true } };
      s.panel.keys.lng = .pressed ⟨10500, 1500⟩ ∧ s.panel.inSession = true
        ∧ DueAt s 10010 s.panel.inputs.lng.debounce.due ∧ max s.now 10010 ≤ 10500 + 15 ∧ DueAt s 10500 10500
        ∧ s.seq.queue.length < 16 ∧ s.entry 74 = none ∧ s.store.state ≠ .ready)
    ∧ (let s0 := pressed .lng;
      let s :=
        { s0 with
          link := { s0.link with config := { Settings.builtIn with languages := ⟨true, false, true, true⟩ } }
          panel := { s0.panel with inSession := true, language := 2 } };
      s.link.config.languages.get 3 = true ∧ s.panel.language < 3
        ∧ (∀ m, s.panel.language < m → m < 3 → s.link.config.languages.get m = false))
    ∧ (let s0 := pressed .lng;
      let s :=
        { s0 with
          link := { s0.link with config := { Settings.builtIn with languages := ⟨true, false, true, true⟩ } }
          panel := { s0.panel with inSession := true, language := 3 } };
      s.link.config.languages.get 0 = true
        ∧ ∀ m, m ≤ 3 → s.link.config.languages.get m = true → 0 ≤ m ∧ m ≤ s.panel.language)
    ∧ ((pressed .lng).panel.inSession = false ∧ ReportFits (pressed .lng)) := by
  unfold ReportFits DueAt
  refine ⟨by decide, by decide, by decide, ⟨by decide, by decide, fun m h1 h2 => ?_⟩, ⟨by decide, fun m h _ => ?_⟩, by decide⟩
  · exact absurd (Nat.lt_succ_iff.mp h2) (Nat.not_le.mpr h1)
  · exact ⟨Nat.zero_le m, h⟩
theorem witness_ModesPassDown :
    (calm.power.mode = .active ∧ calm.power.timersHeld = false ∧ calm.power.dim = some ⟨70000, 60000⟩
      ∧ DueAt calm 70000 70000)
    ∧ (let s := { calm with power := { calm.power with mode := .dim, dim := none, standby := some ⟨10000, 600000⟩ } };
      s.power.mode = .dim ∧ s.power.timersHeld = false ∧ s.power.standby = some ⟨10000, 600000⟩ ∧ DueAt s 10000 10000)
    ∧ testing.power.timersHeld = true := by unfold DueAt; decide
theorem witness_ModesPassDown_by_the_hold :
    (let s := { calm with power := { calm.power with timersHeld := true } };
      s.power.mode ≠ .sleep ∧ s.power.timersHeld = true ∧ (conclude s).power.timersHeld = false ∧ NothingToSelect s)
    ∧ (let s := { calm with power := { calm.power with mode := .dim, dim := none, timersHeld := true } };
      s.power.mode = .dim ∧ (conclude s).power.timersHeld = false ∧ NothingToSelect s)
    ∧ (calm.power.timersHeld = false ∧ (conclude (speaking .action)).power.timersHeld = true) := by
  unfold NothingToSelect; decide
theorem witness_WakeRestartsThePart :
    (asleep.power.mode = .sleep ∧ NothingToSelect asleep ∧ ∀ tm, asleep.panel.keys.lng ≠ .pressed tm)
    ∧ (let s := { asleep with panel := (pressed .ok).panel };
      s.panel.keys.get .ok = .pressed ⟨10500, 1500⟩ ∧ ReportFits s)
    ∧ (let s := { asleep with panel := (pressed .lng).panel };
      s.power.mode = .sleep ∧ s.panel.keys.lng = .pressed ⟨10500, 1500⟩)
    ∧ calm.power.mode ≠ .sleep ∧ NothingToSelect calm := by
  unfold NothingToSelect ReportFits
  exact ⟨⟨by decide, by decide, fun _ h => by cases h⟩, by decide, by decide, by decide, by decide⟩
theorem witness_RankingIsAnOrder :
    (9 : Nat) ≠ 7 ∧ RankKey.outranks ⟨3, 0, 9⟩ ⟨2, 15, 1⟩ = true ∧ RankKey.outranks ⟨2, 15, 1⟩ ⟨2, 15, 2⟩ = true
      ∧ topClaim ((beside (some claim9)).claimsIn 3) = some (9, claim9) := by decide
theorem witness_PromptFieldsAreChecked :
    (promptPayload 63#8).length = 12 ∧ (promptFields (promptPayload 63#8)).isSome = true
      ∧ (promptPayload 0#8).length = 12 ∧ promptFields (promptPayload 0#8) = none := by decide
theorem witness_DurationsAreSpokenAndShown :
    durationPhrases 59 = [105] ∧ durationPhrases 60 = [1, 100] ∧ durationPhrases 599 = [10, 101]
      ∧ durationPhrases 3449 = [55, 101] ∧ durationPhrases 3450 = [1, 102] ∧ durationPhrases 3900 = [1, 102, 104, 5, 101]
      ∧ durationPhrases 43200 = [12, 103]
      ∧ Piece.chars (.number 9) = [digitChar 9] ∧ Piece.chars (.number 10) = [digitChar 1, digitChar 0]
      ∧ Piece.chars (.number 99) = [digitChar 9, digitChar 9]
      ∧ Piece.chars (.duration 3450) = [digitChar 0, colonChar, digitChar 5, digitChar 8]
      ∧ Piece.chars (.duration 43200) = [digitChar 1, digitChar 2, colonChar, digitChar 0, digitChar 0]
      ∧ [digitChar 0, digitChar 9, colonChar] = [48#8, 57#8, 58#8] := by decide
theorem witness_LevelIsBroughtBetweenItsBounds :
    (110 ≤ 110 ∧ 4 ≤ 7) ∧ levelFloor 45 .action ≤ levelCap false .action ∧ levelCap true .status < levelFloor 68 .status := by
  decide

end Sys2Proof.Tests
end

section
/-! PROOFS. Scope (00_scope.md): the instant and the environment of every command. -/

namespace Sys2Proof.Machine

open Sys2Proof Host

/-- A command answers a next state whose environment is that of the state brought to some one instant (R1, log 2): it is
taken at that instant, and nothing but the timebase moves. -/
def TakenAtOnce (s : State) (o : Outcome State Fault Refusal) : Prop :=
  ∃ t u, o = .next u ∧ u.env = (s.arrive t).env

/-- A command answers a next state, the timebase not set back, the waiting commands, the straps and the flash as they were. -/
def KeepsEnv (s : State) (o : Outcome State Fault Refusal) : Prop :=
  ∃ n u, o = .next u ∧ u.env = (n, s.pending, s.straps, s.store.flash) ∧ s.now ≤ n

/-- A command taken at one instant keeps the environment. -/
theorem TakenAtOnce.keepsEnv {s : State} {o : Outcome State Fault Refusal} (h : TakenAtOnce s o) : KeepsEnv s o := by
  obtain ⟨t, u, ho, he⟩ := h
  exact ⟨s.instant t, u, ho, he, State.now_le_instant t s⟩

/-- A command followed in every mode but SLEEP is taken at the instant it names. -/
theorem whileAwake_takenAtOnce {f : State → State} (h : ∀ st, (f st).env = st.env) (t : Nat) (s : State) :
    TakenAtOnce s (whileAwake t f s) := by
  unfold whileAwake
  split
  · exact ⟨t, _, rfl, h _⟩
  · exact ⟨t, _, rfl, rfl⟩

/-- So is one that the selection follows. -/
theorem concluding_takenAtOnce {f : State → State} (h : ∀ st, (f st).env = st.env) (t : Nat) (s : State) :
    TakenAtOnce s (concluding t f s) :=
  whileAwake_takenAtOnce (fun st => (conclude_env _).trans (h st)) t s

/-- So is one that is taken in SLEEP too. -/
theorem next_takenAtOnce {f : State → State} (h : ∀ st, (f st).env = st.env) (t : Nat) (s : State) :
    TakenAtOnce s (.next (f (s.arrive t))) := ⟨t, _, rfl, h _⟩

/-- A whole cue is taken at the instant its command names. -/
theorem hearCue_takenAtOnce (t : Nat) (down : Keys Bool) (type : Byte) (payload trail : List Byte) (s : State) :
    TakenAtOnce s (hearCue t down type payload trail s) :=
  next_takenAtOnce (fun _ => (conclude_env _).trans (cueArrives_env ..)) t s

/-- A gap of the cue link that brings no bytes is one instant. -/
theorem gapHeard_nil (t : Nat) (s : State) : gapHeard t [] s = gapPasses (s.arrive t) :=
  congrArg gapPasses (State.arrive_arrive (Nat.sub_le t Config.interByte) s)

/-- A gap of the cue link that brings no bytes is taken at the instant it names. -/
theorem execInterByteTimeout_takenAtOnce (t : Nat) (s : State) : TakenAtOnce s (execInterByteTimeout t [] s) := by
  refine ⟨t, _, rfl, ?_⟩
  rw [conclude_env, gapHeard_nil, gapPasses_env]

/-- A press while the part is awake is taken at the instant it names. -/
theorem execKeyPress_takenAtOnce (t : Nat) (k : Key) {s : State} (h : s.power.mode ≠ .sleep) :
    TakenAtOnce s (execKeyPress t k s) := by
  refine ⟨t, _, rfl, ?_⟩
  have hw : wokenFor t k s = s := if_pos (decide_eq_true h)
  rw [conclude_env, pressKey_env, hw]

/-- A wake is taken at the instant it names. -/
theorem execWake_takenAtOnce (t : Nat) (cause : WakeCause) (s : State) : TakenAtOnce s (execWake t cause s) := by
  cases cause with
  | startBit => exact next_takenAtOnce (fun _ => (conclude_env _).trans (wakeIfAsleep_env _)) t s
  | key k =>
    refine next_takenAtOnce (fun st => (conclude_env _).trans ?_) t s
    unfold wakeByKey
    split <;> simp

/-- Every command is taken at one instant, but for a power-on reset, a gap with its own bytes and a press in SLEEP, which
bring a second instant with them (logs 1, 9, 25). -/
theorem exec_takenAtOnce (c : Instr) (s : State)
    (hreset : ∀ t station zone down flash, c ≠ .powerOnReset t station zone down flash)
    (hgap : ∀ t b rx, c ≠ .interByteTimeout t (b :: rx)) (hpress : ∀ t k, c = .keyPress t k → s.power.mode ≠ .sleep) :
    TakenAtOnce s (exec c s) := by
  cases c with
  | powerOnReset t station zone down flash => exact absurd rfl (hreset t station zone down flash)
  | storeCheckEnd t => exact concluding_takenAtOnce storeCheckEnds_env t s
  | speakerCheckEnd t m => exact concluding_takenAtOnce (speakerCheckEnds_env m) t s
  | speakerCheckOvercurrent t => exact concluding_takenAtOnce checkOvercurrent_env t s
  | warmUpEnd t => exact concluding_takenAtOnce warmUpEnds_env t s
  | speakerFault t kind => exact concluding_takenAtOnce (speakerFails_env kind) t s
  | configure t p => exact hearCue_takenAtOnce ..
  | sessionBegin t p => exact hearCue_takenAtOnce ..
  | sessionEnd t p => exact hearCue_takenAtOnce ..
  | phase t p => exact hearCue_takenAtOnce ..
  | progress t p => exact hearCue_takenAtOnce ..
  | prompt t p => exact hearCue_takenAtOnce ..
  | cancel t p => exact hearCue_takenAtOnce ..
  | ack t p => exact hearCue_takenAtOnce ..
  | mask t p => exact hearCue_takenAtOnce ..
  | remind t p => exact hearCue_takenAtOnce ..
  | remindClear t p => exact hearCue_takenAtOnce ..
  | quiet t p => exact hearCue_takenAtOnce ..
  | sleep t p trail => exact hearCue_takenAtOnce ..
  | selftest t p => exact hearCue_takenAtOnce ..
  | status t p => exact hearCue_takenAtOnce ..
  | reset t p down trail => exact hearCue_takenAtOnce ..
  | unknownCue t type p => exact hearCue_takenAtOnce ..
  | cueFrameDiscard t rx last badStop =>
    exact next_takenAtOnce (fun _ => (conclude_env _).trans (frameDiscarded_env ..)) t s
  | interByteTimeout t rx =>
    cases rx with
    | nil => exact execInterByteTimeout_takenAtOnce t s
    | cons b rx => exact absurd rfl (hgap t b rx)
  | reportSent t => exact next_takenAtOnce reportLeaves_env t s
  | peerClaim t f => exact concluding_takenAtOnce (frameHeard_env _) t s
  | peerRelease t f => exact concluding_takenAtOnce (frameHeard_env _) t s
  | peerPresence t f => exact concluding_takenAtOnce (frameHeard_env _) t s
  | badFrame t bits => exact concluding_takenAtOnce (bitsHeard_env bits) t s
  | frameStart t => exact whileAwake_takenAtOnce frameStarts_env t s
  | arbitrationLoss t => exact concluding_takenAtOnce arbitrationLost_env t s
  | bitError t rest => exact concluding_takenAtOnce (bitErrs_env rest) t s
  | stuckLine t => exact concluding_takenAtOnce lineSticks_env t s
  | ownClaimSent t => exact concluding_takenAtOnce ownClaimGoes_env t s
  | ownReleaseSent t => exact concluding_takenAtOnce ownReleaseGoes_env t s
  | ownPresenceSent t => exact concluding_takenAtOnce ownPresenceGoes_env t s
  | listenInEnd t => exact concluding_takenAtOnce listenInEnds_env t s
  | heartbeat t => exact whileAwake_takenAtOnce heartbeatDue_env t s
  | recoveryAttempt t => exact concluding_takenAtOnce recoveryDue_env t s
  | recoveryTimeout t => exact concluding_takenAtOnce recoveryTimesOut_env t s
  | finalPresenceTimeout t => exact concluding_takenAtOnce finalTimesOut_env t s
  | peerLost t station => exact concluding_takenAtOnce (peerSilent_env _) t s
  | claimExpiry t station => exact concluding_takenAtOnce (claimExpires_env _) t s
  | settleWindowEnd t station => exact concluding_takenAtOnce (settleEnds_env _) t s
  | turnGapEnd t => exact concluding_takenAtOnce turnGapEnds_env t s
  | waitBucketStep t tag => exact whileAwake_takenAtOnce (bucketSteps_env tag) t s
  | deadline t tag => exact concluding_takenAtOnce (expireEntry_env tag) t s
  | chimeEnd t => exact concluding_takenAtOnce chimeEnds_env t s
  | itemEnd t => exact concluding_takenAtOnce itemEnds_env t s
  | itemGapEnd t => exact concluding_takenAtOnce itemGapEnds_env t s
  | silentServiceEnd t => exact concluding_takenAtOnce silentServiceEnds_env t s
  | repeatDue t tag => exact concluding_takenAtOnce (repeatDueFor_env tag) t s
  | phraseReadTimeout t => exact whileAwake_takenAtOnce phraseReadTimesOut_env t s
  | toneStepEnd t => exact whileAwake_takenAtOnce toneStepEnds_env t s
  | clickEnd t => exact next_takenAtOnce clickEnds_env t s
  | scrollStep t field => exact whileAwake_takenAtOnce (scrollStepped_env field) t s
  | blinkPhase t field => exact whileAwake_takenAtOnce (blinkToggled_env field) t s
  | ambientSample t reading => exact whileAwake_takenAtOnce (sampleDue_env reading) t s
  | sampleHoldSettled t => exact whileAwake_takenAtOnce holdSettles_env t s
  | estimateDecrement t => exact concluding_takenAtOnce decrement_env t s
  | slotFiring t slot => exact concluding_takenAtOnce (slotFires_env slot) t s
  | keyPress t k => exact execKeyPress_takenAtOnce t k (hpress t k rfl)
  | keyRelease t k => exact concluding_takenAtOnce (releaseKey_env k) t s
  | keyLong t k => exact concluding_takenAtOnce (holdKey_env k) t s
  | dimDeadline t => exact whileAwake_takenAtOnce dimPasses_env t s
  | standbyDeadline t => exact whileAwake_takenAtOnce standbyPasses_env t s
  | wake t cause => exact execWake_takenAtOnce t cause s
  | lineIdle t => exact whileAwake_takenAtOnce lineIdles_env t s

/-- A gap keeps the environment, whatever bytes it brings. -/
theorem execInterByteTimeout_keepsEnv (t : Nat) (rx : List Byte) (s : State) : KeepsEnv s (execInterByteTimeout t rx s) := by
  obtain ⟨n, he, hn, -⟩ := gapHeard_env t rx s
  exact ⟨n, _, rfl, (conclude_env _).trans he, hn⟩

/-- The wake and the press of a key in SLEEP keep the environment. -/
theorem execKeyPress_keepsEnv (t : Nat) (k : Key) (s : State) : KeepsEnv s (execKeyPress t k s) := by
  have hw : ∃ n, (wokenFor t k s).env = (n, s.pending, s.straps, s.store.flash) ∧ s.now ≤ n := by
    unfold wokenFor wakeByKey
    split
    · exact ⟨s.now, rfl, Nat.le_refl _⟩
    · refine ⟨s.instant (t - Config.debounce), ?_, State.now_le_instant _ s⟩
      split <;> simp
  obtain ⟨n, he, hn⟩ := hw
  generalize hr : wokenFor t k s = r at he
  injection he with hnow hrest
  refine ⟨r.instant t, _, rfl, ?_, ?_⟩
  · rw [hr, conclude_env, pressKey_env, State.arrive_env]
    exact congrArg (Prod.mk _) hrest
  · have := State.now_le_instant t r
    omega

/-- Every command but a power-on reset keeps the environment. -/
theorem exec_keepsEnv (c : Instr) (s : State)
    (hreset : ∀ t station zone down flash, c ≠ .powerOnReset t station zone down flash) : KeepsEnv s (exec c s) := by
  by_cases hgap : ∃ t b rx, c = .interByteTimeout t (b :: rx)
  · obtain ⟨t, b, rx, rfl⟩ := hgap
    exact execInterByteTimeout_keepsEnv t (b :: rx) s
  by_cases hpress : ∃ t k, c = .keyPress t k
  · obtain ⟨t, k, rfl⟩ := hpress
    exact execKeyPress_keepsEnv t k s
  exact (exec_takenAtOnce c s hreset (fun t b rx h => hgap ⟨t, b, rx, h⟩)
    fun t k h => absurd ⟨t, k, h⟩ hpress).keepsEnv

/-- Settles O2: every command keeps the environment, and but for a gap with its own bytes and a press in SLEEP it is taken at
one instant, which the running intervals bound. -/
theorem commandsKeepTheEnvironment : Obligations.CommandsKeepTheEnvironment := by
  refine ⟨fun c s => ?_, fun t s h => State.instant_eq h⟩
  by_cases hreset : ∃ t station zone down flash, c = .powerOnReset t station zone down flash
  · obtain ⟨t, station, zone, down, flash, rfl⟩ := hreset
    exact ⟨_, rfl, rfl, fun h => absurd rfl (h t station zone down flash)⟩
  have hother : ∀ t station zone down flash, c ≠ .powerOnReset t station zone down flash :=
    fun t station zone down flash h => hreset ⟨t, station, zone, down, flash, h⟩
  obtain ⟨n, u, ho, he, hn⟩ := exec_keepsEnv c s hother
  obtain ⟨hnow, hpending, hstraps, hflash⟩ :
      u.now = n ∧ u.pending = s.pending ∧ u.straps = s.straps ∧ u.store.flash = s.store.flash := by
    simpa [State.env] using he
  refine ⟨u, ho, hpending, fun _ => ⟨hnow ▸ hn, hstraps, hflash, fun hgap hpress tm htm => ?_⟩⟩
  obtain ⟨t, u', ho', he'⟩ := exec_takenAtOnce c s hother hgap hpress
  obtain rfl : u = u' := by simpa [ho] using ho'
  have hinstant : u.now = s.instant t := congrArg Prod.fst he'
  exact hinstant ▸ State.instant_le_latest htm t

end Sys2Proof.Machine
end

section
/-! PROOFS. The timers of the outputs: a read that fails, tone steps, clicks, scrolls and blinks (R51, R125, R134, R138, R143,
R145). -/

namespace Sys2Proof.Machine

open Sys2Proof Host Safety

/-- A command followed in every mode but SLEEP, taken awake. -/
theorem whileAwake_of_awake {s : State} (h : s.power.mode ≠ .sleep) (t : Nat) (f : State → State) :
    whileAwake t f s = .next (f (s.arrive t)) := if_pos (decide_eq_true h)

/-- A command that the selection follows, taken awake. -/
theorem concluding_of_awake {s : State} (h : s.power.mode ≠ .sleep) (t : Nat) (f : State → State) :
    concluding t f s = .next (conclude (f (s.arrive t))) := whileAwake_of_awake h t _

/-- An interval whose end the timebase has come to has ended (R1). -/
theorem Timer.reached_of_due {tm : Timer} {now : Nat} (h : tm.due ≤ now) : tm.reached now = true :=
  decide_eq_true (Nat.le_trans h (Nat.le_add_right _ _))

/-- R1 allows an interval of 5 ms 1 ms more. -/
theorem Timer.latest_of_five (due : Nat) : (⟨due, 5⟩ : Timer).latest = due + 1 := by
  simp [Timer.latest, Config.tolerance]

/-- An interval of a row has ended where the timebase has come to both its bounds (R1). -/
theorem Paced.reached_of_due {p : Paced} {now : Nat} (hown : p.own.due ≤ now) (hrow : p.row.due ≤ now) :
    p.reached now = true := by
  unfold Paced.reached
  rw [Timer.reached_of_due hown, Timer.reached_of_due hrow]
  rfl

/-- The intervals that run while the part is awake. -/
theorem State.runningTimers_of_awake {s : State} (h : s.power.mode ≠ .sleep) :
    s.runningTimers = s.queueTimers ++ s.outputTimers ++ s.hallTimers ++ s.otherTimers := if_pos (decide_eq_true h)

section
variable {t i start : Nat} {ph : Option (Nat × Nat)} {s : State} {v : Service} {p : PhraseItem}

/-- The phrase that plays is the one at its place of the script. -/
theorem State.playedPhrase_eq {stop : Option Nat} (hspeech : s.speech = .playing i ph start stop)
    (hslot : s.seq.slot = some v) (hitem : v.script.items[i]? = some (.phrase p)) :
    s.playedPhrase = some (p, start, stop) := by
  simp [State.playedPhrase, State.playedItem, hspeech, hslot, hitem]

/-- The offset reached in a phrase whose reading goes on: 8 bytes a millisecond, up to its audio's end and its duration, and
none where its first read gets no answer (R50, R51). -/
theorem State.byteOffset_eq (hspeech : s.speech = .playing i ph start none) (hslot : s.seq.slot = some v)
    (hitem : v.script.items[i]? = some (.phrase p)) :
    s.byteOffset =
      some (if s.store.flash.answers start p.audioAddress 1 then
        min (min p.audioLength (8 * p.duration)) (8 * (s.now - start)) else 0) := by
  unfold State.byteOffset
  rw [State.playedPhrase_eq hspeech hslot hitem]
  unfold Option.map State.audioEnd State.firstReadAnswered
  dsimp only
  split
  · simp [Config.audioBytesPerMs]
  · simp

/-- A read that gets no answer ends the reading of its phrase at the offset reached (R51). -/
theorem phraseReadTimesOut_of_due {offset : Nat} (hspeech : s.speech = .playing i ph start none)
    (hoffset : s.byteOffset = some offset) (hdue : start + 5 ≤ s.now) :
    phraseReadTimesOut s = (readFailed 1 s).setSpeech (.playing i ph start (some offset)) := by
  unfold phraseReadTimesOut
  simp only [hspeech, hoffset]
  exact if_pos (Timer.reached_of_due hdue)

/-- The first read of a phrase that gets no answer is waited for (R51). -/
theorem firstReadWait_mem_runningTimers (hawake : s.power.mode ≠ .sleep) (hspeech : s.speech = .playing i ph start none)
    (hslot : s.seq.slot = some v) (hitem : v.script.items[i]? = some (.phrase p))
    (hanswer : s.store.flash.answers start p.audioAddress 1 = false) (haudio : 1 ≤ p.audioLength) :
    (⟨start + 5, 5⟩ : Timer) ∈ s.runningTimers := by
  have hwait : s.firstReadWait = some ⟨start + 5, 5⟩ := by
    unfold State.firstReadWait
    rw [State.playedPhrase_eq hspeech hslot hitem]
    exact if_neg (by simp [State.firstReadAnswered, hanswer]; omega)
  rw [State.runningTimers_of_awake hawake]
  simp [State.outputTimers, hwait]

end

/-- A step of a pattern that has run its length, in a pattern that has run its sum up to there, gives way to the next
(R125). -/
theorem toneStepEnds_of_due {s : State} {c : Chime} (hchime : s.tone.chime = .playing c)
    (hnext : c.step + 1 < (chimeSteps c.id).length) (hown : c.stepStart + c.stepLength ≤ s.now)
    (hrow : c.start + patternLength ((chimeSteps c.id).take (c.step + 1)) ≤ s.now) :
    toneStepEnds s =
      s.onTone fun u => { u with chime := .playing { c with step := c.step + 1, stepStart := s.now } } := by
  unfold toneStepEnds
  simp only [hchime]
  exact if_pos ⟨Paced.reached_of_due hown hrow, hnext⟩

/-- A click that has run its time stops (R134). -/
theorem clickEnds_of_due {s : State} {duty : Nat} {tm : Timer} (hclick : s.tone.click = .playing duty tm)
    (hdue : tm.due ≤ s.now) : clickEnds s = s.onTone fun u => { u with click := .idle } := by
  unfold clickEnds
  simp only [hclick]
  exact if_pos (Timer.reached_of_due hdue)

/-- The lines are shown in ACTIVE and DIM (R147). -/
theorem State.linesShown_of_mode {s : State} (h : s.power.mode = .active ∨ s.power.mode = .dim) : s.linesShown = true := by
  rcases h with h | h <;> simp [State.linesShown, h]

/-- The modes that show the lines are not SLEEP. -/
theorem awake_of_shown {s : State} (h : s.power.mode = .active ∨ s.power.mode = .dim) : s.power.mode ≠ .sleep := by
  rcases h with h | h <;> simp [h]

/-- The next position of a scroll and how long it stands (R138): 250 ms within the text, 1,000 ms at its last position, and
from there 1,000 ms at the first. -/
theorem Scroll.stepped_eq (now length width : Nat) (sc : Scroll) (p : Paced) :
    sc.stepped now length width p =
      if sc.pos + 1 < length - width then ⟨sc.pos + 1, some ⟨⟨now + 250, 250⟩, ⟨p.row.due + 250, p.row.len + 250⟩⟩⟩
      else if sc.pos + 1 = length - width then
        ⟨sc.pos + 1, some ⟨⟨now + 1000, 1000⟩, ⟨p.row.due + 1000, p.row.len + 1000⟩⟩⟩
      else ⟨0, some ⟨⟨now + 1000, 1000⟩, ⟨now + 1000, 1000⟩⟩⟩ := by
  unfold Scroll.stepped
  dsimp only
  by_cases hinner : sc.pos + 1 < length - width
  · rw [if_pos hinner, if_pos (Nat.lt_of_succ_lt hinner), if_neg (Nat.ne_of_lt hinner)]
    rfl
  · rw [if_neg hinner]
    by_cases hlast : sc.pos + 1 = length - width
    · rw [if_pos hlast, if_pos (show sc.pos < length - width by omega), if_pos hlast]
      rfl
    · rw [if_neg (show ¬ sc.pos < length - width by omega), if_neg hlast]
      rfl

/-- A due step of the prompt field (R138). -/
theorem scrollStepped_prompt {s : State} {p : Paced} (hshown : s.linesShown = true)
    (htimer : s.display.line1Scroll.timer = some p) (hdue : p.reached s.now = true) :
    scrollStepped .prompt s =
      s.onDisplay fun d => { d with line1Scroll := d.line1Scroll.stepped s.now d.textLength Config.promptWidth p } := by
  unfold scrollStepped
  rw [if_pos hshown]
  simp only [htimer]
  exact if_pos hdue

/-- A due step of the phase field (R138). -/
theorem scrollStepped_phase {s : State} {p : Paced} (hshown : s.linesShown = true)
    (htimer : s.display.phaseScroll.timer = some p) (hdue : p.reached s.now = true) :
    scrollStepped .phase s =
      s.onDisplay fun d =>
        { d with phaseScroll := d.phaseScroll.stepped s.now d.phaseText.length Config.phaseWidth p } := by
  unfold scrollStepped
  rw [if_pos hshown]
  simp only [htimer]
  exact if_pos hdue

/-- A due half-period of line 1's blink turns it over (R143). -/
theorem blinkToggled_line1 {s : State} {tm : Timer} (htimer : s.display.blink.timer = some tm) (hdue : tm.due ≤ s.now) :
    blinkToggled .line1 s = s.onDisplay fun d => { d with blink := d.blink.toggled s.now } := by
  unfold blinkToggled
  simp only [htimer]
  exact if_pos (Timer.reached_of_due hdue)

/-- A due half-period of the time field's blink turns it over (R145). -/
theorem blinkToggled_time {s : State} {shown : Bool} {tm : Timer} (htimer : s.display.timeBlink = some (shown, tm))
    (hdue : tm.due ≤ s.now) :
    blinkToggled .time s = s.onDisplay fun d => { d with timeBlink := some (!shown, s.after Config.slowBlink) } := by
  unfold blinkToggled
  simp only [htimer]
  exact if_pos (Timer.reached_of_due hdue)

/-- Settles O49: each timer's end, taken when it is due, by the lemma about its operation. -/
theorem timersStepOn : Obligations.TimersStepOn := by
  refine ⟨?_, ?_, ?_, ?_, ?_, ?_, ?_, ?_, ?_⟩
  · intro t i start ph s v p hawake hspeech hslot hitem hdue
    refine (whileAwake_of_awake hawake t _).trans ?_
    rw [phraseReadTimesOut_of_due (s := s.arrive t) hspeech (State.byteOffset_eq hspeech hslot hitem) hdue]
    rfl
  · intro t i start ph s v p hawake hspeech hslot hitem hanswer haudio hnow
    have hle := State.instant_le_latest (firstReadWait_mem_runningTimers hawake hspeech hslot hitem hanswer haudio) t
    rw [Timer.latest_of_five] at hle
    omega
  · intro t s c hawake hchime hnext hown hrow
    refine (whileAwake_of_awake hawake t _).trans ?_
    rw [toneStepEnds_of_due (s := s.arrive t) hchime hnext hown hrow]
    rfl
  · intro t duty s tm hclick hdue
    exact congrArg Outcome.next (clickEnds_of_due (s := s.arrive t) hclick hdue)
  · intro t s x p hmode htext htimer hown hrow
    refine (whileAwake_of_awake (awake_of_shown hmode) t _).trans ?_
    rw [scrollStepped_prompt (s := s.arrive t) (State.linesShown_of_mode hmode) htimer (Paced.reached_of_due hown hrow)]
    simp only [State.onDisplay, Scroll.stepped_eq, Display.textLength, State.arrive_display, htext]
    rfl
  · intro t s p hmode htimer hown hrow
    refine (whileAwake_of_awake (awake_of_shown hmode) t _).trans ?_
    rw [scrollStepped_phase (s := s.arrive t) (State.linesShown_of_mode hmode) htimer (Paced.reached_of_due hown hrow)]
    simp only [State.onDisplay, Scroll.stepped_eq]
    rfl
  · intro t s shown tm hawake hblink hdue
    refine (whileAwake_of_awake hawake t _).trans ?_
    rw [blinkToggled_line1 (s := s.arrive t) (congrArg Blink.timer hblink) hdue]
    simp only [State.onDisplay, State.arrive_display, hblink]
    rfl
  · intro t s shown tm hawake hblink hdue
    refine (whileAwake_of_awake hawake t _).trans ?_
    rw [blinkToggled_line1 (s := s.arrive t) (congrArg Blink.timer hblink) hdue]
    simp only [State.onDisplay, State.arrive_display, hblink]
    rfl
  · intro t s shown tm hawake hblink hdue
    refine (whileAwake_of_awake hawake t _).trans ?_
    rw [blinkToggled_time (s := s.arrive t) hblink hdue]
    rfl

end Sys2Proof.Machine
end

section
/-! PROOFS. What the output of a service, the floor and the selection leave: the frames of the statements (Safety.LineKept to
Safety.BesidesHallKept), as equations between parts of the state with one lemma for each operation. -/

namespace Sys2Proof.Machine

open Sys2Proof Host Safety

/-! ### The parts of the state that a frame speaks of -/

/-- The cue link but for its latches. -/
def CueLink.besideLatches (l : CueLink) : CueLink := { l with latches := Latches.clear }

/-- The tags of the prompt queue, and the Sequencer but for its entries, its slot and the instant it last asked. -/
def Sequencer.standing (q : Sequencer) : List Nat × Sequencer :=
  (q.queue.map Entry.tag, { q with queue := [], slot := none, askedAt := 0 })

/-- The phrase store but for the counters of composition. -/
def PhraseStore.besideCounters (p : PhraseStore) : PhraseStore := { p with readErrors := 0, truncated := 0 }

/-- The ambient ring with its schedule, and quiet mode. -/
def LevelUnit.sampling (l : LevelUnit) : List Nat × Option Timer × Bool := (l.ring, l.sampleDue, l.quiet)

/-- The speaker check and its results. -/
def Power.speaker (p : Power) : Check × SpeakerResult × Nat × Nat := (p.check, p.result, p.impedance, p.weakSpeaker)

/-- Phase ids and text, and the time field but for its blink. -/
def Display.statusLine (d : Display) : Option PhaseIds × List Byte × Bool × Nat × Bool :=
  (d.phase, d.phaseText, d.timeShown, d.minutes, d.paused)

/-- The Hall Line Port but for its list and its recovery schedule. -/
def HallPort.besideList (h : HallPort) : HallPort := { h with txList := [], recovery := .none_ }

/-- The neighbour view, the own live claim and the counters of the Floor Unit. -/
def FloorUnit.view (u : FloorUnit) : FloorUnit :=
  { u with own := { u.own with state := .free, gapEnd := none, outgoing := none, pendingClaim := none, nextSeq := 0 } }

/-- Everything that the floor and a service that starts leave: the line but for its list, and what no event of the hall line
touches. -/
def State.outside (s : State) :=
  (s.hall.besideList, s.rem, s.panel, s.link.besideLatches, s.seq.standing, s.store.besideCounters, s.level.sampling,
    s.power.speaker, s.display.statusLine)

/-- Everything that the output of a service leaves: the hall line and the floor as well. -/
def State.besideOutput (s : State) := (s.hall, s.floor, s.outside)

/-! ### What those parts say -/

theorem State.outside_eq_of_besideOutput {s u : State} (h : u.besideOutput = s.besideOutput) : u.outside = s.outside :=
  congrArg (·.2.2) h

theorem State.hall_eq_of_besideOutput {s u : State} (h : u.besideOutput = s.besideOutput) : u.hall = s.hall :=
  congrArg Prod.fst h

theorem State.floor_eq_of_besideOutput {s u : State} (h : u.besideOutput = s.besideOutput) : u.floor = s.floor :=
  congrArg (·.2.1) h

/-- A step that leaves the list's port leaves the line. -/
theorem lineKept_of_outside {s u : State} (h : u.outside = s.outside) : LineKept s u := by
  have hline : u.hall.besideList = s.hall.besideList := congrArg Prod.fst h
  simpa [LineKept, HallPort.besideList] using hline

/-- A step that leaves what lies outside the floor leaves all that a frame of the hall line names. -/
theorem besidesHallKept_of_outside {s u : State} (h : u.outside = s.outside) : BesidesHallKept s u ∧ ReportsKept s u := by
  simp only [State.outside, Prod.mk.injEq, CueLink.besideLatches, CueLink.mk.injEq, Sequencer.standing, Sequencer.mk.injEq,
    PhraseStore.besideCounters, PhraseStore.mk.injEq, LevelUnit.sampling, Power.speaker, Display.statusLine] at h
  obtain ⟨-, hrem, hpanel, ⟨hframer, hlistening, hreports, hearly, hconfig, hlocked, -, herrors, hrefusals, hlost⟩,
    ⟨htags, -, hmade, -, hmask, hdrops, hcuts, -⟩, ⟨hstate, hindex, hflash, -, -⟩, hlevel, hspeaker, hstatus⟩ := h
  exact ⟨⟨hrem, hpanel, ⟨hconfig, hlocked, hlistening⟩, ⟨hframer, herrors, hrefusals⟩,
    ⟨htags, hmask, hmade, hdrops, hcuts⟩, ⟨hstate, hindex, hflash⟩, hlevel, hspeaker, hstatus⟩, hreports, hearly, hlost⟩

/-- A step that leaves the view leaves what a frame of the view names. -/
theorem viewKept_of_view {s u : State} (h : u.floor.view = s.floor.view) : ViewKept s u := by
  simp only [FloorUnit.view, FloorUnit.mk.injEq, OwnFloor.mk.injEq] at h
  obtain ⟨hpeers, ⟨-, -, hclaim, hreleased, -, -, -⟩, hsent, hconfirmed, hlost, hoverlaps⟩ := h
  exact ⟨hpeers, hclaim, hreleased, hsent, hconfirmed, hlost, hoverlaps⟩

/-! ### The output of a service -/

theorem State.onDisplay_besideOutput {f : Display → Display} {s : State}
    (h : (f s.display).statusLine = s.display.statusLine) : (s.onDisplay f).besideOutput = s.besideOutput := by
  simp [State.besideOutput, State.outside, h]

theorem State.onPower_besideOutput {f : Power → Power} {s : State} (h : (f s.power).speaker = s.power.speaker) :
    (s.onPower f).besideOutput = s.besideOutput := by
  simp [State.besideOutput, State.outside, h]

@[simp] theorem fillSlot_besideOutput (tag : Nat) (kind : Kind) (c : Composed) (s : State) :
    (fillSlot tag kind c s).besideOutput = s.besideOutput := rfl

@[simp] theorem changeService_besideOutput (f : Service → Service) (s : State) :
    (changeService f s).besideOutput = s.besideOutput := rfl

@[simp] theorem emptySlot_besideOutput (s : State) : (emptySlot s).besideOutput = s.besideOutput := rfl

/-- An entry that keeps its tag keeps the tags of the queue. -/
theorem changeEntry_besideOutput {f : Entry → Entry} (h : ∀ e, (f e).tag = e.tag) (tag : Nat) (s : State) :
    (changeEntry tag f s).besideOutput = s.besideOutput := by
  have htags : (s.seq.queue.map fun e => if e.tag = tag then f e else e).map Entry.tag = s.seq.queue.map Entry.tag := by
    rw [List.map_map]
    refine List.map_congr_left fun e _ => ?_
    dsimp only [Function.comp]
    split <;> simp [h]
  simp [State.besideOutput, State.outside, changeEntry, Sequencer.standing, htags]

@[simp] theorem returnToQueue_besideOutput (s : State) : (returnToQueue s).besideOutput = s.besideOutput := by
  unfold returnToQueue
  split
  · simp [changeEntry_besideOutput]
  · rfl

@[simp] theorem askMaskedBlink_besideOutput (s : State) : (askMaskedBlink s).besideOutput = s.besideOutput := by
  refine State.onDisplay_besideOutput ?_
  split <;> rfl

@[simp] theorem applyLevel_besideOutput (r : LevelResult) (s : State) : (applyLevel r s).besideOutput = s.besideOutput := by
  unfold applyLevel
  split
  · rw [askMaskedBlink_besideOutput]; rfl
  · rfl

@[simp] theorem playChime_besideOutput (c : Chime) (s : State) : (playChime c s).besideOutput = s.besideOutput := rfl

@[simp] theorem startItem_besideOutput (items : List ScriptItem) (i : Nat) (s : State) :
    (startItem items i s).besideOutput = s.besideOutput := by
  unfold startItem
  split <;> rfl

@[simp] theorem postText_besideOutput (text : Option (List Byte)) (cls : Cls) (s : State) :
    (postText text cls s).besideOutput = s.besideOutput := by
  unfold postText
  split <;> rfl

@[simp] theorem setMode_besideOutput (m : PowerMode) (s : State) : (setMode m s).besideOutput = s.besideOutput := by
  unfold setMode
  split
  · rfl
  · refine (State.onDisplay_besideOutput ?_).trans (State.onPower_besideOutput rfl)
    split <;> rfl

@[simp] theorem activity_besideOutput (s : State) : (activity s).besideOutput = s.besideOutput := by
  unfold activity
  split
  · rfl
  · exact (State.onPower_besideOutput rfl).trans (setMode_besideOutput _ _)

@[simp] theorem beginOutput_besideOutput (e : Entry) (route : Route) (script : Script) (r : LevelResult) (s : State) :
    (beginOutput e route script r s).besideOutput = s.besideOutput := by
  unfold beginOutput
  dsimp only
  split <;> simp

@[simp] theorem beginWarmUp_besideOutput (e : Entry) (route : Route) (script : Script) (r : LevelResult) (s : State) :
    (beginWarmUp e route script r s).besideOutput = s.besideOutput := by
  unfold beginWarmUp
  dsimp only
  split <;> rfl

@[simp] theorem startAudible_besideOutput (tag : Nat) (route : Route) (script : Script) (s : State) :
    (startAudible tag route script s).besideOutput = s.besideOutput := by
  unfold startAudible
  split
  · rfl
  · dsimp only
    split <;> simp [changeEntry_besideOutput]

@[simp] theorem startSilent_besideOutput (tag : Nat) (script : Script) (s : State) :
    (startSilent tag script s).besideOutput = s.besideOutput := by
  unfold startSilent
  split
  · rfl
  · simp [changeEntry_besideOutput]

@[simp] theorem seqConfirmed_besideOutput (s : State) : (seqConfirmed s).besideOutput = s.besideOutput := by
  unfold seqConfirmed
  split
  · split <;> simp
  · rfl

@[simp] theorem holdSampling_besideOutput (s : State) : (holdSampling s).besideOutput = s.besideOutput := by
  unfold holdSampling
  split
  · rfl
  · split <;> rfl

@[simp] theorem holdTimers_besideOutput (s : State) : (holdTimers s).besideOutput = s.besideOutput := by
  unfold holdTimers
  split
  · rfl
  · split
    · split <;> rfl
    · rfl

/-! ### The floor -/

@[simp] theorem State.onFloor_outside (f : FloorUnit → FloorUnit) (s : State) : (s.onFloor f).outside = s.outside := rfl
@[simp] theorem State.onOwn_outside (f : OwnFloor → OwnFloor) (s : State) : (s.onOwn f).outside = s.outside := rfl

theorem changeEntry_outside {f : Entry → Entry} (h : ∀ e, (f e).tag = e.tag) (tag : Nat) (s : State) :
    (changeEntry tag f s).outside = s.outside := State.outside_eq_of_besideOutput (changeEntry_besideOutput h tag s)

@[simp] theorem returnToQueue_outside (s : State) : (returnToQueue s).outside = s.outside :=
  State.outside_eq_of_besideOutput (returnToQueue_besideOutput s)

@[simp] theorem seqConfirmed_outside (s : State) : (seqConfirmed s).outside = s.outside :=
  State.outside_eq_of_besideOutput (seqConfirmed_besideOutput s)

@[simp] theorem handFrame_outside (f : TxFrame) (s : State) : (handFrame f s).outside = s.outside := by
  unfold handFrame
  split <;> rfl

@[simp] theorem changePeer_outside (station : Nat) (f : Peer → Peer) (s : State) :
    (changePeer station f s).outside = s.outside := rfl

@[simp] theorem changeOwnClaim_outside (f : LiveClaim → LiveClaim) (s : State) :
    (changeOwnClaim f s).outside = s.outside := rfl

@[simp] theorem releaseWithdrawn_outside (seq : Nat) (s : State) : (releaseWithdrawn seq s).outside = s.outside :=
  handFrame_outside _ s

@[simp] theorem claimLost_outside (s : State) : (claimLost s).outside = s.outside := by simp [claimLost]

@[simp] theorem confirmOwn_outside (s : State) : (confirmOwn s).outside = s.outside := by
  unfold confirmOwn
  dsimp only
  split <;> simp

@[simp] theorem confirmClaim_outside (station : Nat) (s : State) : (confirmClaim station s).outside = s.outside := by
  unfold confirmClaim
  split <;> simp

@[simp] theorem confirmTop_outside (z : Nat) (s : State) : (confirmTop z s).outside = s.outside := by
  unfold confirmTop
  split
  · rfl
  · split
    · split <;> simp
    · rfl

@[simp] theorem decideLoss_outside (z : Nat) (s : State) : (decideLoss z s).outside = s.outside := by
  unfold decideLoss
  split
  · split <;> simp
  · rfl

@[simp] theorem examine_outside (z : Nat) (s : State) : (examine z s).outside = s.outside := by simp [examine]

@[simp] theorem removePeerClaim_outside (station : Nat) (s : State) : (removePeerClaim station s).outside = s.outside := by
  unfold removePeerClaim
  split <;> simp

@[simp] theorem preempt_outside (z : Nat) (cls : Cls) (heard : Nat) (s : State) :
    (preempt z cls heard s).outside = s.outside := by
  unfold preempt
  split
  · rfl
  · split
    · rfl
    · split
      · split
        · dsimp only
          split <;> rfl
        · rfl
      · rfl

@[simp] theorem promotePending_outside (s : State) : (promotePending s).outside = s.outside := by
  unfold promotePending
  split <;> simp

@[simp] theorem claimUnsent_outside (s : State) : (claimUnsent s).outside = s.outside := by
  unfold claimUnsent
  split
  · dsimp only
    split <;> simp
  · rfl

@[simp] theorem takeBack_outside (why : TakenBack) (s : State) : (takeBack why s).outside = s.outside := by
  unfold takeBack
  dsimp only
  split
  · rfl
  · rw [claimUnsent_outside]; rfl

@[simp] theorem takeBackIfOutranked_outside (zone : Nat) (c : LiveClaim) (station : Nat) (s : State) :
    (takeBackIfOutranked zone c station s).outside = s.outside := by
  unfold takeBackIfOutranked
  split
  · split <;> simp
  · rfl

@[simp] theorem hearPeer_outside (station zone : Nat) (presence : Presence) (s : State) :
    (hearPeer station zone presence s).outside = s.outside := by
  unfold hearPeer
  split <;> simp

@[simp] theorem hearClaim_outside (f : ClaimFrame) (s : State) : (hearClaim f s).outside = s.outside := by
  unfold hearClaim
  dsimp only
  split <;> simp

@[simp] theorem hearRelease_outside (f : ReleaseFrame) (s : State) : (hearRelease f s).outside = s.outside := by
  unfold hearRelease
  dsimp only
  split
  · split <;> simp
  · simp

@[simp] theorem requestClaim_outside (cls : Cls) (arrival length : Nat) (s : State) :
    (requestClaim cls arrival length s).outside = s.outside := by
  unfold requestClaim
  dsimp only
  split <;> simp

/-! ### The selection and what follows a step -/

@[simp] theorem takeEntry_outside (e : Entry) (s : State) : (takeEntry e s).outside = s.outside := by
  have hfill (kind : Kind) (c : Composed) : (fillSlot e.tag kind c s).outside = s.outside :=
    State.outside_eq_of_besideOutput (fillSlot_besideOutput ..)
  unfold takeEntry
  dsimp only
  split
  · exact (State.outside_eq_of_besideOutput (startSilent_besideOutput ..)).trans (hfill ..)
  · split
    · simp [changeEntry_outside, hfill]
    · exact (State.outside_eq_of_besideOutput (startAudible_besideOutput ..)).trans (hfill ..)

@[simp] theorem select_outside (s : State) : (select s).outside = s.outside := by
  unfold select
  split
  · rfl
  · dsimp only
    split
    · exact takeEntry_outside _ _
    · rfl

@[simp] theorem startWaitingRecovery_outside (s : State) : (startWaitingRecovery s).outside = s.outside := by
  unfold startWaitingRecovery
  split <;> rfl

@[simp] theorem conclude_outside (s : State) : (conclude s).outside = s.outside := by
  unfold conclude
  split
  · rw [State.outside_eq_of_besideOutput (holdTimers_besideOutput _),
      State.outside_eq_of_besideOutput (holdSampling_besideOutput _), select_outside, startWaitingRecovery_outside]
  · rfl

end Sys2Proof.Machine
end

section
/-! PROOFS. What the selection after a step (R18) can do to the queue, the list and the own record. -/

namespace Sys2Proof.Machine

open Sys2Proof Host Safety

/-! ### The entries of the queue -/

/-- An entry found by its tag in a queue whose entries have changed, each keeping its tag. -/
theorem State.entry_of_map {s u : State} {g : Entry → Entry} (hg : ∀ e, (g e).tag = e.tag)
    (h : u.seq.queue = s.seq.queue.map g) (tag : Nat) : u.entry tag = (s.entry tag).map g := by
  unfold State.entry
  rw [h, List.find?_map]
  simp [hg]

/-- A change of the entries of one tag. -/
def atTag (tag : Nat) (f : Entry → Entry) (e : Entry) : Entry := if e.tag = tag then f e else e

/-- A change of an entry that keeps its tag. -/
theorem atTag_tag {f : Entry → Entry} (hf : ∀ e, (f e).tag = e.tag) (tag : Nat) (e : Entry) :
    (atTag tag f e).tag = e.tag := by
  unfold atTag
  split
  · exact hf e
  · rfl

/-- Where no entry holds the tag, nothing changes. -/
theorem map_atTag_of_entry_none {s : State} {tag : Nat} (h : s.entry tag = none) (f : Entry → Entry) :
    s.seq.queue.map (atTag tag f) = s.seq.queue := by
  refine (List.map_congr_left fun e he => ?_).trans (List.map_id _)
  have hne := List.find?_eq_none.mp h e he
  exact if_neg (by simpa using hne)

@[simp] theorem changeEntry_queue (tag : Nat) (f : Entry → Entry) (s : State) :
    (changeEntry tag f s).seq.queue = s.seq.queue.map (atTag tag f) := rfl

@[simp] theorem changeEntry_slot (tag : Nat) (f : Entry → Entry) (s : State) :
    (changeEntry tag f s).seq.slot = s.seq.slot := rfl

/-! ### The queue and the slot through the start of a service -/

@[simp] theorem applyLevel_seq (r : LevelResult) (s : State) : (applyLevel r s).seq = s.seq := by
  unfold applyLevel
  split <;> rfl

@[simp] theorem setMode_seq (m : PowerMode) (s : State) : (setMode m s).seq = s.seq := by
  unfold setMode
  split <;> rfl

@[simp] theorem activity_seq (s : State) : (activity s).seq = s.seq := by
  unfold activity
  split
  · rfl
  · exact setMode_seq _ _

@[simp] theorem postText_seq (text : Option (List Byte)) (cls : Cls) (s : State) : (postText text cls s).seq = s.seq := by
  unfold postText
  split <;> rfl

@[simp] theorem startItem_seq (items : List ScriptItem) (i : Nat) (s : State) : (startItem items i s).seq = s.seq := by
  unfold startItem
  split <;> rfl

@[simp] theorem beginOutput_seq (e : Entry) (route : Route) (script : Script) (r : LevelResult) (s : State) :
    (beginOutput e route script r s).seq =
      { s.seq with slot := s.seq.slot.map fun v => { v with pendingLevel := none } } := by
  have hlevel : (changeService (fun v => { v with pendingLevel := none }) (applyLevel r s)).seq =
      { s.seq with slot := s.seq.slot.map fun v => { v with pendingLevel := none } } := by simp [changeService]
  unfold beginOutput
  dsimp only
  split
  · exact hlevel
  · rw [startItem_seq, hlevel]

@[simp] theorem beginWarmUp_seq (e : Entry) (route : Route) (script : Script) (r : LevelResult) (s : State) :
    (beginWarmUp e route script r s).seq =
      { s.seq with slot := s.seq.slot.map fun v => { v with pendingLevel := some r } } := by
  unfold beginWarmUp
  dsimp only
  split <;> rfl

/-- The start of an audible service makes the entries of its tag SPEAKING, without a deadline, and leaves the others (R22). -/
theorem startAudible_queue (tag : Nat) (route : Route) (script : Script) (s : State) :
    (startAudible tag route script s).seq.queue =
      s.seq.queue.map (atTag tag fun x => { x with state := .speaking, deadline := none }) := by
  unfold startAudible
  split
  · next h => exact (map_atTag_of_entry_none h _).symm
  · dsimp only
    split <;> simp

/-- The start of an audible service leaves the slot taken or empty (R22). -/
theorem startAudible_slot (tag : Nat) (route : Route) (script : Script) (s : State) :
    (startAudible tag route script s).seq.slot.isSome = s.seq.slot.isSome := by
  unfold startAudible
  split
  · rfl
  · dsimp only
    split <;> simp

/-- The start of a silent service makes the entries of its tag SHOWING, without a deadline, and leaves the others (R28). -/
theorem startSilent_queue (tag : Nat) (script : Script) (s : State) :
    (startSilent tag script s).seq.queue =
      s.seq.queue.map (atTag tag fun x => { x with state := .showing, deadline := none }) := by
  unfold startSilent
  split
  · next h => exact (map_atTag_of_entry_none h _).symm
  · simp [changeService]

@[simp] theorem handFrame_seq (f : TxFrame) (s : State) : (handFrame f s).seq = s.seq := by
  unfold handFrame
  split <;> rfl

@[simp] theorem handFrame_floor (f : TxFrame) (s : State) : (handFrame f s).floor = s.floor := by
  unfold handFrame
  split <;> rfl

/-- Outside FAULT a CLAIM or a RELEASE joins the list as the newest (R60). -/
theorem handFrame_txList {s : State} (h : s.hall.state.isFault = false) (f : TxFrame) :
    (handFrame f s).hall.txList = s.hall.txList ++ [⟨f, false⟩] := by
  unfold handFrame
  rw [if_neg (by simp [h])]
  rfl

/-- A station that takes part on the line is not in FAULT. -/
theorem HallState.isFault_of_isUp {h : HallState} (hup : h.isUp = true) : h.isFault = false := by
  cases h with
  | fault cause => cases hup
  | off => rfl
  | listenIn tm => rfl
  | on => rfl

@[simp] theorem requestClaim_seq (cls : Cls) (arrival length : Nat) (s : State) :
    (requestClaim cls arrival length s).seq = s.seq := by
  unfold requestClaim
  dsimp only
  split <;> simp

/-! ### What a claim request does -/

/-- A claim request leaves the view (R89). -/
theorem requestClaim_view (cls : Cls) (arrival length : Nat) (s : State) :
    (requestClaim cls arrival length s).floor.view = s.floor.view := by
  unfold requestClaim
  dsimp only
  split <;> simp [FloorUnit.view]

/-- A claim request makes the station CLAIMING (R89). -/
theorem requestClaim_state (cls : Cls) (arrival length : Nat) (s : State) :
    (requestClaim cls arrival length s).floor.own.state = .claiming := by
  unfold requestClaim
  dsimp only
  split <;> simp

/-- A claim request waits for an outgoing CLAIM: the list and that CLAIM stay (R89). -/
theorem requestClaim_of_outgoing {s : State} {o : Outgoing} (h : s.floor.own.outgoing = some o) (cls : Cls)
    (arrival length : Nat) :
    (requestClaim cls arrival length s).floor.own.outgoing = some o
      ∧ (requestClaim cls arrival length s).hall = s.hall := by
  unfold requestClaim
  dsimp only
  rw [if_pos (by simp [h])]
  exact ⟨h, rfl⟩

/-- A claim request without an outgoing CLAIM hands its own over, with the next sequence (R89). -/
theorem requestClaim_txList {s : State} (hup : s.hall.state.isUp = true) (h : s.floor.own.outgoing = none) (cls : Cls)
    (arrival length : Nat) :
    (requestClaim cls arrival length s).hall.txList =
      s.hall.txList ++ [⟨.claim ⟨cls, s.bucketOf arrival, length, s.floor.own.nextSeq⟩, false⟩] := by
  unfold requestClaim
  dsimp only
  rw [if_neg (by simp [h]), handFrame_txList]
  · rfl
  · exact HallState.isFault_of_isUp hup

/-! ### What the selection does -/

/-- An entry that may have been taken: its stamp and its cut count stay, and its deadline while it is not served. -/
def Entry.Continues (e e' : Entry) : Prop :=
  e'.arrival = e.arrival ∧ e'.cutCount = e.cutCount
    ∧ (e'.state = .queued ∨ e'.state = .claiming → e'.deadline = e.deadline)

theorem Entry.Continues.refl (e : Entry) : e.Continues e := ⟨rfl, rfl, fun _ => rfl⟩

/-- What the selection can do (R18): it leaves the view; the floor state changes to CLAIMING or not at all; an outgoing CLAIM and
the list beside it stay, and the CLAIM of the entry taken may join the list; no entry leaves the queue. -/
structure Selected (s u : State) : Prop where
  view : u.floor.view = s.floor.view
  state : u.floor.own.state = s.floor.own.state ∨ u.floor.own.state = .claiming
  outgoing : ∀ o, s.floor.own.outgoing = some o → u.floor.own.outgoing = some o ∧ u.hall.txList = s.hall.txList
  list : ListIs s.hall.txList s u
  entry : ∀ tag e, s.entry tag = some e → ∃ e', u.entry tag = some e' ∧ e.Continues e'

/-- A step that leaves the hall line, the floor and the queue is within what the selection can do. -/
theorem Selected.of_eq {s u : State} (hhall : u.hall = s.hall) (hfloor : u.floor = s.floor)
    (hentry : ∀ tag e, s.entry tag = some e → ∃ e', u.entry tag = some e' ∧ e.Continues e') : Selected s u where
  view := by rw [hfloor]
  state := .inl (by rw [hfloor])
  outgoing := fun o ho => ⟨by rw [hfloor]; exact ho, by rw [hhall]⟩
  list := ⟨[], .inl rfl, by rw [hhall, List.append_nil]⟩
  entry := hentry

/-- Entries changed each to one that continues it are found again. -/
theorem entry_continues_of_map {s u : State} {tag : Nat} {f : Entry → Entry}
    (h : u.seq.queue = s.seq.queue.map (atTag tag f)) (htag : ∀ e, (f e).tag = e.tag) (hf : ∀ e : Entry, e.Continues (f e)) :
    ∀ n e, s.entry n = some e → ∃ e', u.entry n = some e' ∧ e.Continues e' := by
  intro n e he
  refine ⟨atTag tag f e, by rw [State.entry_of_map (atTag_tag htag tag) h, he]; rfl, ?_⟩
  unfold atTag
  split
  · exact hf e
  · exact Entry.Continues.refl e

/-- A step from a state of the same hall line, floor and queue. -/
theorem Selected.of_prior {s r u : State} (hhall : r.hall = s.hall) (hfloor : r.floor = s.floor)
    (hqueue : r.seq.queue = s.seq.queue) (h : Selected r u) : Selected s u := by
  obtain ⟨view, state, outgoing, list, entry⟩ := h
  have hlist : ListIs s.hall.txList s u := by
    obtain ⟨more, hmore, htx⟩ := list
    exact ⟨more, by unfold NextClaim at *; rwa [hfloor] at hmore, hhall ▸ htx⟩
  rw [hfloor] at view state outgoing
  rw [hhall] at outgoing
  exact ⟨view, state, outgoing, hlist, fun tag e he => entry tag e (by unfold State.entry; rw [hqueue]; exact he)⟩

/-- An entry that is shown (R28). -/
theorem startSilent_selected (tag : Nat) (script : Script) (s : State) : Selected s (startSilent tag script s) :=
  have hkept := startSilent_besideOutput tag script s
  Selected.of_eq (State.hall_eq_of_besideOutput hkept) (State.floor_eq_of_besideOutput hkept)
    (entry_continues_of_map (startSilent_queue ..) (fun _ => rfl) fun _ => ⟨rfl, rfl, by simp⟩)

/-- An entry that is spoken at once (R22). -/
theorem startAudible_selected (tag : Nat) (route : Route) (script : Script) (s : State) :
    Selected s (startAudible tag route script s) :=
  have hkept := startAudible_besideOutput tag route script s
  Selected.of_eq (State.hall_eq_of_besideOutput hkept) (State.floor_eq_of_besideOutput hkept)
    (entry_continues_of_map (startAudible_queue ..) (fun _ => rfl) fun _ => ⟨rfl, rfl, by simp⟩)

/-- An entry that a claim is requested for (R89). -/
theorem requestClaim_selected {s : State} (hup : s.hall.state.isUp = true) (cls : Cls) (arrival length : Nat) :
    Selected s (requestClaim cls arrival length s) where
  view := requestClaim_view ..
  state := .inr (requestClaim_state ..)
  outgoing := fun _ ho =>
    have hkept := requestClaim_of_outgoing ho cls arrival length
    ⟨hkept.1, congrArg HallPort.txList hkept.2⟩
  list := by
    cases ho : s.floor.own.outgoing with
    | none => exact ⟨_, .inr ⟨_, rfl, rfl⟩, requestClaim_txList hup ho _ _ _⟩
    | some o =>
      refine ⟨[], .inl rfl, ?_⟩
      rw [(requestClaim_of_outgoing ho _ _ _).2, List.append_nil]
  entry := fun _ e he => ⟨e, by unfold State.entry; rw [requestClaim_seq]; exact he, Entry.Continues.refl e⟩

/-- An entry that becomes CLAIMING. -/
theorem changeEntry_claiming_continues (tag : Nat) (s : State) :
    ∀ n e, s.entry n = some e →
      ∃ e', (changeEntry tag (fun x => { x with state := .claiming }) s).entry n = some e' ∧ e.Continues e' :=
  entry_continues_of_map rfl (fun _ => rfl) fun _ => ⟨rfl, rfl, fun _ => rfl⟩

/-- An entry is taken in one of the three ways of R18: shown, spoken at once, or claimed for. -/
theorem takeEntry_selected (e : Entry) (s : State) : Selected s (takeEntry e s) := by
  unfold takeEntry
  dsimp only
  generalize hr : fillSlot e.tag (s.kindFor e) (s.compose e (s.kindFor e)) s = r
  have hhall : r.hall = s.hall := by rw [← hr]; rfl
  have hfloor : r.floor = s.floor := by rw [← hr]; rfl
  have hqueue : r.seq.queue = s.seq.queue := by rw [← hr]; rfl
  refine Selected.of_prior hhall hfloor hqueue ?_
  split
  · exact startSilent_selected ..
  · split
    · next hup =>
      have hclaim := requestClaim_selected (s := changeEntry e.tag (fun x => { x with state := .claiming }) r)
        (by rw [← hhall] at hup; exact hup) e.cls e.arrival (s.compose e (s.kindFor e)).script.estimate
      refine { hclaim with entry := fun n x hx => ?_ }
      obtain ⟨x', hx', hcont⟩ := changeEntry_claiming_continues e.tag r n x hx
      exact ⟨x', by unfold State.entry; rw [requestClaim_seq]; exact hx', hcont⟩
    · exact startAudible_selected ..

theorem Selected.refl (s : State) : Selected s s := Selected.of_eq rfl rfl fun _ e he => ⟨e, he, Entry.Continues.refl e⟩

theorem select_selected (s : State) : Selected s (select s) := by
  unfold select
  split
  · exact Selected.refl s
  · dsimp only
    split
    · obtain ⟨view, state, outgoing, list, entry⟩ := takeEntry_selected _ (s.onSeq fun q => { q with askedAt := s.now })
      exact ⟨view, state, outgoing, list, entry⟩
    · exact Selected.of_eq rfl rfl fun _ e he => ⟨e, he, Entry.Continues.refl e⟩

@[simp] theorem holdSampling_seq (s : State) : (holdSampling s).seq = s.seq := by
  unfold holdSampling
  split
  · rfl
  · split <;> rfl

@[simp] theorem holdTimers_seq (s : State) : (holdTimers s).seq = s.seq := by
  unfold holdTimers
  split
  · rfl
  · split
    · split <;> rfl
    · rfl

@[simp] theorem startWaitingRecovery_seq (s : State) : (startWaitingRecovery s).seq = s.seq := by
  unfold startWaitingRecovery
  split <;> rfl

@[simp] theorem startWaitingRecovery_floor (s : State) : (startWaitingRecovery s).floor = s.floor := by
  unfold startWaitingRecovery
  split <;> rfl

/-- No recovery attempt starts where none waits (R20). -/
theorem startWaitingRecovery_of_ne {s : State} (h : s.hall.recovery ≠ .waiting) : startWaitingRecovery s = s :=
  if_neg fun hw => h hw.1

/-- What follows a step while the part is awake. -/
theorem conclude_of_awake {s : State} (h : s.power.mode ≠ .sleep) :
    conclude s = holdTimers (holdSampling (select (startWaitingRecovery s))) := if_pos (decide_eq_true h)

@[simp] theorem holdSampling_power (s : State) : (holdSampling s).power = s.power := by
  unfold holdSampling
  split
  · rfl
  · split <;> rfl

@[simp] theorem holdTimers_mode (s : State) : (holdTimers s).power.mode = s.power.mode := by
  unfold holdTimers
  split
  · rfl
  · split
    · split <;> rfl
    · rfl

@[simp] theorem startWaitingRecovery_power (s : State) : (startWaitingRecovery s).power = s.power := by
  unfold startWaitingRecovery
  split <;> rfl

/-- What follows a step is the start of a waiting recovery attempt and then the selection. -/
theorem conclude_selected {s : State} (h : s.power.mode ≠ .sleep) : Selected (startWaitingRecovery s) (conclude s) := by
  have hkept : (conclude s).besideOutput = (select (startWaitingRecovery s)).besideOutput := by
    rw [conclude_of_awake h, holdTimers_besideOutput, holdSampling_besideOutput]
  have hseq : (conclude s).seq = (select (startWaitingRecovery s)).seq := by
    rw [conclude_of_awake h, holdTimers_seq, holdSampling_seq]
  have hhall := State.hall_eq_of_besideOutput hkept
  have hfloor := State.floor_eq_of_besideOutput hkept
  obtain ⟨view, state, outgoing, list, entry⟩ := select_selected (startWaitingRecovery s)
  exact ⟨hfloor ▸ view, hfloor ▸ state, by rw [hfloor, hhall]; exact outgoing, by unfold ListIs; rw [hhall]; exact list,
    fun tag e he => by unfold State.entry; rw [hseq]; exact entry tag e he⟩

/-- What follows a step leaves the view (R18). -/
@[simp] theorem conclude_view (s : State) : (conclude s).floor.view = s.floor.view := by
  by_cases h : s.power.mode = .sleep
  · rw [conclude, if_neg (by simp [State.awake, h])]
  · rw [(conclude_selected h).view, startWaitingRecovery_floor]

/-- The list after a step, where no recovery attempt waits: as the step left it, but for the CLAIM of the entry taken. -/
theorem conclude_txList {s : State} (h : s.power.mode ≠ .sleep) (hr : s.hall.recovery ≠ .waiting) :
    ListIs s.hall.txList s (conclude s) := by
  have hlist := (conclude_selected h).list
  rwa [startWaitingRecovery_of_ne hr] at hlist

/-- The own floor state after a step: as the step left it, or CLAIMING for the entry taken. -/
theorem conclude_floorState {s : State} (h : s.power.mode ≠ .sleep) :
    (conclude s).floor.own.state = s.floor.own.state ∨ (conclude s).floor.own.state = .claiming := by
  have hstate := (conclude_selected h).state
  rwa [startWaitingRecovery_floor] at hstate

/-- An outgoing CLAIM stays after a step, and with it the list, where no recovery attempt waits. -/
theorem conclude_outgoing {s : State} {o : Outgoing} (h : s.power.mode ≠ .sleep) (ho : s.floor.own.outgoing = some o) :
    (conclude s).floor.own.outgoing = some o
      ∧ (s.hall.recovery ≠ .waiting → (conclude s).hall.txList = s.hall.txList) := by
  obtain ⟨hout, hlist⟩ := (conclude_selected h).outgoing o (by rwa [startWaitingRecovery_floor])
  exact ⟨hout, fun hr => by rw [hlist, startWaitingRecovery_of_ne hr]⟩

/-- An entry the step has left in the queue is there after what follows it. -/
theorem conclude_entry {s : State} {tag : Nat} {e : Entry} (h : s.power.mode ≠ .sleep) (he : s.entry tag = some e) :
    ∃ e', (conclude s).entry tag = some e' ∧ e.Continues e' :=
  (conclude_selected h).entry tag e (by unfold State.entry; rw [startWaitingRecovery_seq]; exact he)

/-- With the slot taken, the selection that follows a step leaves the queue, the slot and the floor (R18). -/
theorem conclude_of_slot {s : State} (h : s.seq.slot.isSome = true) :
    (conclude s).seq = s.seq ∧ (conclude s).floor = s.floor ∧ (conclude s).power.mode = s.power.mode := by
  have hselect : select (startWaitingRecovery s) = startWaitingRecovery s := by
    obtain ⟨v, hv⟩ := Option.isSome_iff_exists.mp h
    unfold select
    rw [startWaitingRecovery_seq, hv]
  unfold conclude
  split
  · rw [hselect]
    refine ⟨by simp, ?_, by simp⟩
    rw [State.floor_eq_of_besideOutput (holdTimers_besideOutput _),
      State.floor_eq_of_besideOutput (holdSampling_besideOutput _), startWaitingRecovery_floor]
  · exact ⟨rfl, rfl, rfl⟩

end Sys2Proof.Machine
end

section
/-! PROOFS. Partial frames of the cue link (R191): what a byte does to the framer, and how a partial frame is discarded. -/

namespace Sys2Proof.Machine

open Sys2Proof Host Safety

/-- The cue link once a partial frame has been discarded and counted (R191). -/
def CueLink.discarded (l : CueLink) : CueLink := { l with framer := .hunt, framingErrors := min 65535 (l.framingErrors + 1) }

/-- A partial frame has been discarded and counted once, and nothing else has changed but for the timebase and what follows a
step. -/
def PartialDiscarded (s u : State) : Prop :=
  u.link.framer = .hunt ∧ u.link.framingErrors = min 65535 (s.link.framingErrors + 1)
    ∧ u.link.refusals = s.link.refusals
    ∧ LineKept s u ∧ ViewKept s u ∧ RemindersKept s u ∧ PanelKept s u ∧ SettingsKept s u ∧ ReportsKept s u
    ∧ QueueKept s u ∧ StoreKept s u ∧ LevelKept s u ∧ SpeakerKept s u ∧ StatusLineKept s u

/-- What follows the discard of a partial frame leaves it at that. -/
theorem conclude_partialDiscarded (s : State) (now : Nat) :
    PartialDiscarded s (conclude { s with now := now, link := s.link.discarded }) := by
  generalize hr : ({ s with now := now, link := s.link.discarded } : State) = r
  have houtside := conclude_outside r
  obtain ⟨⟨hrem, hpanel, hsettings, ⟨hframer, herrors, hrefusals⟩, hqueue, hstore, hlevel, hspeaker, hstatus⟩, hreports⟩ :=
    besidesHallKept_of_outside houtside
  have hline := lineKept_of_outside houtside
  have hview := viewKept_of_view (conclude_view r)
  subst hr
  exact ⟨hframer, herrors, hrefusals, hline, hview, hrem, hpanel, hsettings, hreports, hqueue, hstore, hlevel, hspeaker,
    hstatus⟩

/-- A partial frame is discarded where one is held (R191). -/
theorem discardPartial_of_held {s : State} (h : s.link.framer ≠ .hunt) :
    discardPartial s = { s with link := s.link.discarded } := by
  unfold discardPartial
  split
  · next hunt => exact absurd hunt h
  · rfl

/-- A framer that holds the stamp of a byte holds a partial frame. -/
theorem Framer.ne_hunt_of_stamp {f : Framer} {stamp : Nat} (h : f.stamp = some stamp) : f ≠ .hunt := by
  rintro rfl
  cases h

/-- The gap after a byte of a partial frame (R191). -/
theorem Framer.gap_of_stamp {f : Framer} {stamp : Nat} (h : f.stamp = some stamp) : f.gap = some ⟨stamp + 5, 5⟩ := by
  simp [Framer.gap, h, Config.interByte]

/-- What wakes the part changes nothing of it awake (R186). -/
theorem wakeIfAsleep_of_awake {s : State} (h : s.power.mode ≠ .sleep) : wakeIfAsleep s = s := if_pos (decide_eq_true h)

/-! ### One byte -/

/-- A partial frame that its gap still allows stays (R191, log 2). -/
theorem dropStale_of_not_late {s : State} (h : lateAt s.link.framer.gap s.now = false) : dropStale s = s :=
  if_neg (by simp [h])

/-- A byte that completes no cue moves the cue link alone. -/
theorem receiveByte_of_none {s : State} {b : Byte} {l : CueLink} (down : Keys Bool) (hawake : s.power.mode ≠ .sleep)
    (hlistening : s.link.listening = true) (hgap : lateAt s.link.framer.gap s.now = false)
    (hbyte : s.link.receive s.now b = (l, none)) : receiveByte down s b = { s with link := l } := by
  unfold receiveByte
  rw [if_pos hlistening, wakeIfAsleep_of_awake hawake, dropStale_of_not_late hgap]
  dsimp only
  rw [hbyte]
  rfl

/-- The gap after a byte heard now lies ahead. -/
theorem not_late_of_stamp_now {f : Framer} {now : Nat} (h : f.stamp = some now) : lateAt f.gap now = false := by
  rw [Framer.gap_of_stamp h]
  exact decide_eq_false (by simp only [Config.tolerance]; omega)

/-- A start byte and a type byte, heard from HUNT on, leave the framer at the length byte (R191). -/
theorem receiveBytes_start_type {s : State} (down : Keys Bool) (type : Byte) (h : CueReady s) :
    receiveBytes down [0x7E#8, type] s = { s with link := { s.link with framer := .length s.now type } } := by
  obtain ⟨hawake, hlistening, hhunt⟩ := h
  have hstart : receiveByte down s 0x7E#8 = { s with link := { s.link with framer := .type s.now } } :=
    receiveByte_of_none down hawake hlistening (by rw [hhunt]; rfl) (by simp [CueLink.receive, hhunt])
  have htype : receiveByte down { s with link := { s.link with framer := .type s.now } } type =
      { s with link := { s.link with framer := .length s.now type } } :=
    receiveByte_of_none down hawake hlistening (not_late_of_stamp_now rfl) rfl
  unfold receiveBytes
  rw [List.foldl_cons, List.foldl_cons, List.foldl_nil, hstart, htype]

/-- A length byte of 25 to 255 discards the partial frame (R191). -/
theorem receiveByte_long_length {s : State} (down : Keys Bool) {type last : Byte} (hawake : s.power.mode ≠ .sleep)
    (hlistening : s.link.listening = true) (hframer : s.link.framer = .length s.now type) (hlast : 24 < last.toNat) :
    receiveByte down s last = { s with link := s.link.discarded } := by
  refine receiveByte_of_none down hawake hlistening (by rw [hframer]; exact not_late_of_stamp_now rfl) ?_
  unfold CueLink.receive
  rw [hframer]
  exact if_pos hlast

/-- A byte heard after a partial frame has left its gap behind begins a frame or is none (R191, log 2). -/
theorem receiveByte_of_stale {s : State} {stamp : Nat} (down : Keys Bool) (b : Byte) (hawake : s.power.mode ≠ .sleep)
    (hlistening : s.link.listening = true) (hstamp : s.link.framer.stamp = some stamp) (hlate : stamp + 6 < s.now) :
    receiveByte down s b =
      { s with
        link :=
          { s.link with
            framer := if b = 0x7E#8 then .type s.now else .hunt
            framingErrors := min 65535 (s.link.framingErrors + 1) } } := by
  have hgap : lateAt s.link.framer.gap s.now = true := by
    rw [Framer.gap_of_stamp hstamp]
    exact decide_eq_true (by simp only [Config.tolerance]; omega)
  have hdrop : dropStale s = { s with link := s.link.discarded } :=
    (if_pos hgap).trans (discardPartial_of_held (Framer.ne_hunt_of_stamp hstamp))
  unfold receiveByte
  rw [if_pos hlistening, wakeIfAsleep_of_awake hawake, hdrop]
  by_cases hb : b = 0x7E#8
  · simp [CueLink.receive, CueLink.discarded, hb, State.onLink]
  · simp [CueLink.receive, CueLink.discarded, hb, State.onLink]

/-! ### A gap -/

/-- The gap of a partial frame holds the timebase (R191, log 2). -/
theorem framerGap_mem_runningTimers {s : State} {stamp : Nat} (hawake : s.power.mode ≠ .sleep)
    (hstamp : s.link.framer.stamp = some stamp) : (⟨stamp + 5, 5⟩ : Timer) ∈ s.runningTimers := by
  rw [State.runningTimers_of_awake hawake]
  simp [State.otherTimers, Framer.gap_of_stamp hstamp]

/-- Of the intervals of the cue link, the keys, the power block and the display the gap is the first. -/
theorem State.otherTimers_eq (s : State) :
    s.otherTimers = s.link.framer.gap.toList ++ (s.onLink fun l => { l with framer := .hunt }).otherTimers := by
  simp only [State.otherTimers, List.append_assoc]
  rfl

/-- The intervals that run once a partial frame is held: its gap, and those from before. -/
theorem mem_runningTimers_of_framer {s : State} (f : Framer) (now : Nat) (hawake : s.power.mode ≠ .sleep)
    (hhunt : s.link.framer = .hunt) (tm : Timer) :
    tm ∈ ({ s with now := now, link := { s.link with framer := f } } : State).runningTimers ↔
      f.gap = some tm ∨ tm ∈ s.runningTimers := by
  have hbefore : s.otherTimers = (s.onLink fun l => { l with framer := .hunt }).otherTimers := by
    rw [State.otherTimers_eq, hhunt]
    rfl
  have hafter : ({ s with now := now, link := { s.link with framer := f } } : State).otherTimers =
      f.gap.toList ++ (s.onLink fun l => { l with framer := .hunt }).otherTimers := State.otherTimers_eq _
  have hrest : ({ s with now := now, link := { s.link with framer := f } } : State).queueTimers
      ++ ({ s with now := now, link := { s.link with framer := f } } : State).outputTimers
      ++ ({ s with now := now, link := { s.link with framer := f } } : State).hallTimers =
      s.queueTimers ++ s.outputTimers ++ s.hallTimers := rfl
  rw [State.runningTimers_of_awake hawake, State.runningTimers_of_awake (by exact hawake), hafter, hbefore, hrest]
  simp only [List.mem_append, Option.mem_toList]
  exact or_left_comm

/-- What no running interval and no later instant forbids is no later than the instant taken. -/
theorem le_foldl_latest {l : List Timer} {t x : Nat} (ht : x ≤ t) (h : ∀ tm ∈ l, x ≤ tm.latest) :
    x ≤ l.foldl (fun acc tm => min acc tm.latest) t := by
  induction l generalizing t with
  | nil => exact ht
  | cons y ys ih =>
    exact ih (Nat.le_min.mpr ⟨ht, h y (List.mem_cons_self ..)⟩) fun tm htm => h tm (List.mem_cons_of_mem _ htm)

/-- The state in which a partial frame has been heard up to its type byte at the instant of `a`. -/
def State.typeHeard (s : State) (a : Nat) (type : Byte) : State :=
  { s with now := s.instant a, link := { s.link with framer := .length (s.instant a) type } }

section
variable {s : State} {t a : Nat} {type : Byte} (h : CueReady s)
include h

/-- Where the timebase can pass the gap after the bytes, the gap ends (log 9). -/
theorem typeHeard_instant_of_le (hgap : s.instant a + 5 ≤ s.instant t) :
    s.instant a + 5 ≤ (s.typeHeard a type).instant t := by
  obtain ⟨hawake, -, hhunt⟩ := h
  have hnow := State.now_le_instant a s
  have hfold : s.instant a + 5 ≤ s.runningTimers.foldl (fun acc tm => min acc tm.latest) t := by
    unfold State.instant at *
    omega
  refine Nat.le_trans (le_foldl_latest (Nat.le_trans hfold (foldl_latest_le _ _)) fun tm htm => ?_) (Nat.le_max_right _ _)
  rcases (mem_runningTimers_of_framer _ _ hawake hhunt tm).mp htm with hown | hbefore
  · obtain rfl : ⟨s.instant a + 5, 5⟩ = tm := Option.some.inj hown
    rw [Timer.latest_of_five]
    omega
  · exact Nat.le_trans hfold (foldl_latest_le_mem hbefore t)

/-- A gap after the bytes that the timebase cannot pass is not passed (log 9). -/
theorem typeHeard_instant_le : (s.typeHeard a type).instant t ≤ max (s.instant a) (s.instant t) := by
  obtain ⟨hawake, -, hhunt⟩ := h
  refine Nat.max_le.mpr ⟨Nat.le_max_left _ _, Nat.le_trans ?_ (Nat.le_max_right _ _)⟩
  refine Nat.le_trans (le_foldl_latest (foldl_latest_le _ t) fun tm htm => ?_) (Nat.le_max_right _ _)
  exact foldl_latest_le_mem ((mem_runningTimers_of_framer _ _ hawake hhunt tm).mpr (.inr htm)) t

/-- A gap that brings a start byte and a type byte hears them, and then waits. -/
theorem gapHeard_start_type : gapHeard t [0x7E#8, type] s = gapPasses ((s.typeHeard (t - 5) type).arrive t) := by
  have hbytes : receiveBytes s.keysDown [0x7E#8, type] (s.arrive (t - Config.interByte)) = s.typeHeard (t - 5) type :=
    receiveBytes_start_type _ type (s := s.arrive (t - Config.interByte)) h
  unfold gapHeard
  rw [hbytes]

end

/-- A partial frame whose gap has passed is discarded (R191). -/
theorem gapPasses_of_due {s : State} {stamp : Nat} (hstamp : s.link.framer.stamp = some stamp) (hdue : stamp + 5 ≤ s.now) :
    gapPasses s = { s with link := s.link.discarded } := by
  have hgap : reachedAt s.link.framer.gap s.now = true := by
    rw [Framer.gap_of_stamp hstamp]
    exact Timer.reached_of_due hdue
  exact (if_pos hgap).trans (discardPartial_of_held (Framer.ne_hunt_of_stamp hstamp))

/-- A partial frame whose gap runs stays (R191). -/
theorem gapPasses_of_running {s : State} {stamp : Nat} (hstamp : s.link.framer.stamp = some stamp)
    (hrun : s.now + 1 < stamp + 5) : gapPasses s = s := by
  have hgap : reachedAt s.link.framer.gap s.now = false := by
    rw [Framer.gap_of_stamp hstamp]
    exact decide_eq_false (by simp only [Config.tolerance]; omega)
  exact if_neg (by simp [hgap])

/-- Settles O16: each way a partial frame is discarded, the gap that holds the timebase, and the byte after a gap left
behind. -/
theorem partialFramesAreDiscarded : Obligations.PartialFramesAreDiscarded := by
  refine ⟨?_, ?_, ?_, ?_, ?_, ?_, ?_⟩
  · intro t type last s hready hlast
    have hstart := receiveBytes_start_type (s.arrive t).keysDown type (s := s.arrive t) hready
    obtain ⟨hawake, hlistening, -⟩ := hready
    have hdiscard : frameDiscarded [0x7E#8, type] last false (s.arrive t) =
        { s with now := s.instant t, link := s.link.discarded } := by
      unfold frameDiscarded
      rw [hstart]
      exact receiveByte_long_length _ hawake hlistening rfl hlast
    exact ⟨_, rfl, hdiscard ▸ conclude_partialDiscarded s _⟩
  · intro t last s hawake hlistening hheld
    have hdiscard : frameDiscarded [] last true (s.arrive t) = { s with now := s.instant t, link := s.link.discarded } := by
      refine (if_pos hlistening).trans ?_
      rw [wakeIfAsleep_of_awake (by exact hawake)]
      exact discardPartial_of_held hheld
    exact ⟨_, rfl, hdiscard ▸ conclude_partialDiscarded s _⟩
  · intro t stamp s hawake hstamp hdue
    have hdiscard : gapHeard t [] s = { s with now := s.instant t, link := s.link.discarded } := by
      rw [gapHeard_nil]
      exact gapPasses_of_due (s := s.arrive t) hstamp hdue
    exact ⟨_, rfl, hdiscard ▸ conclude_partialDiscarded s _⟩
  · intro t type s hready hgap
    have hdiscard : gapHeard t [0x7E#8, type] s =
        { s with now := (s.typeHeard (t - 5) type).instant t, link := s.link.discarded } := by
      rw [gapHeard_start_type hready]
      exact gapPasses_of_due (s := (s.typeHeard (t - 5) type).arrive t) rfl (typeHeard_instant_of_le hready hgap)
    exact ⟨_, rfl, hdiscard ▸ conclude_partialDiscarded s _⟩
  · intro t type s hready hgap
    have hle : (s.typeHeard (t - 5) type).instant t ≤ _ := typeHeard_instant_le hready
    have hstays : gapHeard t [0x7E#8, type] s = (s.typeHeard (t - 5) type).arrive t := by
      rw [gapHeard_start_type hready]
      exact gapPasses_of_running rfl (by simp only [State.arrive_now]; omega)
    refine ⟨_, rfl, ?_⟩
    rw [hstays]
    obtain ⟨⟨-, -, -, ⟨hframer, herrors, -⟩, -⟩, -⟩ := besidesHallKept_of_outside (conclude_outside (State.arrive t _))
    exact ⟨hframer, herrors⟩
  · intro t stamp s hawake hstamp hnow
    have hle := State.instant_le_latest (framerGap_mem_runningTimers hawake hstamp) t
    rw [Timer.latest_of_five] at hle
    omega
  · intro down stamp b s hawake hlistening hstamp hlate
    exact receiveByte_of_stale down b hawake hlistening hstamp hlate

end Sys2Proof.Machine
end

section
/-! PROOFS. The neighbour view (4.9): the records of one station, the live claims, and their ranking (R80). -/

namespace Sys2Proof.Machine

open Sys2Proof Host Safety

/-! ### The records of one station -/

/-- The peer records of one station: at most one in a view that R75 describes, whatever the view holds. -/
def State.records (s : State) (n : Nat) : List Peer := s.floor.peers.filter fun p => p.station = n

/-- The peer record of a station is the first of its records. -/
theorem State.peer_eq_head (s : State) (n : Nat) : s.peer n = (s.records n).head? := List.head?_filter.symm

theorem State.records_of_peers_eq {s u : State} (h : u.floor.peers = s.floor.peers) (n : Nat) : u.records n = s.records n := by
  unfold State.records
  rw [h]

theorem State.peer_of_records_eq {s u : State} {n : Nat} (h : u.records n = s.records n) : u.peer n = s.peer n := by
  rw [State.peer_eq_head, State.peer_eq_head, h]

/-- Where every peer has one record, the record of a peer is the only one of its station (R75). -/
theorem records_of_oneRecordEach {s : State} (h : OneRecordEach s) {p : Peer} (hp : p ∈ s.floor.peers) :
    s.records p.station = [p] := by
  have hpairwise : s.floor.peers.Pairwise fun a b => a.station < b.station := List.pairwise_map.mp h.1
  obtain ⟨l, r, hlr⟩ := List.append_of_mem hp
  rw [hlr] at hpairwise
  obtain ⟨-, hr, hl⟩ := List.pairwise_append.mp hpairwise
  have hleft : l.filter (fun q => q.station = p.station) = [] :=
    List.filter_eq_nil_iff.mpr fun q hq => by
      have := hl q hq p (List.mem_cons_self ..)
      simp only [decide_eq_true_eq]
      omega
  have hright : r.filter (fun q => q.station = p.station) = [] :=
    List.filter_eq_nil_iff.mpr fun q hq => by
      have := (List.pairwise_cons.mp hr).1 q hq
      simp only [decide_eq_true_eq]
      omega
  unfold State.records
  rw [hlr, List.filter_append, hleft, List.filter_cons_of_pos (by simp), hright]
  rfl

section
variable {f : Peer → Peer} (hf : ∀ p, (f p).station = p.station)
include hf

/-- A change of a station's records changes each of them. -/
theorem changePeer_records_same (n : Nat) (s : State) : (changePeer n f s).records n = (s.records n).map f := by
  show (s.floor.peers.map fun p => if p.station = n then f p else p).filter _ = (s.floor.peers.filter _).map f
  induction s.floor.peers with
  | nil => rfl
  | cons p ps ih =>
    rw [List.map_cons, List.filter_cons, List.filter_cons]
    by_cases hp : p.station = n
    · simp [hp, hf, ih]
    · simp [hp, ih]

/-- A change of one station's records leaves those of another. -/
theorem changePeer_records_of_ne {n m : Nat} (h : m ≠ n) (s : State) : (changePeer n f s).records m = s.records m := by
  show (s.floor.peers.map fun p => if p.station = n then f p else p).filter _ = s.floor.peers.filter _
  induction s.floor.peers with
  | nil => rfl
  | cons p ps ih =>
    rw [List.map_cons, List.filter_cons, List.filter_cons, ih]
    by_cases hp : p.station = n
    · have hm : ¬ p.station = m := fun he => h (he ▸ hp)
      simp [hp, hf, Ne.symm h]
    · rw [if_neg hp]

/-- The record of the changed station. -/
theorem changePeer_peer_same (n : Nat) (s : State) : (changePeer n f s).peer n = (s.peer n).map f := by
  rw [State.peer_eq_head, changePeer_records_same hf, List.head?_map, ← State.peer_eq_head]

end

/-- A record put into the view joins those of its station. -/
theorem insertPeer_filter (p : Peer) (l : List Peer) (n : Nat) (h : l.filter (fun q => q.station = p.station) = []) :
    (insertPeer p l).filter (fun q => q.station = n) =
      if n = p.station then [p] else l.filter fun q => q.station = n := by
  induction l with
  | nil => by_cases hn : n = p.station <;> simp [insertPeer, hn, eq_comm]
  | cons x xs ih =>
    have hx : x.station ≠ p.station := by
      intro he
      rw [List.filter_cons_of_pos (by simpa using he)] at h
      cases h
    rw [List.filter_cons_of_neg (by simpa using hx)] at h
    unfold insertPeer
    split
    · by_cases hn : n = p.station
      · subst hn
        simp [h, hx]
      · simp [hn, Ne.symm hn]
    · rw [List.filter_cons, ih h, List.filter_cons]
      by_cases hn : n = p.station
      · subst hn
        simp [hx]
      · simp [hn]

/-- A frame heard leaves the records of every other station (R75). -/
theorem hearPeer_records_of_ne {n m : Nat} (h : m ≠ n) (zone : Nat) (presence : Presence) (s : State) :
    (hearPeer n zone presence s).records m = s.records m := by
  unfold hearPeer
  split
  · next hnone =>
    have hfree : s.floor.peers.filter (fun q => q.station = n) = [] := by
      have := State.peer_eq_head s n
      rwa [hnone, eq_comm, List.head?_eq_none_iff] at this
    exact (insertPeer_filter (newPeer n zone s.now presence) s.floor.peers m hfree).trans (if_neg h)
  · refine changePeer_records_of_ne (fun p => ?_) h s
    rfl

/-- A frame heard makes the record of its station, or brings it up to date; its claim stays (R75, R76). -/
theorem hearPeer_peer (n zone : Nat) (presence : Presence) (s : State) :
    ∃ p, (hearPeer n zone presence s).peer n = some p ∧ p.zone = zone ∧ p.presence = presence ∧ p.lastHeard = s.now
      ∧ p.claim = (s.peer n).bind Peer.claim := by
  unfold hearPeer
  split
  · next hnone =>
    have hfree : s.floor.peers.filter (fun q => q.station = n) = [] := by
      have := State.peer_eq_head s n
      rwa [hnone, eq_comm, List.head?_eq_none_iff] at this
    refine ⟨newPeer n zone s.now presence, ?_, rfl, rfl, rfl, by rw [hnone]; rfl⟩
    rw [State.peer_eq_head]
    exact congrArg List.head? ((insertPeer_filter (newPeer n zone s.now presence) s.floor.peers n hfree).trans (if_pos rfl))
  · next p hp =>
    refine ⟨{ p with zone := zone, presence := presence, lastHeard := s.now }, ?_, rfl, rfl, rfl, by rw [hp]; rfl⟩
    rw [changePeer_peer_same fun p => ?_, hp]
    · rfl
    · rfl

/-! ### Live claims -/

/-- A live claim of a peer is the claim of one of its records. -/
theorem mem_peerClaims {s : State} {x : Nat × LiveClaim} :
    x ∈ s.peerClaims ↔ ∃ p ∈ s.records x.1, p.claim = some x.2 := by
  obtain ⟨n, c⟩ := x
  simp only [State.peerClaims, State.records, List.mem_filterMap, List.mem_filter, decide_eq_true_eq, Option.map_eq_some_iff,
    Prod.mk.injEq]
  constructor
  · rintro ⟨p, hp, c', hc, hn, rfl⟩
    exact ⟨p, ⟨hp, hn⟩, hc⟩
  · rintro ⟨p, ⟨hp, hn⟩, hc⟩
    exact ⟨p, hp, c, hc, hn, rfl⟩

/-- A live claim is the own one or one of a peer (R79). -/
theorem mem_liveClaims {s : State} {x : Nat × LiveClaim} :
    x ∈ s.liveClaims ↔ (x.1 = s.straps.station ∧ s.floor.own.claim = some x.2) ∨ x ∈ s.peerClaims := by
  obtain ⟨n, c⟩ := x
  unfold State.liveClaims
  split
  · next own hown => simp [hown, eq_comm]
  · next hown => simp [hown]

/-- A live claim of another station is one of a peer. -/
theorem mem_peerClaims_of_ne {s : State} {z : Nat} {x : Nat × LiveClaim} (h : x ∈ s.claimsIn z)
    (hne : x.1 ≠ s.straps.station) : x ∈ s.peerClaims := by
  rcases mem_liveClaims.mp (List.mem_filter.mp h).1 with ⟨hown, -⟩ | hpeer
  · exact absurd hown hne
  · exact hpeer

/-- A live claim of the own number is the own one, where no peer has that number (R75). -/
theorem own_claim_of_mem {s : State} (h : OneRecordEach s) {z : Nat} {x : Nat × LiveClaim} (hx : x ∈ s.claimsIn z)
    (hown : x.1 = s.straps.station) : s.floor.own.claim = some x.2 := by
  rcases mem_liveClaims.mp (List.mem_filter.mp hx).1 with ⟨-, hc⟩ | hpeer
  · exact hc
  · obtain ⟨p, hp, -⟩ := mem_peerClaims.mp hpeer
    obtain ⟨hmem, hstation⟩ := List.mem_filter.mp hp
    exact absurd ((of_decide_eq_true hstation).trans hown) (h.2 p hmem).2.2

/-- The holder of a zone is one of its claims, and confirmed. -/
theorem State.holderOf_mem {s : State} {z : Nat} {x : Nat × LiveClaim} (h : s.holderOf z = some x) :
    x ∈ s.claimsIn z ∧ x.2.confirmed = true := ⟨List.mem_of_find?_eq_some h, by simpa using List.find?_some h⟩

/-- A zone has a holder exactly where one of its claims is confirmed. -/
theorem State.holderOf_isSome {s : State} {z : Nat} :
    (s.holderOf z).isSome = true ↔ ∃ x ∈ s.claimsIn z, x.2.confirmed = true := by
  unfold State.holderOf
  rw [List.find?_isSome]

/-- The own claim, confirmed, holds its zone whatever the view says. -/
theorem State.holderOf_of_own {s : State} {c : LiveClaim} (hclaim : s.floor.own.claim = some c)
    (hconfirmed : c.confirmed = true) : s.holderOf c.zone = some (s.straps.station, c) := by
  unfold State.holderOf State.claimsIn State.liveClaims
  rw [hclaim]
  simp [hconfirmed]

/-! ### The ranking -/

/-- Of two claims at most one outranks the other (R80). -/
theorem RankKey.outranks_asymm {a b : RankKey} (h : a.outranks b = true) : b.outranks a = false := by
  simp only [RankKey.outranks, Bool.or_eq_true, Bool.and_eq_true, decide_eq_true_eq, Bool.or_eq_false_iff,
    Bool.and_eq_false_iff, decide_eq_false_iff_not] at *
  omega

/-- What does not outrank a claim outranks none that it does not outrank (R80). -/
theorem RankKey.not_outranks_trans {a b c : RankKey} (hab : a.outranks b = false) (hbc : b.outranks c = false) :
    a.outranks c = false := by
  simp only [RankKey.outranks, Bool.or_eq_false_iff, Bool.and_eq_false_iff, decide_eq_false_iff_not] at *
  omega

/-- The top-ranked of a list of claims is one of them. -/
theorem topClaim_mem {l : List (Nat × LiveClaim)} {x : Nat × LiveClaim} (h : topClaim l = some x) : x ∈ l := by
  induction l generalizing x with
  | nil => cases h
  | cons a l ih =>
    unfold topClaim at h
    split at h
    · cases h
      exact List.mem_cons_self ..
    · next y hy =>
      split at h
      · cases h
        exact List.mem_cons_of_mem _ (ih hy)
      · cases h
        exact List.mem_cons_self ..

/-- Only an empty list has no top-ranked claim. -/
theorem topClaim_eq_none {l : List (Nat × LiveClaim)} (h : topClaim l = none) : l = [] := by
  cases l with
  | nil => rfl
  | cons a l =>
    unfold topClaim at h
    split at h
    · cases h
    · split at h <;> cases h

/-- No claim of a list outranks its top-ranked one (R80). -/
theorem topClaim_not_outranked {l : List (Nat × LiveClaim)} {x y : Nat × LiveClaim} (h : topClaim l = some x) (hy : y ∈ l) :
    (y.2.rankKey y.1).outranks (x.2.rankKey x.1) = false := by
  have hself (k : RankKey) : k.outranks k = false := by simp [RankKey.outranks]
  induction l generalizing x y with
  | nil => cases hy
  | cons a l ih =>
    unfold topClaim at h
    split at h
    · next hnone =>
      cases h
      rw [topClaim_eq_none hnone, List.mem_singleton] at hy
      exact hy ▸ hself _
    · next b hb =>
      split at h
      · next hba =>
        cases h
        rcases List.mem_cons.mp hy with rfl | hy
        · exact RankKey.outranks_asymm hba
        · exact ih hb hy
      · next hba =>
        cases h
        rcases List.mem_cons.mp hy with rfl | hy
        · exact hself _
        · exact RankKey.not_outranks_trans (ih hb hy) (by simpa using hba)

end Sys2Proof.Machine
end

section
/-! PROOFS. Preemption (R98), the loss of the own claim (R92), its taking back (R60, R81) and the examination of a zone (R85):
what each does, and what it leaves. -/

namespace Sys2Proof.Machine

open Sys2Proof Host Safety

@[simp] theorem changePeer_own (n : Nat) (f : Peer → Peer) (s : State) :
    (changePeer n f s).floor.own = s.floor.own := rfl

@[simp] theorem hearPeer_own (n zone : Nat) (presence : Presence) (s : State) :
    (hearPeer n zone presence s).floor.own = s.floor.own := by
  unfold hearPeer
  split <;> rfl

@[simp] theorem hearPeer_seq (n zone : Nat) (presence : Presence) (s : State) :
    (hearPeer n zone presence s).seq = s.seq := by
  unfold hearPeer
  split <;> rfl

@[simp] theorem hearPeer_straps (n zone : Nat) (presence : Presence) (s : State) :
    (hearPeer n zone presence s).straps = s.straps := by
  unfold hearPeer
  split <;> rfl

@[simp] theorem hearPeer_claimsConfirmed (n zone : Nat) (presence : Presence) (s : State) :
    (hearPeer n zone presence s).floor.claimsConfirmed = s.floor.claimsConfirmed := by
  unfold hearPeer
  split <;> rfl

/-! ### Preemption (R98) -/

/-- A preemption test does nothing, preempts the own claim, with or without the notice of a holder, or preempts the confirmed
claim of a peer (R98, R99). -/
theorem preempt_cases (z : Nat) (cls : Cls) (heard : Nat) (s : State) :
    preempt z cls heard s = s
      ∨ preempt z cls heard s = changeOwnClaim (LiveClaim.preempted heard) s
      ∨ preempt z cls heard s =
          changeService (fun v => { v with preempt := true }) (changeOwnClaim (LiveClaim.preempted heard) s)
      ∨ ∃ x, x ∈ s.peerClaims ∧ x.2.confirmed = true
          ∧ preempt z cls heard s =
              changePeer x.1 (fun p => { p with claim := p.claim.map (LiveClaim.preempted heard) }) s := by
  unfold preempt
  split
  · exact .inl rfl
  · next x hx =>
    split
    · exact .inl rfl
    · split
      · by_cases hown : x.1 = s.straps.station
        · rw [if_pos hown]
          dsimp only
          split
          · exact .inr (.inr (.inl rfl))
          · exact .inr (.inl rfl)
        · rw [if_neg hown]
          obtain ⟨hmem, hconfirmed⟩ := State.holderOf_mem hx
          exact .inr (.inr (.inr ⟨x, mem_peerClaims_of_ne hmem hown, hconfirmed, rfl⟩))
      · exact .inl rfl

/-- A step leaves what the steps of R81 and R82 after it ask of, live claims and notices aside. -/
structure LeavesAllButClaims (s u : State) : Prop where
  now : u.now = s.now
  straps : u.straps = s.straps
  hall : u.hall = s.hall
  mode : u.power.mode = s.power.mode
  claimsLost : u.floor.claimsLost = s.floor.claimsLost
  state : u.floor.own.state = s.floor.own.state
  outgoing : u.floor.own.outgoing = s.floor.own.outgoing
  nextSeq : u.floor.own.nextSeq = s.floor.own.nextSeq
  queue : u.seq.queue = s.seq.queue

theorem LeavesAllButClaims.trans {s r u : State} (h : LeavesAllButClaims s r) (h' : LeavesAllButClaims r u) :
    LeavesAllButClaims s u :=
  ⟨h'.now.trans h.now, h'.straps.trans h.straps, h'.hall.trans h.hall, h'.mode.trans h.mode,
    h'.claimsLost.trans h.claimsLost, h'.state.trans h.state, h'.outgoing.trans h.outgoing, h'.nextSeq.trans h.nextSeq,
    h'.queue.trans h.queue⟩

theorem hearPeer_leaves (n zone : Nat) (presence : Presence) (s : State) :
    LeavesAllButClaims s (hearPeer n zone presence s) := by
  unfold hearPeer
  split <;> exact ⟨rfl, rfl, rfl, rfl, rfl, rfl, rfl, rfl, rfl⟩

theorem changePeer_leaves (n : Nat) (f : Peer → Peer) (s : State) : LeavesAllButClaims s (changePeer n f s) :=
  ⟨rfl, rfl, rfl, rfl, rfl, rfl, rfl, rfl, rfl⟩

/-- A preemption test changes live claims and the PREEMPT notice alone. -/
theorem preempt_leaves (z : Nat) (cls : Cls) (heard : Nat) (s : State) :
    LeavesAllButClaims s (preempt z cls heard s) := by
  rcases preempt_cases z cls heard s with h | h | h | ⟨x, -, -, h⟩
  · rw [h]
    exact ⟨rfl, rfl, rfl, rfl, rfl, rfl, rfl, rfl, rfl⟩
  · rw [h]
    exact ⟨rfl, rfl, rfl, rfl, rfl, rfl, rfl, rfl, rfl⟩
  · rw [h]
    exact ⟨rfl, rfl, rfl, rfl, rfl, rfl, rfl, rfl, rfl⟩
  · rw [h]
    exact changePeer_leaves ..

/-- A preemption test leaves the records of a station without a confirmed claim. -/
theorem preempt_records {n : Nat} {s : State} (h : ∀ p ∈ s.records n, ∀ c, p.claim = some c → c.confirmed = false)
    (z : Nat) (cls : Cls) (heard : Nat) : (preempt z cls heard s).records n = s.records n := by
  rcases preempt_cases z cls heard s with he | he | he | ⟨x, hx, hconfirmed, he⟩
  · rw [he]
  · rw [he]; rfl
  · rw [he]; rfl
  · rw [he]
    have hne : n ≠ x.1 := by
      rintro rfl
      obtain ⟨p, hp, hc⟩ := mem_peerClaims.mp hx
      rw [h p hp _ hc] at hconfirmed
      cases hconfirmed
    refine changePeer_records_of_ne (fun p => ?_) hne s
    rfl

/-- A CLAIM of a higher class heard in the zone that this station holds preempts the own claim, and the service gets the
notice (R98, R99). -/
theorem preempt_of_own_holder {s : State} {c : LiveClaim} {k cls : Cls} (hclaim : s.floor.own.claim = some c)
    (hconfirmed : c.confirmed = true) (hcls : c.cls = .heard k) (hlower : k.val < cls.val)
    (hholding : s.floor.own.state = .holding) (heard : Nat) :
    preempt c.zone cls heard s =
      changeService (fun v => { v with preempt := true }) (changeOwnClaim (LiveClaim.preempted heard) s) := by
  unfold preempt
  rw [State.holderOf_of_own hclaim hconfirmed]
  simp only [hcls]
  rw [if_pos hlower, if_pos trivial, if_pos hholding]

/-- A preempted claim is flagged, and but for its ends it is the claim it was (R98). -/
theorem LiveClaim.preempted_keeps (c : LiveClaim) (heard : Nat) :
    (c.preempted heard).preemptPending = true ∧ (c.preempted heard).confirmed = c.confirmed
      ∧ (c.preempted heard).seq = c.seq ∧ (c.preempted heard).zone = c.zone := by
  unfold LiveClaim.preempted
  dsimp only
  split <;> exact ⟨rfl, rfl, rfl, rfl⟩

/-- Both the present end of a claim and the end of the grace bound it after its first preemption, and its expiry is the earlier
of the two (R98, log 47). -/
theorem LiveClaim.preempted_ends {c : LiveClaim} (heard : Nat) (houter : c.outer = none) :
    (heard + 3000 < c.expiry.due → (c.preempted heard).expiry = ⟨heard + 3000, 3000⟩)
      ∧ (c.expiry.due ≤ heard + 3000 → (c.preempted heard).expiry = c.expiry)
      ∧ (⟨heard + 3000, 3000⟩ : Timer) ∈ (c.preempted heard).ends := by
  unfold LiveClaim.preempted LiveClaim.ends
  simp only [Config.grace, houter]
  by_cases hgrace : heard + 3000 < c.expiry.due
  · rw [if_pos hgrace]
    exact ⟨fun _ => rfl, fun h => absurd hgrace (Nat.not_lt.mpr h), List.mem_cons_self ..⟩
  · rw [if_neg hgrace]
    exact ⟨fun h => absurd h hgrace, fun _ => rfl, List.mem_cons_of_mem _ (List.mem_singleton.mpr rfl)⟩

/-- Every end of the own claim holds the timebase. -/
theorem ownClaim_ends_mem_runningTimers {s : State} {c : LiveClaim} {tm : Timer} (hawake : s.power.mode ≠ .sleep)
    (hclaim : s.floor.own.claim = some c) (htm : tm ∈ c.ends) : tm ∈ s.runningTimers := by
  have hlive : (s.straps.station, c) ∈ s.liveClaims := mem_liveClaims.mpr (.inl ⟨rfl, hclaim⟩)
  have hends : tm ∈ s.liveClaims.flatMap fun x => x.2.ends := List.mem_flatMap.mpr ⟨_, hlive, htm⟩
  have hhall : tm ∈ s.hallTimers := by
    simp only [State.hallTimers, List.mem_append]
    tauto
  rw [State.runningTimers_of_awake hawake]
  exact List.mem_append_left _ (List.mem_append_right _ hhall)

/-! ### The loss of the own claim (R21, R92) -/

/-- A lost claim is counted, and the station is FREE; of the floor nothing else changes (R92). -/
@[simp] theorem claimLost_floor (s : State) :
    (claimLost s).floor =
      { s.floor with claimsLost := min 65535 (s.floor.claimsLost + 1), own := { s.floor.own with state := .free } } :=
  State.floor_eq_of_besideOutput (returnToQueue_besideOutput _)

@[simp] theorem claimLost_hall (s : State) : (claimLost s).hall = s.hall := by
  unfold claimLost
  rw [State.hall_eq_of_besideOutput (returnToQueue_besideOutput _)]
  rfl

@[simp] theorem returnToQueue_power (s : State) : (returnToQueue s).power = s.power := by
  unfold returnToQueue
  split <;> rfl

@[simp] theorem claimLost_power (s : State) : (claimLost s).power = s.power := by
  unfold claimLost
  exact returnToQueue_power _

/-- The entry of a lost claim waits again, with its stamp, its cut count and its deadline (R20, R21). -/
def Entry.Returns (e e' : Entry) : Prop := e'.arrival = e.arrival ∧ e'.cutCount = e.cutCount ∧ e'.deadline = e.deadline

/-- No entry leaves the queue when the one in the slot returns to it, and that one waits again (R21). -/
theorem returnToQueue_entry {s : State} {tag : Nat} {e : Entry} (he : s.entry tag = some e) :
    ∃ e', (returnToQueue s).entry tag = some e' ∧ e.Returns e' := by
  unfold returnToQueue
  split
  · next v _ =>
    have hqueue : (emptySlot (changeEntry v.tag (fun x => { x with state := .queued }) s)).seq.queue =
        s.seq.queue.map (atTag v.tag fun x => { x with state := .queued }) := rfl
    refine ⟨_, by rw [State.entry_of_map (atTag_tag (by simp) v.tag) hqueue, he]; rfl, ?_⟩
    unfold atTag Entry.Returns
    split <;> exact ⟨rfl, rfl, rfl⟩
  · exact ⟨e, he, rfl, rfl, rfl⟩

/-- No entry leaves the queue when the own claim is lost, and the one in the slot waits again (R21). -/
theorem claimLost_entry {s : State} {tag : Nat} {e : Entry} (he : s.entry tag = some e) :
    ∃ e', (claimLost s).entry tag = some e' ∧ e.Returns e' := by
  unfold claimLost
  exact returnToQueue_entry he

/-- What follows the return of an entry leaves it with its stamp, its cut count and, while it is not served, its deadline. -/
theorem conclude_entryReturns {s w : State} (hawake : w.power.mode ≠ .sleep)
    (h : ∀ v e, s.seq.slot = some v → s.entry v.tag = some e → ∃ e', w.entry v.tag = some e' ∧ e.Returns e') :
    EntryReturns s (conclude w) := by
  intro v e hv he
  obtain ⟨e1, he1, harrival1, hcut1, hdeadline1⟩ := h v e hv he
  obtain ⟨e2, he2, harrival2, hcut2, hdeadline2⟩ := conclude_entry hawake he1
  exact ⟨e2, he2, harrival2.trans harrival1, hcut2.trans hcut1, fun hstate => (hdeadline2 hstate).trans hdeadline1⟩

/-- A frame handed over leaves the recovery schedule (R60). -/
@[simp] theorem handFrame_recovery (f : TxFrame) (s : State) : (handFrame f s).hall.recovery = s.hall.recovery := by
  unfold handFrame
  split <;> rfl

/-- The list after a step is named by the state before it, where the own sequence counter has not moved. -/
theorem listIs_of_nextSeq {l : List TxEntry} {s w u : State} (h : w.floor.own.nextSeq = s.floor.own.nextSeq)
    (hlist : ListIs l w u) : ListIs l s u := by
  obtain ⟨more, hmore, htx⟩ := hlist
  refine ⟨more, ?_, htx⟩
  unfold NextClaim at *
  rwa [h] at hmore

/-! ### The own CLAIM taken back (R60, R81 step 4) -/

/-- An own CLAIM on the line runs on, marked (R60). -/
theorem takeBack_of_driving {s : State} {o : Outgoing} (why : TakenBack) (ho : s.floor.own.outgoing = some o)
    (h : ∃ x ∈ s.hall.txList, x.isClaim = true ∧ x.driving = true) :
    takeBack why s = s.onOwn fun w => { w with outgoing := some { o with takenBack := why } } := by
  have hdriving : (s.hall.txList.any fun x => x.isClaim && x.driving) = true := by simpa using h
  unfold takeBack
  dsimp only
  rw [if_pos hdriving]
  simp [State.onOwn, State.onFloor, ho]

/-- An own CLAIM that waits leaves the list unsent, and outranked it is lost (R60, R92). -/
theorem takeBack_of_waiting {s : State} {o : Outgoing} (ho : s.floor.own.outgoing = some o)
    (h : ∀ x ∈ s.hall.txList, x.isClaim = true → x.driving = false) :
    takeBack .outranked s =
      claimLost ((s.onOwn fun w => { w with outgoing := none }).onHall fun p =>
        { p with txList := p.txList.filter fun x => !x.isClaim }) := by
  have hwaiting : ¬ (s.hall.txList.any fun x => x.isClaim && x.driving) = true := by simpa using h
  unfold takeBack claimUnsent
  dsimp only
  rw [if_neg hwaiting]
  simp only [State.onHall_floor, State.onOwn_floor, ho, Option.map_some]
  rfl

/-- A CLAIM heard in the own zone that outranks the waiting own one takes it back; any other leaves it (R81 step 4). -/
theorem takeBackIfOutranked_eq {s : State} {o : Outgoing} (ho : s.floor.own.outgoing = some o) (hno : o.takenBack = .no)
    (zone : Nat) (c : LiveClaim) (station : Nat) :
    takeBackIfOutranked zone c station s =
      if zone = s.straps.zone
          ∧ (c.rankKey station).outranks ⟨o.content.cls.val, o.content.bucket, s.straps.station⟩ = true then
        takeBack .outranked s
      else s := by
  unfold takeBackIfOutranked
  rw [ho]
  simp only [hno, true_and]

/-- With no own CLAIM on its way a CLAIM heard takes none back. -/
theorem takeBackIfOutranked_of_none {s : State} (ho : s.floor.own.outgoing = none) (zone : Nat) (c : LiveClaim)
    (station : Nat) : takeBackIfOutranked zone c station s = s := by
  unfold takeBackIfOutranked
  rw [ho]

@[simp] theorem promotePending_peers (s : State) : (promotePending s).floor.peers = s.floor.peers := by
  unfold promotePending
  split <;> simp

/-- Taking the own CLAIM back leaves the peers. -/
@[simp] theorem takeBackIfOutranked_peers (zone : Nat) (c : LiveClaim) (station : Nat) (s : State) :
    (takeBackIfOutranked zone c station s).floor.peers = s.floor.peers := by
  have hunsent (st : State) : (claimUnsent st).floor.peers = st.floor.peers := by
    unfold claimUnsent
    split
    · dsimp only
      split <;> simp
    · rfl
  unfold takeBackIfOutranked takeBack
  split
  · split
    · dsimp only
      split
      · rfl
      · rw [hunsent]; rfl
    · rfl
  · rfl

/-! ### The examination of a zone (R85) -/

/-- Steps 1 and 2 of an examination confirm nobody where the zone has a holder, or where the window of its top-ranked claim
runs (R85). -/
theorem confirmTop_of_none {s : State} {z : Nat}
    (h : (∃ x ∈ s.claimsIn z, x.2.confirmed = true)
      ∨ ∀ x, topClaim (s.claimsIn z) = some x → x.2.windowEnded s.now = false) : confirmTop z s = s := by
  unfold confirmTop
  split
  · rfl
  · next hno =>
    split
    · next x hx =>
      rcases h with hholder | hwindow
      · exact absurd (State.holderOf_isSome.mpr hholder) hno
      · exact if_neg (by simp [hwindow x hx])
    · rfl

/-- Without a holder the top-ranked claim is confirmed once its window has ended (R85). -/
theorem confirmTop_of_top {s : State} {z : Nat} {x : Nat × LiveClaim}
    (hno : ∀ y ∈ s.claimsIn z, y.2.confirmed = false) (htop : topClaim (s.claimsIn z) = some x)
    (hwindow : x.2.windowEnded s.now = true) : confirmTop z s = confirmClaim x.1 s := by
  have hholder : ¬ (s.holderOf z).isSome = true := by
    rw [State.holderOf_isSome]
    rintro ⟨y, hy, hc⟩
    rw [hno y hy] at hc
    cases hc
  unfold confirmTop
  rw [if_neg hholder, htop]
  exact if_pos hwindow

/-- Steps 1 and 2 of an examination confirm nobody, or the top-ranked claim, its window ended (R85). -/
theorem confirmTop_cases (z : Nat) (s : State) :
    confirmTop z s = s
      ∨ ∃ x, topClaim (s.claimsIn z) = some x ∧ x.2.windowEnded s.now = true ∧ confirmTop z s = confirmClaim x.1 s := by
  unfold confirmTop
  split
  · exact .inl rfl
  · split
    · next x hx =>
      split
      · next hwindow => exact .inr ⟨x, hx, hwindow, rfl⟩
      · exact .inl rfl
    · exact .inl rfl

/-- A peer record with its claim confirmed in the state `s` (R85). -/
def Peer.confirmedIn (s : State) (p : Peer) : Peer :=
  { p with claim := p.claim.map s.confirmedClaim, lastConfirmed := some s.now }

theorem Peer.confirmedIn_station (s : State) (p : Peer) : (p.confirmedIn s).station = p.station := rfl

/-- A claim of a peer is confirmed in its record (R85). -/
theorem confirmClaim_of_peer {n : Nat} {s : State} (h : n ≠ s.straps.station) :
    confirmClaim n s = changePeer n (Peer.confirmedIn s) s := if_neg h

/-- The confirmation of the own claim leaves the peers (R91). -/
@[simp] theorem confirmOwn_peers (s : State) : (confirmOwn s).floor.peers = s.floor.peers := by
  unfold confirmOwn
  dsimp only
  split
  · rw [State.floor_eq_of_besideOutput (seqConfirmed_besideOutput _)]
    rfl
  · rfl

/-- Step 3 of an examination loses the own claim or does nothing (R85, R92). -/
theorem decideLoss_cases (z : Nat) (s : State) :
    decideLoss z s = s ∨ ∃ seq, decideLoss z s = claimLost (releaseWithdrawn seq s) := by
  unfold decideLoss
  split
  · split
    · exact .inr ⟨_, rfl⟩
    · exact .inl rfl
  · exact .inl rfl

@[simp] theorem releaseWithdrawn_floor (seq : Nat) (s : State) :
    (releaseWithdrawn seq s).floor = { s.floor with own := { s.floor.own with released := true } } := by
  unfold releaseWithdrawn
  rw [State.onOwn_floor, handFrame_floor]

@[simp] theorem releaseWithdrawn_hall (seq : Nat) (s : State) :
    (releaseWithdrawn seq s).hall = (handFrame (.release seq .withdrawn) s).hall := rfl

@[simp] theorem releaseWithdrawn_power (seq : Nat) (s : State) : (releaseWithdrawn seq s).power = s.power := by
  unfold releaseWithdrawn handFrame
  split <;> rfl

@[simp] theorem releaseWithdrawn_seq (seq : Nat) (s : State) : (releaseWithdrawn seq s).seq = s.seq :=
  handFrame_seq _ s

/-- Step 3 of an examination leaves the peers, the own claim and the count of confirmed claims. -/
theorem decideLoss_leaves (z : Nat) (s : State) :
    (decideLoss z s).floor.peers = s.floor.peers ∧ (decideLoss z s).floor.own.claim = s.floor.own.claim
      ∧ (decideLoss z s).floor.claimsConfirmed = s.floor.claimsConfirmed := by
  rcases decideLoss_cases z s with h | ⟨seq, h⟩
  · rw [h]; exact ⟨rfl, rfl, rfl⟩
  · rw [h]; simp

/-- A confirmed own claim is not lost by an examination. -/
theorem decideLoss_of_confirmed {s : State} {c : LiveClaim} (hclaim : s.floor.own.claim = some c)
    (hconfirmed : c.confirmed = true) (z : Nat) : decideLoss z s = s := by
  unfold decideLoss
  rw [hclaim]
  exact if_neg (by simp [hconfirmed])

/-- An examination leaves the records of a station without a claim whose window has ended. -/
theorem examine_records {n : Nat} {s : State}
    (h : ∀ p ∈ s.records n, ∀ c, p.claim = some c → c.windowEnded s.now = false) (z : Nat) :
    (examine z s).records n = s.records n := by
  refine (State.records_of_peers_eq (decideLoss_leaves z _).1 n).trans ?_
  rcases confirmTop_cases z s with he | ⟨x, htop, hwindow, he⟩
  · rw [he]
  · rw [he]
    by_cases hown : x.1 = s.straps.station
    · unfold confirmClaim
      rw [if_pos hown]
      exact State.records_of_peers_eq (confirmOwn_peers s) n
    · rw [confirmClaim_of_peer hown]
      refine changePeer_records_of_ne (Peer.confirmedIn_station s) ?_ s
      rintro rfl
      obtain ⟨p, hp, hc⟩ := mem_peerClaims.mp (mem_peerClaims_of_ne (topClaim_mem htop) hown)
      rw [h p hp _ hc] at hwindow
      cases hwindow

/-- With the own claim holding its zone, an examination of it does nothing. -/
theorem examine_of_own_holder {s : State} {c : LiveClaim} (hclaim : s.floor.own.claim = some c)
    (hconfirmed : c.confirmed = true) : examine c.zone s = s := by
  have hholder : confirmTop c.zone s = s := by
    unfold confirmTop
    rw [State.holderOf_of_own hclaim hconfirmed]
    rfl
  unfold examine
  rw [hholder, decideLoss_of_confirmed hclaim hconfirmed]

end Sys2Proof.Machine
end

section
/-! PROOFS. What the examination of a zone (R85) leaves once a live claim of a peer has been removed (Safety.Examined). -/

namespace Sys2Proof.Machine

open Sys2Proof Host Safety

/-- `w` is the state `s` at the instant `now`, its view and the counts of frames aside: what the examination of a zone starts
from. -/
structure AtExamination (now : Nat) (s w : State) : Prop where
  now : w.now = now
  straps : w.straps = s.straps
  mode : w.power.mode = s.power.mode
  txList : w.hall.txList = s.hall.txList
  hallState : w.hall.state = s.hall.state
  recovery : w.hall.recovery = s.hall.recovery
  own : w.floor.own = s.floor.own
  claimsConfirmed : w.floor.claimsConfirmed = s.floor.claimsConfirmed
  claimsLost : w.floor.claimsLost = s.floor.claimsLost
  seq : w.seq = s.seq

theorem AtExamination.changePeer {now : Nat} {s w : State} (h : AtExamination now s w) (n : Nat) (f : Peer → Peer) :
    AtExamination now s (changePeer n f w) :=
  ⟨h.now, h.straps, h.mode, h.txList, h.hallState, h.recovery, h.own, h.claimsConfirmed, h.claimsLost, h.seq⟩

/-- A claim confirmed at the instant of the examination. -/
theorem AtExamination.confirmedClaim {t : Nat} {s w : State} (h : AtExamination (s.instant t) s w) (c : LiveClaim) :
    w.confirmedClaim c = confirmedAt s t c := by
  unfold State.confirmedClaim State.confirmedExpiry State.after
  rw [h.now]
  rfl

/-! ### The confirmation of the own claim (R91) -/

/-- The own claim is confirmed, whatever becomes of the service (R85, R88). -/
theorem confirmOwn_claim {s : State} {c : LiveClaim} (hclaim : s.floor.own.claim = some c) :
    (confirmOwn s).floor.own.claim = some (s.confirmedClaim c) := by
  have hchanged : (changeOwnClaim s.confirmedClaim s).floor.own.claim = some (s.confirmedClaim c) :=
    congrArg (Option.map s.confirmedClaim) hclaim
  unfold confirmOwn
  dsimp only
  split
  · rw [State.floor_eq_of_besideOutput (seqConfirmed_besideOutput _)]
    exact hchanged
  · exact hchanged

/-- No claim is lost by the confirmation of the own one. -/
theorem confirmOwn_claimsLost (s : State) : (confirmOwn s).floor.claimsLost = s.floor.claimsLost := by
  unfold confirmOwn
  dsimp only
  split
  · rw [State.floor_eq_of_besideOutput (seqConfirmed_besideOutput _)]
    rfl
  · rfl

/-- A claim of a station that is not CLAIMING, or a released one, is confirmed and not counted (R88). -/
theorem confirmOwn_claimsConfirmed_same {s : State} (h : s.floor.own.state ≠ .claiming ∨ s.floor.own.released = true) :
    (confirmOwn s).floor.claimsConfirmed = s.floor.claimsConfirmed := by
  have hno : ¬ (s.floor.own.state = .claiming ∧ s.floor.own.released = false) := by
    rintro ⟨hstate, hreleased⟩
    rcases h with h | h
    · exact h hstate
    · rw [hreleased] at h
      cases h
  unfold confirmOwn
  dsimp only
  rw [if_neg hno]
  rfl

/-- The claim of a CLAIMING station is counted, and its floor is held (R91). -/
theorem confirmOwn_of_claiming {s : State} (hstate : s.floor.own.state = .claiming)
    (hreleased : s.floor.own.released = false) :
    (confirmOwn s).floor.claimsConfirmed = min 65535 (s.floor.claimsConfirmed + 1)
      ∧ (confirmOwn s).floor.own.state = .holding := by
  unfold confirmOwn
  dsimp only
  rw [if_pos ⟨hstate, hreleased⟩, State.floor_eq_of_besideOutput (seqConfirmed_besideOutput _)]
  exact ⟨rfl, rfl⟩

/-- The service of a CLAIMING entry starts with the confirmation of the own claim (R21, R91). -/
theorem confirmOwn_speaks {s : State} {v : Service} {e : Entry} {route : Route} (hstate : s.floor.own.state = .claiming)
    (hreleased : s.floor.own.released = false) (hslot : s.seq.slot = some v) (hkind : v.kind = .audible route)
    (he : s.entry v.tag = some e) :
    (confirmOwn s).seq.slot.isSome = true
      ∧ (confirmOwn s).entry v.tag = some { e with state := .speaking, deadline := none } := by
  have htag : e.tag = v.tag := by simpa using List.find?_some he
  unfold confirmOwn
  dsimp only
  rw [if_pos ⟨hstate, hreleased⟩]
  generalize hr : (((changeOwnClaim s.confirmedClaim s).onFloor fun u =>
    { u with claimsConfirmed := bump u.claimsConfirmed }).onOwn fun o => { o with state := .holding }) = r
  have hseq : r.seq = s.seq := by rw [← hr]; rfl
  have hstarts : seqConfirmed r = startAudible v.tag route v.script r := by
    unfold seqConfirmed
    rw [hseq, hslot]
    simp only [hkind]
  rw [hstarts]
  refine ⟨by rw [startAudible_slot, hseq, hslot]; rfl, ?_⟩
  have hr' : r.entry v.tag = some e := by unfold State.entry; rw [hseq]; exact he
  rw [State.entry_of_map (atTag_tag (by simp) v.tag) (startAudible_queue v.tag route v.script r), hr']
  exact congrArg some (if_pos htag)

/-! ### The loss of the own claim (R92) -/

/-- The own claim lost at an examination, and what follows a step: RELEASE(WITHDRAWN) joins the list (R92, R93). -/
theorem AtExamination.claimLost {now : Nat} {s w : State} (h : AtExamination now s w) (hawake : s.power.mode ≠ .sleep)
    (seq : Nat) :
    ClaimLost s.hall.txList seq s (conclude (Machine.claimLost (releaseWithdrawn seq w)))
      ∧ (conclude (Machine.claimLost (releaseWithdrawn seq w))).floor.own.released = true := by
  have hmode : (Machine.claimLost (releaseWithdrawn seq w)).power.mode ≠ .sleep := by
    rw [claimLost_power, releaseWithdrawn_power, h.mode]
    exact hawake
  obtain ⟨-, -, hreleased, -, -, hlost, -⟩ := viewKept_of_view (conclude_view (Machine.claimLost (releaseWithdrawn seq w)))
  refine ⟨⟨?_, ?_, fun hfault hrecovery => ?_, conclude_entryReturns hmode fun v e _ he => ?_⟩, ?_⟩
  · rw [hlost, claimLost_floor, releaseWithdrawn_floor, h.claimsLost]
  · have hstate := conclude_floorState hmode
    rwa [claimLost_floor] at hstate
  · have hjoined : (Machine.claimLost (releaseWithdrawn seq w)).hall.txList =
        s.hall.txList ++ [⟨.release seq .withdrawn, false⟩] := by
      rw [claimLost_hall, releaseWithdrawn_hall, handFrame_txList (by rw [h.hallState]; exact hfault), h.txList]
    have hschedule : (Machine.claimLost (releaseWithdrawn seq w)).hall.recovery ≠ .waiting := by
      rw [claimLost_hall, releaseWithdrawn_hall, handFrame_recovery, h.recovery]
      exact hrecovery
    have hlist := conclude_txList hmode hschedule
    rw [hjoined] at hlist
    exact listIs_of_nextSeq (by rw [claimLost_floor, releaseWithdrawn_floor, h.own]) hlist
  · exact claimLost_entry (by unfold State.entry; rw [releaseWithdrawn_seq, h.seq]; exact he)
  · rw [hreleased, claimLost_floor, releaseWithdrawn_floor]

/-- An unconfirmed own claim of the zone, its window over, that a claim of a peer outranks is lost (R92). -/
theorem decideLoss_of_outranked {s : State} {z : Nat} {c : LiveClaim} (hclaim : s.floor.own.claim = some c)
    (hzone : c.zone = z) (hconfirmed : c.confirmed = false) (hreleased : s.floor.own.released = false)
    (hwindow : c.windowEnded s.now = true) {y : Nat × LiveClaim} (hy : y ∈ s.peerClaims) (hyz : y.2.zone = z)
    (hrank : (y.2.rankKey y.1).outranks (c.rankKey s.straps.station) = true) :
    decideLoss z s = claimLost (releaseWithdrawn (c.seq.getD 0) s) := by
  have houtranked : s.ownOutranked c = true :=
    List.any_eq_true.mpr ⟨y, hy, by simp [hyz, hzone, hrank]⟩
  unfold decideLoss
  rw [hclaim]
  exact if_pos ⟨hzone, hconfirmed, hreleased, hwindow, houtranked⟩

/-! ### The three steps over the claims that remain -/

/-- `w` is `s` at an examination of the zone `z`, the live claims of the station `gone` removed from it (R84). -/
structure ClaimRemoved (now z gone : Nat) (s w : State) : Prop extends AtExamination now s w where
  claims : w.claimsIn z = (s.claimsIn z).filter fun x => decide (x.1 ≠ gone)
  records : ∀ m, m ≠ gone → w.records m = s.records m

/-- The claims of other stations stay where their records do. -/
theorem claimsStay_of_records {gone but : Nat} {s u : State} (h : ∀ m, m ≠ gone → m ≠ but → u.records m = s.records m) :
    ClaimsStay gone but s u := fun m hgone hbut => by rw [State.peer_of_records_eq (h m hgone hbut)]

/-- What an examination and what follows a step leave of the view is what its first two steps leave. -/
theorem conclude_examine_leaves (z : Nat) (s : State) :
    (∀ m, (conclude (examine z s)).records m = (confirmTop z s).records m)
      ∧ (conclude (examine z s)).floor.own.claim = (confirmTop z s).floor.own.claim
      ∧ (conclude (examine z s)).floor.claimsConfirmed = (confirmTop z s).floor.claimsConfirmed := by
  obtain ⟨hpeers, hclaim, -, -, hconfirmed, -, -⟩ := viewKept_of_view (conclude_view (examine z s))
  obtain ⟨hpeers', hclaim', hconfirmed'⟩ := decideLoss_leaves z (confirmTop z s)
  exact ⟨fun m => State.records_of_peers_eq (hpeers.trans hpeers') m, hclaim.trans hclaim', hconfirmed.trans hconfirmed'⟩

section
variable {t z gone : Nat} {s w : State} (hw : ClaimRemoved (s.instant t) z gone s w)
include hw

/-- With a holder, or the top-ranked claim's window running, nobody is confirmed (R85). -/
theorem ClaimRemoved.confirms_none
    (h : (∃ x ∈ w.claimsIn z, x.2.confirmed = true)
      ∨ ∀ x, topClaim (w.claimsIn z) = some x → x.2.windowEnded (s.instant t) = false) :
    ClaimsStay gone gone s (conclude (examine z w)) ∧ (conclude (examine z w)).floor.own.claim = s.floor.own.claim
      ∧ (conclude (examine z w)).floor.claimsConfirmed = s.floor.claimsConfirmed := by
  obtain ⟨hview, hclaim, hconfirmed⟩ := conclude_examine_leaves z w
  rw [confirmTop_of_none (hw.now ▸ h)] at hview hclaim hconfirmed
  exact ⟨claimsStay_of_records fun m hm _ => (hview m).trans (hw.records m hm), hclaim.trans (congrArg OwnFloor.claim hw.own),
    hconfirmed.trans hw.claimsConfirmed⟩

section
variable (hone : OneRecordEach s) {x : Nat × LiveClaim} (hno : ∀ y ∈ w.claimsIn z, y.2.confirmed = false)
  (htop : topClaim (w.claimsIn z) = some x) (hwindow : x.2.windowEnded (s.instant t) = true)
include hone hno htop hwindow

/-- The top-ranked claim, a peer's, is confirmed with its last-confirmed stamp (R85). -/
theorem ClaimRemoved.confirms_peer (hpeer : x.1 ≠ s.straps.station) :
    ClaimsStay gone x.1 s (conclude (examine z w))
      ∧ (∃ p, (conclude (examine z w)).peer x.1 = some p ∧ p.claim = some (confirmedAt s t x.2)
          ∧ p.lastConfirmed = some (s.instant t))
      ∧ (conclude (examine z w)).floor.own.claim = s.floor.own.claim
      ∧ (conclude (examine z w)).floor.claimsConfirmed = s.floor.claimsConfirmed := by
  obtain ⟨hview, hclaim, hconfirmed⟩ := conclude_examine_leaves z w
  rw [confirmTop_of_top hno htop (hw.now ▸ hwindow), confirmClaim_of_peer (hw.straps ▸ hpeer)] at hview hclaim hconfirmed
  have hx := topClaim_mem htop
  rw [hw.claims] at hx
  obtain ⟨hmem, hgone⟩ := List.mem_filter.mp hx
  obtain ⟨p, hp, hpc⟩ := mem_peerClaims.mp (mem_peerClaims_of_ne hmem hpeer)
  obtain ⟨hpmem, hstation⟩ := List.mem_filter.mp hp
  have honly : w.records x.1 = [p] := by
    rw [hw.records x.1 (of_decide_eq_true hgone), ← of_decide_eq_true hstation]
    exact records_of_oneRecordEach hone hpmem
  refine ⟨claimsStay_of_records fun m hm hmx => ?_, ⟨p.confirmedIn w, ?_, ?_, congrArg some hw.now⟩,
    hclaim.trans (congrArg OwnFloor.claim hw.own), hconfirmed.trans hw.claimsConfirmed⟩
  · rw [hview, changePeer_records_of_ne (Peer.confirmedIn_station w) hmx, hw.records m hm]
  · rw [State.peer_eq_head, hview, changePeer_records_same (Peer.confirmedIn_station w), honly]
    rfl
  · show p.claim.map w.confirmedClaim = _
    rw [hpc, Option.map_some, hw.confirmedClaim]

/-- The top-ranked claim, the own one, is confirmed, and a CLAIMING station holds the floor (R85, R91). -/
theorem ClaimRemoved.confirms_own (hown : x.1 = s.straps.station) :
    ClaimsStay gone x.1 s (conclude (examine z w))
      ∧ (conclude (examine z w)).floor.own.claim = some (confirmedAt s t x.2)
      ∧ (conclude (examine z w)).floor.claimsLost = s.floor.claimsLost
      ∧ (s.floor.own.state ≠ .claiming ∨ s.floor.own.released = true →
          (conclude (examine z w)).floor.claimsConfirmed = s.floor.claimsConfirmed)
      ∧ (s.floor.own.state = .claiming → s.floor.own.released = false →
          (conclude (examine z w)).floor.claimsConfirmed = min 65535 (s.floor.claimsConfirmed + 1)
            ∧ ∀ v e route, s.seq.slot = some v → v.kind = .audible route → s.entry v.tag = some e →
                (conclude (examine z w)).floor.own.state = .holding
                  ∧ (conclude (examine z w)).entry v.tag = some { e with state := .speaking, deadline := none }) := by
  have hx := topClaim_mem htop
  rw [hw.claims] at hx
  have hclaim : w.floor.own.claim = some x.2 := by
    rw [hw.own]
    exact own_claim_of_mem hone (List.mem_filter.mp hx).1 hown
  have hexamined : examine z w = confirmOwn w := by
    unfold examine
    rw [confirmTop_of_top hno htop (hw.now ▸ hwindow)]
    unfold confirmClaim
    rw [if_pos (by rw [hw.straps]; exact hown), decideLoss_of_confirmed (confirmOwn_claim hclaim) rfl]
  obtain ⟨hpeers, hown', -, -, hconfirmed, hlost, -⟩ := viewKept_of_view (conclude_view (confirmOwn w))
  rw [hexamined]
  refine ⟨claimsStay_of_records fun m hm _ => ?_, ?_, ?_, fun h => ?_, fun hstate hreleased => ⟨?_, ?_⟩⟩
  · rw [State.records_of_peers_eq (hpeers.trans (confirmOwn_peers w)), hw.records m hm]
  · rw [hown', confirmOwn_claim hclaim, hw.confirmedClaim]
  · rw [hlost, confirmOwn_claimsLost, hw.claimsLost]
  · rw [hconfirmed, confirmOwn_claimsConfirmed_same (by rw [hw.own]; exact h), hw.claimsConfirmed]
  · rw [hconfirmed, (confirmOwn_of_claiming (by rw [hw.own]; exact hstate) (by rw [hw.own]; exact hreleased)).1,
      hw.claimsConfirmed]
  · intro v e route hslot hkind he
    obtain ⟨hsome, hspeaks⟩ := confirmOwn_speaks (s := w) (by rw [hw.own]; exact hstate) (by rw [hw.own]; exact hreleased)
      (by rw [hw.seq]; exact hslot) hkind (by unfold State.entry; rw [hw.seq]; exact he)
    obtain ⟨hseq, hfloor, -⟩ := conclude_of_slot hsome
    refine ⟨?_, by unfold State.entry at *; rw [hseq]; exact hspeaks⟩
    rw [hfloor]
    exact (confirmOwn_of_claiming (by rw [hw.own]; exact hstate) (by rw [hw.own]; exact hreleased)).2

end

/-- An outranked own claim is lost, whoever is confirmed (R85, R92). -/
theorem ClaimRemoved.loses_own (hone : OneRecordEach s) (hawake : s.power.mode ≠ .sleep) {c : LiveClaim} {seq : Nat}
    {y : Nat × LiveClaim} (hclaim : s.floor.own.claim = some c) (hzone : c.zone = z) (hseq : c.seq = some seq)
    (hconfirmed : c.confirmed = false) (hreleased : s.floor.own.released = false)
    (hwindow : c.windowEnded (s.instant t) = true) (hy : y ∈ w.claimsIn z) (hyother : y.1 ≠ s.straps.station)
    (hrank : (y.2.rankKey y.1).outranks (c.rankKey s.straps.station) = true) :
    ClaimLost s.hall.txList seq s (conclude (examine z w)) ∧ (conclude (examine z w)).floor.own.released = true := by
  have hyzone : y.2.zone = z := by simpa using (List.mem_filter.mp hy).2
  have hypeer : y ∈ w.peerClaims := mem_peerClaims_of_ne hy (by rw [hw.straps]; exact hyother)
  obtain ⟨w', hstep, hw', y', hy', hyzone', hyrank'⟩ : ∃ w', confirmTop z w = w' ∧ AtExamination (s.instant t) s w'
      ∧ ∃ y' ∈ w'.peerClaims, y'.2.zone = z ∧ (y'.2.rankKey y'.1).outranks (c.rankKey s.straps.station) = true := by
    rcases confirmTop_cases z w with hsame | ⟨x, htop, -, htopped⟩
    · exact ⟨w, hsame, hw.toAtExamination, y, hypeer, hyzone, hrank⟩
    · have hxother : x.1 ≠ w.straps.station := by
        intro hxown
        have hx := topClaim_mem htop
        rw [hw.claims] at hx
        rw [hw.straps] at hxown
        have hxc := own_claim_of_mem hone (List.mem_filter.mp hx).1 hxown
        obtain rfl : c = x.2 := Option.some.inj (hclaim.symm.trans hxc)
        have hnot := topClaim_not_outranked htop hy
        rw [hxown, hrank] at hnot
        cases hnot
      rw [confirmClaim_of_peer hxother] at htopped
      obtain ⟨p, hp, hpc⟩ := mem_peerClaims.mp hypeer
      refine ⟨_, htopped, hw.toAtExamination.changePeer _ _, ?_⟩
      by_cases hyx : y.1 = x.1
      · refine ⟨(y.1, w.confirmedClaim y.2), mem_peerClaims.mpr ⟨p.confirmedIn w, ?_, ?_⟩, hyzone, hrank⟩
        · rw [hyx] at hp ⊢
          rw [changePeer_records_same (Peer.confirmedIn_station w)]
          exact List.mem_map_of_mem hp
        · exact congrArg (Option.map w.confirmedClaim) hpc
      · refine ⟨y, mem_peerClaims.mpr ⟨p, ?_, hpc⟩, hyzone, hrank⟩
        rw [changePeer_records_of_ne (Peer.confirmedIn_station w) hyx]
        exact hp
  have hlost : examine z w = claimLost (releaseWithdrawn seq w') := by
    unfold examine
    rw [hstep, decideLoss_of_outranked (by rw [hw'.own]; exact hclaim) hzone hconfirmed (by rw [hw'.own]; exact hreleased)
      (by rw [hw'.now]; exact hwindow) hy' hyzone' (by rw [hw'.straps]; exact hyrank'), hseq]
    rfl
  rw [hlost]
  exact hw'.claimLost hawake seq

/-- An examination after the removal of a peer's claim, and what follows a step (R84, R85). -/
theorem ClaimRemoved.examined (hone : OneRecordEach s) (hawake : s.power.mode ≠ .sleep) :
    Examined t z gone s (conclude (examine z w)) := by
  unfold Examined
  rw [← hw.claims]
  refine ⟨hw.confirms_none, fun x hno htop hwindow => ?_, ?_⟩
  · by_cases hown : x.1 = s.straps.station
    · obtain ⟨hstay, hconfirmed⟩ := hw.confirms_own hone hno htop hwindow hown
      exact ⟨hstay, fun hpeer => absurd hown hpeer, fun _ => hconfirmed⟩
    · obtain ⟨hstay, hconfirmed⟩ := hw.confirms_peer hone hno htop hwindow hown
      exact ⟨hstay, fun _ => hconfirmed, fun hpeer => absurd hpeer hown⟩
  · intro c seq y hclaim hzone hseq hconfirmed hreleased hwindow hy hother hrank
    exact hw.loses_own hone hawake hclaim hzone hseq hconfirmed hreleased hwindow hy hother hrank

end

end Sys2Proof.Machine
end

section
/-! PROOFS. CLAIM and RELEASE of a peer (R75, R76, R81, R82). -/

namespace Sys2Proof.Machine

open Sys2Proof Host Safety

/-! ### A good frame of a peer -/

/-- The state in which a good frame heard at `t` reaches the Floor Unit (R59). -/
def State.frameCounted (t : Nat) (s : State) : State :=
  (s.arrive t).onHall fun h =>
    { h with
      framesReceived := bump h.framesReceived, line := .receiving, idleCounting := true
      watch := (s.arrive t).after Config.stuck }

/-- A good frame of another station that the part follows is counted and handed over (R59). -/
theorem concluding_frameHeard {s : State} {f : HallFrame} (t : Nat) (hawake : s.power.mode ≠ .sleep)
    (hfollows : s.hall.follows = true) (hgood : f.good = true) (hother : f.station.toNat ≠ s.straps.station) :
    concluding t (frameHeard f) s = .next (conclude (handedOver f (s.frameCounted t))) := by
  have hheard : frameHeard f (s.arrive t) = handedOver f (s.frameCounted t) := by
    unfold frameHeard
    rw [if_pos (by exact hfollows), if_pos hgood]
    exact if_neg hother
  rw [concluding_of_awake hawake, hheard]

/-- What a frame handed over leaves: it is counted, and all that no event of the hall line touches is as it was. -/
theorem kept_of_frameCounted {s u : State} {t : Nat} (h : u.outside = (s.frameCounted t).outside) :
    u.hall.framesReceived = min 65535 (s.hall.framesReceived + 1) ∧ u.hall.badFrames = s.hall.badFrames
      ∧ u.hall.state = s.hall.state ∧ ReportsKept s u ∧ BesidesHallKept s u := by
  obtain ⟨hbesides, hreports⟩ := besidesHallKept_of_outside h
  obtain ⟨-, -, -, hstate, -, -, -, -, hreceived, hbad, -⟩ := lineKept_of_outside h
  exact ⟨hreceived, hbad, hstate, hreports, hbesides⟩

/-! ### A CLAIM of a peer (R81) -/

/-- The live claim that a CLAIM heard at an instant makes (R81). -/
def claimHeardAt (f : ClaimFrame) (now : Nat) : LiveClaim :=
  heardClaim f.zone.toNat f.cls f.bucket.toNat f.length.toNat f.seq.toNat now

/-- A peer record with another live claim, or with none. -/
def Peer.withClaim (c : Option LiveClaim) (p : Peer) : Peer := { p with claim := c }

theorem Peer.withClaim_station (c : Option LiveClaim) (p : Peer) : (p.withClaim c).station = p.station := rfl

/-- Step 1 of R81: the peer's record with its new live claim. -/
def claimRecorded (f : ClaimFrame) (s : State) : State :=
  changePeer f.station.toNat (Peer.withClaim (some (claimHeardAt f s.now)))
    (hearPeer f.station.toNat f.zone.toNat .present s)

/-- The preemption test after the record (R81, R98). -/
def claimPreempts (f : ClaimFrame) (s : State) : State := preempt f.zone.toNat f.cls s.now (claimRecorded f s)

/-- Steps 1 to 4 of R81: the taking back of the own CLAIM after the record and the preemption test. -/
def claimApplied (f : ClaimFrame) (s : State) : State :=
  takeBackIfOutranked f.zone.toNat (claimHeardAt f s.now) f.station.toNat (claimPreempts f s)

/-- A CLAIM of a peer without a live claim. -/
theorem hearClaim_of_none {f : ClaimFrame} {s : State} (h : (s.peer f.station.toNat).bind Peer.claim = none) :
    hearClaim f s = claimApplied f s := by
  unfold hearClaim
  dsimp only
  rw [h]
  rfl

/-- A CLAIM of a peer with a live claim: the zone of the claim it replaces is examined (R81, R84). -/
theorem hearClaim_of_some {f : ClaimFrame} {s : State} {o : LiveClaim}
    (h : (s.peer f.station.toNat).bind Peer.claim = some o) : hearClaim f s = examine o.zone (claimApplied f s) := by
  unfold hearClaim
  dsimp only
  rw [h]
  rfl

/-- The window of a claim heard now runs. -/
theorem claimHeardAt_windowEnded (f : ClaimFrame) (now : Nat) : (claimHeardAt f now).windowEnded now = false := by
  simp [claimHeardAt, heardClaim, LiveClaim.windowEnded, Config.settleWindow]

/-- Every record of the sender holds the new claim. -/
theorem claimRecorded_claim {f : ClaimFrame} {s : State} {p : Peer} (hp : p ∈ (claimRecorded f s).records f.station.toNat) :
    p.claim = some (claimHeardAt f s.now) := by
  unfold claimRecorded at hp
  rw [changePeer_records_same (Peer.withClaim_station _)] at hp
  obtain ⟨q, -, rfl⟩ := List.mem_map.mp hp
  rfl

/-- The rest of R81 leaves the sender's records. -/
theorem claimApplied_records (f : ClaimFrame) (s : State) :
    (claimApplied f s).records f.station.toNat = (claimRecorded f s).records f.station.toNat := by
  unfold claimApplied claimPreempts
  rw [State.records_of_peers_eq (takeBackIfOutranked_peers ..), preempt_records]
  intro p hp c hc
  rw [claimRecorded_claim hp] at hc
  cases hc
  rfl

theorem claimApplied_now (f : ClaimFrame) (s : State) : (claimApplied f s).now = s.now := by
  have henv : (claimApplied f s).env = s.env := by simp [claimApplied, claimPreempts, claimRecorded]
  exact congrArg Prod.fst henv

/-- Nor does the examination of another zone touch them. -/
theorem hearClaim_records (f : ClaimFrame) (s : State) :
    (hearClaim f s).records f.station.toNat = (claimRecorded f s).records f.station.toNat := by
  cases hold : (s.peer f.station.toNat).bind Peer.claim with
  | none => rw [hearClaim_of_none hold, claimApplied_records]
  | some o =>
    rw [hearClaim_of_some hold, examine_records, claimApplied_records]
    intro p hp c hc
    rw [claimApplied_records] at hp
    rw [claimRecorded_claim hp] at hc
    cases hc
    rw [claimApplied_now]
    exact claimHeardAt_windowEnded f s.now

/-- The record of the sender after its CLAIM (R75, R76, R81). -/
theorem hearClaim_peer (f : ClaimFrame) (s : State) :
    ∃ p, (hearClaim f s).peer f.station.toNat = some p ∧ p.zone = f.zone.toNat ∧ p.presence = .present
      ∧ p.lastHeard = s.now ∧ p.claim = some (claimHeardAt f s.now) := by
  obtain ⟨p, hp, hzone, hpresence, hheard, -⟩ := hearPeer_peer f.station.toNat f.zone.toNat .present s
  refine ⟨p.withClaim (some (claimHeardAt f s.now)), ?_, hzone, hpresence, hheard, rfl⟩
  rw [State.peer_of_records_eq (hearClaim_records f s), claimRecorded, changePeer_peer_same (Peer.withClaim_station _), hp]
  rfl

/-- The record of a peer after a step is the one the step left: the selection leaves the view. -/
theorem conclude_peer (s : State) (n : Nat) : (conclude s).peer n = s.peer n :=
  State.peer_of_records_eq (State.records_of_peers_eq (viewKept_of_view (conclude_view s)).1 n)

/-- What PEER_CLAIM leaves outside the floor and the service. -/
theorem peerClaim_outside (t : Nat) (f : ClaimFrame) (s : State) :
    (conclude (hearClaim f (s.frameCounted t))).outside = (s.frameCounted t).outside := by simp

/-- The CLAIM recorded leaves the own record. -/
theorem claimRecorded_own (f : ClaimFrame) (s : State) : (claimRecorded f s).floor.own = s.floor.own := by
  simp [claimRecorded]

theorem claimRecorded_seq (f : ClaimFrame) (s : State) : (claimRecorded f s).seq = s.seq :=
  hearPeer_seq ..

/-- The CLAIM recorded leaves all but the view. -/
theorem claimRecorded_leaves (f : ClaimFrame) (s : State) : LeavesAllButClaims s (claimRecorded f s) :=
  (hearPeer_leaves ..).trans (changePeer_leaves ..)

/-- So does the preemption test after it. -/
theorem claimPreempts_leaves (f : ClaimFrame) (s : State) : LeavesAllButClaims s (claimPreempts f s) :=
  (claimRecorded_leaves f s).trans (preempt_leaves ..)

/-- The own CLAIM that waits is taken back by one that outranks it in its zone (R81 step 4). -/
theorem claimApplied_of_outgoing {f : ClaimFrame} {s : State} {o : Outgoing} (ho : s.floor.own.outgoing = some o)
    (hno : o.takenBack = .no) :
    claimApplied f s =
      if f.zone.toNat = s.straps.zone
          ∧ (RankKey.mk f.cls.val f.bucket.toNat f.station.toNat).outranks
              ⟨o.content.cls.val, o.content.bucket, s.straps.station⟩ = true then
        takeBack .outranked (claimPreempts f s)
      else claimPreempts f s := by
  have hleaves := claimPreempts_leaves f s
  unfold claimApplied
  rw [takeBackIfOutranked_eq (hleaves.outgoing.trans ho) hno, hleaves.straps]
  rfl

/-- A CLAIM of a higher class heard in the zone this station holds does nothing beyond the preemption (R98, R99). -/
theorem hearClaim_of_own_holder {f : ClaimFrame} {s : State} {c : LiveClaim} {k : Cls} (hclaim : s.floor.own.claim = some c)
    (hconfirmed : c.confirmed = true) (hzone : c.zone = f.zone.toNat) (hcls : c.cls = .heard k)
    (hlower : k.val < f.cls.val) (hholding : s.floor.own.state = .holding) (hout : s.floor.own.outgoing = none)
    (hold : ∀ o, (s.peer f.station.toNat).bind Peer.claim = some o → o.zone = f.zone.toNat) :
    hearClaim f s =
      changeService (fun v => { v with preempt := true })
        (changeOwnClaim (LiveClaim.preempted s.now) (claimRecorded f s)) := by
  generalize hw : changeService (fun v => { v with preempt := true })
    (changeOwnClaim (LiveClaim.preempted s.now) (claimRecorded f s)) = w
  have hown := claimRecorded_own f s
  have happlied : claimApplied f s = w := by
    unfold claimApplied claimPreempts
    rw [takeBackIfOutranked_of_none ((preempt_leaves ..).outgoing.trans (hown ▸ hout)), ← hzone,
      preempt_of_own_holder (hown ▸ hclaim) hconfirmed hcls hlower (hown ▸ hholding), hw]
  have hpreempted : w.floor.own.claim = some (c.preempted s.now) := by
    have hmap : w.floor.own.claim = (claimRecorded f s).floor.own.claim.map (LiveClaim.preempted s.now) := by rw [← hw]; rfl
    rw [hmap, hown, hclaim]
    rfl
  obtain ⟨-, hkeeps, -, hsame⟩ := c.preempted_keeps s.now
  cases hpeer : (s.peer f.station.toNat).bind Peer.claim with
  | none => rw [hearClaim_of_none hpeer, happlied]
  | some o =>
    rw [hearClaim_of_some hpeer, happlied, hold o hpeer, ← hzone, ← hsame]
    exact examine_of_own_holder hpreempted (hkeeps.trans hconfirmed)

/-- The own CLAIM taken back by an outranking one, and what follows a step (R81 step 4, R92). -/
theorem conclude_takeBack {s w : State} {o : Outgoing} (hleaves : LeavesAllButClaims s w) (hawake : s.power.mode ≠ .sleep)
    (ho : s.floor.own.outgoing = some o) : ClaimTakenBack o s (conclude (takeBack .outranked w)) := by
  have hout : w.floor.own.outgoing = some o := hleaves.outgoing.trans ho
  have hawake' : w.power.mode ≠ .sleep := hleaves.mode ▸ hawake
  refine ⟨fun hwaits => ?_, fun hdrives => ?_⟩
  · rw [takeBack_of_waiting hout (hleaves.hall ▸ hwaits)]
    generalize hr : ((w.onOwn fun x => { x with outgoing := none }).onHall fun p =>
      { p with txList := p.txList.filter fun x => !x.isClaim }) = r
    have hfloor : r.floor = { w.floor with own := { w.floor.own with outgoing := none } } := by rw [← hr]; rfl
    have hhall : r.hall = { s.hall with txList := s.hall.txList.filter fun x => !x.isClaim } := by
      rw [← hleaves.hall, ← hr]; rfl
    have hqueue : r.seq.queue = s.seq.queue := by rw [← hleaves.queue, ← hr]; rfl
    have hpower : r.power = w.power := by rw [← hr]; rfl
    have hlost : (claimLost r).power.mode ≠ .sleep := by rw [claimLost_power, hpower]; exact hawake'
    refine ⟨?_, ?_, conclude_entryReturns hlost fun v e _ he => ?_, fun hrecovery => ?_⟩
    · obtain ⟨-, -, -, -, -, hclaimsLost, -⟩ := viewKept_of_view (conclude_view (claimLost r))
      rw [hclaimsLost, claimLost_floor, hfloor, ← hleaves.claimsLost]
    · have hstate := conclude_floorState hlost
      rwa [claimLost_floor] at hstate
    · exact claimLost_entry (by unfold State.entry; rw [hqueue]; exact he)
    · have hlist := conclude_txList hlost (by rw [claimLost_hall, hhall]; exact hrecovery)
      rw [claimLost_hall, hhall] at hlist
      exact listIs_of_nextSeq (by rw [claimLost_floor, hfloor]; exact hleaves.nextSeq) hlist
  · rw [takeBack_of_driving _ hout (hleaves.hall ▸ hdrives)]
    generalize hr : (w.onOwn fun x => { x with outgoing := some { o with takenBack := .outranked } }) = r
    have hfloor : r.floor =
        { w.floor with own := { w.floor.own with outgoing := some { o with takenBack := .outranked } } } := by rw [← hr]; rfl
    have hhall : r.hall = s.hall := by rw [← hleaves.hall, ← hr]; rfl
    have hpower : r.power = w.power := by rw [← hr]; rfl
    obtain ⟨houtgoing, hlist⟩ := conclude_outgoing (hpower ▸ hawake') (congrArg (·.own.outgoing) hfloor)
    obtain ⟨-, -, -, -, -, hclaimsLost, -⟩ := viewKept_of_view (conclude_view r)
    refine ⟨?_, houtgoing, fun hrecovery => ?_⟩
    · rw [hclaimsLost, hfloor, ← hleaves.claimsLost]
    · rw [hlist (hhall ▸ hrecovery), hhall]

/-! ### PEER_CLAIM -/

section
variable {f : ClaimFrame} {s : State} (hawake : s.power.mode ≠ .sleep) (hfollows : s.hall.follows = true)
  (hstation : f.station ≠ 0#5) (hlength : f.length ≠ 0#8) (hother : f.station.toNat ≠ s.straps.station)
include hawake hfollows hstation hlength hother

/-- PEER_CLAIM is the CLAIM heard, and what follows a step. -/
theorem exec_peerClaim (t : Nat) : exec (.peerClaim t f) s = .next (conclude (hearClaim f (s.frameCounted t))) :=
  concluding_frameHeard (f := .claim f) t hawake hfollows (by simp [HallFrame.good, hstation, hlength]) hother

/-- The sender's record after PEER_CLAIM (R75, R76, R81). -/
theorem peerClaim_record (t : Nat) :
    ∃ u p, exec (.peerClaim t f) s = .next u
      ∧ u.peer f.station.toNat = some p ∧ p.zone = f.zone.toNat ∧ p.presence = .present ∧ p.lastHeard = s.instant t
      ∧ p.claim = some (claimHeardAt f (s.instant t))
      ∧ u.hall.framesReceived = min 65535 (s.hall.framesReceived + 1) ∧ u.hall.badFrames = s.hall.badFrames
      ∧ u.hall.state = s.hall.state ∧ ReportsKept s u ∧ BesidesHallKept s u := by
  obtain ⟨p, hp, hzone, hpresence, hheard, hclaim⟩ := hearClaim_peer f (s.frameCounted t)
  exact ⟨_, p, exec_peerClaim hawake hfollows hstation hlength hother t, (conclude_peer _ _).trans hp, hzone, hpresence,
    hheard, hclaim, kept_of_frameCounted (peerClaim_outside t f s)⟩

/-- The own claim preempted by PEER_CLAIM (R98, R99). -/
theorem peerClaim_preempts {c : LiveClaim} {k : Cls} {v : Service} (t : Nat) (hclaim : s.floor.own.claim = some c)
    (hconfirmed : c.confirmed = true) (hzone : c.zone = f.zone.toNat) (hcls : c.cls = .heard k)
    (hlower : k.val < f.cls.val) (houter : c.outer = none) (hholding : s.floor.own.state = .holding)
    (hout : s.floor.own.outgoing = none) (hslot : s.seq.slot = some v)
    (hold : ∀ o, (s.peer f.station.toNat).bind Peer.claim = some o → o.zone = f.zone.toNat) :
    ∃ u, exec (.peerClaim t f) s = .next u ∧ u.floor.own.claim = some (c.preempted (s.instant t))
      ∧ (∀ t', u.instant t' ≤ s.instant t + 3030)
      ∧ u.seq.slot = some { v with preempt := true } ∧ u.floor.own.state = .holding
      ∧ ReportsKept s u ∧ BesidesHallKept s u := by
  obtain ⟨-, -, -, hkept⟩ := kept_of_frameCounted (peerClaim_outside t f s)
  refine ⟨_, exec_peerClaim hawake hfollows hstation hlength hother t, ?_⟩
  have hheard := hearClaim_of_own_holder (s := s.frameCounted t) hclaim hconfirmed hzone hcls hlower hholding hout hold
  generalize hw : hearClaim f (s.frameCounted t) = w at hheard hkept ⊢
  have hown : w.floor.own = { s.floor.own with claim := some (c.preempted (s.instant t)) } := by
    have hmap : w.floor.own = { (claimRecorded f (s.frameCounted t)).floor.own with
        claim := (claimRecorded f (s.frameCounted t)).floor.own.claim.map (LiveClaim.preempted (s.instant t)) } := by
      rw [hheard]; rfl
    rw [hmap, claimRecorded_own]
    exact congrArg (fun x => { s.floor.own with claim := x.map (LiveClaim.preempted (s.instant t)) }) hclaim
  have hnotice : w.seq.slot = some { v with preempt := true } := by
    have hmap : w.seq.slot = (claimRecorded f (s.frameCounted t)).seq.slot.map fun x => { x with preempt := true } := by
      rw [hheard]; rfl
    rw [hmap, claimRecorded_seq]
    exact congrArg (Option.map fun x => { x with preempt := true }) hslot
  have hmode : w.power.mode = s.power.mode := by
    rw [hheard]
    exact (claimRecorded_leaves f (s.frameCounted t)).mode
  have hnow : (conclude w).now = s.instant t := by
    have henv : (conclude w).env = (s.frameCounted t).env := by rw [conclude_env, ← hw, hearClaim_env]
    exact congrArg Prod.fst henv
  obtain ⟨hcseq, hcfloor, hcmode⟩ := conclude_of_slot (Option.isSome_of_eq_some hnotice)
  have hcown : (conclude w).floor.own = { s.floor.own with claim := some (c.preempted (s.instant t)) } :=
    (congrArg FloorUnit.own hcfloor).trans hown
  refine ⟨congrArg OwnFloor.claim hcown, fun t' => ?_, (congrArg Sequencer.slot hcseq).trans hnotice,
    (congrArg OwnFloor.state hcown).trans hholding, hkept⟩
  have hgrace := ownClaim_ends_mem_runningTimers (by rw [hcmode, hmode]; exact hawake) (congrArg OwnFloor.claim hcown)
    (c.preempted_ends (s.instant t) houter).2.2
  have hle := State.instant_le_latest hgrace t'
  simp only [hnow, Timer.latest, Config.tolerance] at hle
  omega

/-- The own CLAIM that waits when PEER_CLAIM is taken: outranked in its zone it is taken back, else it stays (R81 step 4,
R92). -/
theorem peerClaim_outgoing {o : Outgoing} (t : Nat) (hold : (s.peer f.station.toNat).bind Peer.claim = none)
    (ho : s.floor.own.outgoing = some o) (hno : o.takenBack = .no) :
    ∃ u, exec (.peerClaim t f) s = .next u
      ∧ (f.zone.toNat = s.straps.zone →
          (RankKey.mk f.cls.val f.bucket.toNat f.station.toNat).outranks
            ⟨o.content.cls.val, o.content.bucket, s.straps.station⟩ = true →
          ClaimTakenBack o s u)
      ∧ (f.zone.toNat ≠ s.straps.zone
          ∨ (RankKey.mk f.cls.val f.bucket.toNat f.station.toNat).outranks
              ⟨o.content.cls.val, o.content.bucket, s.straps.station⟩ = false →
          u.floor.own.outgoing = some o ∧ u.floor.claimsLost = s.floor.claimsLost
            ∧ (s.hall.recovery ≠ .waiting → u.hall.txList = s.hall.txList))
      ∧ ReportsKept s u ∧ BesidesHallKept s u := by
  obtain ⟨-, -, -, hkept⟩ := kept_of_frameCounted (peerClaim_outside t f s)
  refine ⟨_, exec_peerClaim hawake hfollows hstation hlength hother t, ?_, ?_, hkept⟩
  · intro hzone hrank
    rw [hearClaim_of_none (s := s.frameCounted t) hold, claimApplied_of_outgoing (s := s.frameCounted t) ho hno,
      if_pos ⟨hzone, hrank⟩]
    exact conclude_takeBack (s := s.frameCounted t) (claimPreempts_leaves f _) hawake ho
  · intro hstays
    have hno' : ¬ (f.zone.toNat = s.straps.zone ∧ (RankKey.mk f.cls.val f.bucket.toNat f.station.toNat).outranks
        ⟨o.content.cls.val, o.content.bucket, s.straps.station⟩ = true) := by
      rintro ⟨hzone, hrank⟩
      rcases hstays with hne | hlow
      · exact hne hzone
      · rw [hrank] at hlow
        cases hlow
    have happlied : claimApplied f (s.frameCounted t) = claimPreempts f (s.frameCounted t) :=
      (claimApplied_of_outgoing (s := s.frameCounted t) ho hno).trans (if_neg hno')
    rw [hearClaim_of_none (s := s.frameCounted t) hold, happlied]
    have hleaves := claimPreempts_leaves f (s.frameCounted t)
    generalize claimPreempts f (s.frameCounted t) = w at hleaves ⊢
    obtain ⟨hout, hlist⟩ := conclude_outgoing (s := w) (hleaves.mode ▸ hawake) (hleaves.outgoing.trans ho)
    obtain ⟨-, -, -, -, -, hclaimsLost, -⟩ := viewKept_of_view (conclude_view w)
    refine ⟨hout, hclaimsLost.trans hleaves.claimsLost, fun hrecovery => ?_⟩
    rw [hlist (hleaves.hall ▸ hrecovery), hleaves.hall]
    rfl

end

/-! ### A RELEASE of a peer (R82) -/

/-- A RELEASE heard, and the sender's claim removed (R75, R76, R82). -/
def claimReleased (f : ReleaseFrame) (s : State) : State :=
  changePeer f.station.toNat (Peer.withClaim none) (hearPeer f.station.toNat f.zone.toNat .present s)

section
variable {f : ReleaseFrame} {s : State} {c : LiveClaim} (hclaim : (s.peer f.station.toNat).bind Peer.claim = some c)
include hclaim

/-- The sender's claim at the test of R82. -/
theorem hearPeer_claim : ((hearPeer f.station.toNat f.zone.toNat .present s).peer f.station.toNat).bind Peer.claim = some c := by
  obtain ⟨p, hp, -, -, -, hpc⟩ := hearPeer_peer f.station.toNat f.zone.toNat .present s
  rw [hp]
  exact hpc.trans hclaim

/-- A RELEASE that is for the sender's claim removes it, and the zone of the claim is examined (R82, R84). -/
theorem hearRelease_of_released (h : c.releasedBy f.seq.toNat = true) :
    hearRelease f s = examine c.zone (claimReleased f s) := by
  have hc := hearPeer_claim hclaim
  unfold hearRelease
  dsimp only
  rw [hc]
  simp only [h, if_true]
  unfold removePeerClaim
  rw [hc]
  rfl

/-- Any other RELEASE leaves it (R82). -/
theorem hearRelease_of_kept (h : c.releasedBy f.seq.toNat = false) :
    hearRelease f s = hearPeer f.station.toNat f.zone.toNat .present s := by
  unfold hearRelease
  dsimp only
  rw [hearPeer_claim hclaim]
  simp [h]

end

/-- A record put into the view without a claim adds none. -/
theorem insertPeer_claims {p : Peer} (h : p.claim = none) (l : List Peer) :
    (insertPeer p l).filterMap (fun q => q.claim.map fun c => (q.station, c)) =
      l.filterMap fun q => q.claim.map fun c => (q.station, c) := by
  induction l with
  | nil => simp [insertPeer, h]
  | cons x xs ih =>
    unfold insertPeer
    split
    · rw [List.filterMap_cons_none (by simp [h])]
    · rw [List.filterMap_cons, List.filterMap_cons, ih]

/-- A frame heard leaves the live claims (R75, R76). -/
theorem hearPeer_peerClaims (n zone : Nat) (presence : Presence) (s : State) :
    (hearPeer n zone presence s).peerClaims = s.peerClaims := by
  unfold hearPeer
  split
  · exact insertPeer_claims rfl _
  · show (s.floor.peers.map _).filterMap _ = s.floor.peers.filterMap _
    rw [List.filterMap_map]
    refine List.filterMap_congr fun p _ => ?_
    dsimp only [Function.comp]
    split <;> rfl

/-- Without the claims of a station the live claims are those of the others. -/
theorem changePeer_withoutClaim_peerClaims (n : Nat) (s : State) :
    (changePeer n (Peer.withClaim none) s).peerClaims = s.peerClaims.filter fun x => decide (x.1 ≠ n) := by
  show (s.floor.peers.map fun p => if p.station = n then p.withClaim none else p).filterMap _ =
    (s.floor.peers.filterMap _).filter _
  induction s.floor.peers with
  | nil => rfl
  | cons p ps ih =>
    rw [List.map_cons, List.filterMap_cons, List.filterMap_cons, ih]
    by_cases hp : p.station = n
    · cases hc : p.claim <;> simp [hp, Peer.withClaim]
    · cases hc : p.claim <;> simp [hp, hc]

/-- The claims of a zone after the RELEASE are those of the other stations. -/
theorem claimReleased_claimsIn {f : ReleaseFrame} {s : State} (hother : f.station.toNat ≠ s.straps.station) (z : Nat) :
    (claimReleased f s).claimsIn z = (s.claimsIn z).filter fun x => decide (x.1 ≠ f.station.toNat) := by
  have hown : (claimReleased f s).floor.own = s.floor.own := hearPeer_own ..
  have hstraps : (claimReleased f s).straps = s.straps := hearPeer_straps ..
  have hpeers : (claimReleased f s).peerClaims = s.peerClaims.filter fun x => decide (x.1 ≠ f.station.toNat) := by
    unfold claimReleased
    rw [changePeer_withoutClaim_peerClaims, hearPeer_peerClaims]
  have hlive : (claimReleased f s).liveClaims = s.liveClaims.filter fun x => decide (x.1 ≠ f.station.toNat) := by
    unfold State.liveClaims
    rw [hown, hstraps, hpeers]
    split
    · rw [List.filter_cons_of_pos (by simpa using Ne.symm hother)]
    · rfl
  unfold State.claimsIn
  rw [hlive, List.filter_comm]

/-- What an examination starts from after a RELEASE. -/
theorem claimReleased_removed {f : ReleaseFrame} {s : State} (hother : f.station.toNat ≠ s.straps.station) (t z : Nat) :
    ClaimRemoved (s.instant t) z f.station.toNat s (claimReleased f (s.frameCounted t)) := by
  have hleaves : LeavesAllButClaims (s.frameCounted t) (claimReleased f (s.frameCounted t)) :=
    (hearPeer_leaves ..).trans (changePeer_leaves ..)
  have hlist : (claimReleased f (s.frameCounted t)).hall.txList = s.hall.txList := by rw [hleaves.hall]; rfl
  have hstate : (claimReleased f (s.frameCounted t)).hall.state = s.hall.state := by rw [hleaves.hall]; rfl
  have hrecovery : (claimReleased f (s.frameCounted t)).hall.recovery = s.hall.recovery := by rw [hleaves.hall]; rfl
  refine ⟨⟨hleaves.now, hleaves.straps, hleaves.mode, hlist, hstate, hrecovery, hearPeer_own .., ?_, hleaves.claimsLost,
    hearPeer_seq ..⟩, claimReleased_claimsIn (s := s.frameCounted t) hother z, fun m hm => ?_⟩
  · exact hearPeer_claimsConfirmed ..
  · unfold claimReleased
    rw [changePeer_records_of_ne (Peer.withClaim_station none) hm, hearPeer_records_of_ne hm]
    rfl

/-- The sender's record after a RELEASE that is for its claim. -/
theorem examine_claimReleased_peer (f : ReleaseFrame) (s : State) (z : Nat) :
    ∃ q, (examine z (claimReleased f s)).peer f.station.toNat = some q ∧ q.zone = f.zone.toNat ∧ q.presence = .present
      ∧ q.lastHeard = s.now ∧ q.claim = none := by
  obtain ⟨p, hp, hzone, hpresence, hheard, -⟩ := hearPeer_peer f.station.toNat f.zone.toNat .present s
  refine ⟨p.withClaim none, ?_, hzone, hpresence, hheard, rfl⟩
  have hrecords : (examine z (claimReleased f s)).records f.station.toNat = (claimReleased f s).records f.station.toNat := by
    refine examine_records (fun q hq c hc => ?_) z
    unfold claimReleased at hq
    rw [changePeer_records_same (Peer.withClaim_station none)] at hq
    obtain ⟨q', -, rfl⟩ := List.mem_map.mp hq
    cases hc
  rw [State.peer_of_records_eq hrecords, claimReleased, changePeer_peer_same (Peer.withClaim_station none), hp]
  rfl

/-- PEER_RELEASE, whether or not it is for the sender's claim (R82, R84, R85). -/
theorem peerRelease_removes {f : ReleaseFrame} {s : State} {p : Peer} {c : LiveClaim} (t : Nat)
    (hawake : s.power.mode ≠ .sleep) (hfollows : s.hall.follows = true) (hstation : f.station ≠ 0#5)
    (hother : f.station.toNat ≠ s.straps.station) (hpeer : s.peer f.station.toNat = some p) (hpc : p.claim = some c) :
    ∃ u q, exec (.peerRelease t f) s = .next u
      ∧ u.peer f.station.toNat = some q ∧ q.zone = f.zone.toNat ∧ q.presence = .present ∧ q.lastHeard = s.instant t
      ∧ (c.releasedBy f.seq.toNat = true →
          q.claim = none ∧ (OneRecordEach s → Examined t c.zone f.station.toNat s u))
      ∧ (c.releasedBy f.seq.toNat = false → q.claim = some c)
      ∧ u.hall.framesReceived = min 65535 (s.hall.framesReceived + 1) ∧ u.hall.badFrames = s.hall.badFrames
      ∧ u.hall.state = s.hall.state ∧ ReportsKept s u ∧ BesidesHallKept s u := by
  have hexec : exec (.peerRelease t f) s = .next (conclude (hearRelease f (s.frameCounted t))) :=
    concluding_frameHeard (f := .release f) t hawake hfollows (by simp [HallFrame.good, hstation]) hother
  have hkept := kept_of_frameCounted (s := s) (u := conclude (hearRelease f (s.frameCounted t))) (t := t) (by simp)
  have hclaim : ((s.frameCounted t).peer f.station.toNat).bind Peer.claim = some c := by
    show (s.peer f.station.toNat).bind Peer.claim = _
    rw [hpeer]
    exact hpc
  cases hreleased : c.releasedBy f.seq.toNat with
  | true =>
    rw [hearRelease_of_released hclaim hreleased] at hexec hkept
    obtain ⟨q, hq, hzone, hpresence, hheard, hnone⟩ := examine_claimReleased_peer f (s.frameCounted t) c.zone
    exact ⟨_, q, hexec, (conclude_peer _ _).trans hq, hzone, hpresence, hheard,
      fun _ => ⟨hnone, fun hone => (claimReleased_removed hother t c.zone).examined hone hawake⟩, nofun, hkept⟩
  | false =>
    rw [hearRelease_of_kept hclaim hreleased] at hexec hkept
    obtain ⟨q, hq, hzone, hpresence, hheard, hsame⟩ := hearPeer_peer f.station.toNat f.zone.toNat .present (s.frameCounted t)
    exact ⟨_, q, hexec, (conclude_peer _ _).trans hq, hzone, hpresence, hheard, nofun,
      fun _ => hsame.trans hclaim, hkept⟩

/-- A RELEASE is for a PRESUMED claim, and for one of its sequence (R82). -/
theorem LiveClaim.releasedBy_iff (c : LiveClaim) (seq : Nat) :
    c.releasedBy seq = true ↔ c.cls = .presumed ∨ c.seq = some seq := by
  simp [LiveClaim.releasedBy]

/-- Settles O32: the record, the preemption and the taking back of PEER_CLAIM, and the removal of PEER_RELEASE with its
examination. -/
theorem peerClaimsAndReleases : Obligations.PeerClaimsAndReleases := by
  refine ⟨?_, ?_, ?_, ?_⟩
  · intro t f s hawake hfollows hstation hlength hother
    exact peerClaim_record hawake hfollows hstation hlength hother t
  · intro t f s oc k v hawake hfollows hstation hlength hother hclaim hconfirmed hzone hcls hlower _ houter hholding hout hslot
      hold
    obtain ⟨u, hexec, hpreempted, hbound, hrest⟩ := peerClaim_preempts hawake hfollows hstation hlength hother t hclaim
      hconfirmed hzone hcls hlower houter hholding hout hslot hold
    obtain ⟨hpending, hstays, hseq, -⟩ := oc.preempted_keeps (s.instant t)
    obtain ⟨hearlier, hlater, -⟩ := oc.preempted_ends (s.instant t) houter
    exact ⟨u, _, hexec, hpreempted, hpending, hstays.trans hconfirmed, hseq, hearlier, hlater, hbound, hrest⟩
  · intro t f s o hawake hfollows hstation hlength hother hold ho hno
    exact peerClaim_outgoing hawake hfollows hstation hlength hother t hold ho hno
  · intro t f s p c hawake hfollows hstation hother hpeer hpc
    obtain ⟨u, q, hexec, hq, hzone, hpresence, hheard, hreleased, hkept, hrest⟩ :=
      peerRelease_removes t hawake hfollows hstation hother hpeer hpc
    refine ⟨u, q, hexec, hq, hzone, hpresence, hheard, fun h => hreleased ((c.releasedBy_iff _).mpr h), fun hcls hseq => ?_,
      hrest⟩
    refine hkept (Bool.eq_false_iff.mpr fun h => ?_)
    rcases (c.releasedBy_iff _).mp h with h | h
    · exact hcls h
    · exact hseq h

end Sys2Proof.Machine
end

section
/-! What a step does to the prompt queue, the awaiting list, the reports, the ring and the view, said once (R3, R4, R5, R75,
R109, R175, R195, R198): a chain of moves, each of which keeps every bound that speaks of them. -/

namespace Sys2Proof.Machine
open Sys2Proof Host Safety

/-- An entry without what its service changes. -/
def Entry.standing (e : Entry) : Entry := { e with state := .queued, deadline := none, cutCount := 0 }

/-- What the bounds of the stores speak of. -/
structure Held where
  queue : List Entry
  awaiting : List Nat
  listening : Bool
  reports : List Report
  early : List Report
  ring : List Nat
  station : Nat
  peers : List Nat

def State.held (s : State) : Held where
  queue := s.seq.queue.map Entry.standing
  awaiting := s.panel.awaiting.map Awaiting.tag
  listening := s.link.listening
  reports := s.link.reports
  early := s.link.early
  ring := s.level.ring
  station := s.straps.station
  peers := s.floor.peers.map Peer.station

/-- There is a place in a list of `n` for one more, beside those that `p` keeps. -/
def RoomFor {α : Type} (n : Nat) (p : α → Bool) (l : List α) : Prop := l.length < n ∨ ∃ x ∈ l, p x = false

/-- One change of what is held. -/
inductive Move : Held → Held → Prop
  | leave (h : Held) (p : Entry → Bool) : Move h { h with queue := h.queue.filter p }
  | answer (h : Held) (p : Nat → Bool) : Move h { h with awaiting := h.awaiting.filter p }
  | join (h : Held) (p : Entry → Bool) (e : Entry) (room : RoomFor 16 p h.queue)
      (free : e.tag ∉ (h.queue.filter p).map Entry.tag) (range : TagInRange e)
      (unawaited : 64 ≤ e.tag ∨ e.tag ∉ h.awaiting ∨ e.tag ∈ h.queue.map Entry.tag) : Move h { h with queue := insertEntry e (h.queue.filter p) }
  | again (h : Held) (p : Entry → Bool) (e : Entry) (room : RoomFor 16 p h.queue) (awaited : e.tag ∈ h.awaiting)
      (machine : e.origin = .machine) :
      Move h { h with queue := insertEntry e (h.queue.filter p), awaiting := h.awaiting.filter fun n => n ≠ e.tag }
  | await (h : Held) (p : Nat → Bool) (e : Entry) (mem : e ∈ h.queue) (ack : e.ackRequired = true)
      (room : RoomFor 4 p h.awaiting) :
      Move h { h with queue := h.queue.filter (fun x => x.tag ≠ e.tag), awaiting := h.awaiting.filter p ++ [e.tag] }
  | tell (h : Held) (l : List Report) (bound : h.reports.length ≤ 16 → l.length ≤ 16)
      (silent : h.listening = false → h.reports = [] → l = []) : Move h { h with reports := l }
  | hold (h : Held) (l : List Report) (bound : h.early.length + 1 ≤ 16 → l.length + 1 ≤ 16) : Move h { h with early := l }
  | hello (h : Held) : Move h { h with listening := true }
  | sample (h : Held) (l : List Nat) (bound : h.ring.length ≤ 8 → l.length ≤ 8) : Move h { h with ring := l }
  | hear (h : Held) (n : Nat) (low : 1 ≤ n) (high : n ≤ 31) (other : n ≠ h.station) (new : n ∉ h.peers) :
      Move h { h with peers := h.peers.orderedInsert (· < ·) n }
  | forget (h : Held) : Move h { h with peers := [] }
  | reset (h : Held) (station : Nat) : Move h ⟨[], [], false, [], [], [], station, []⟩

def Moves : Held → Held → Prop := Relation.ReflTransGen Move

theorem Moves.refl (h : Held) : Moves h h := Relation.ReflTransGen.refl

theorem Moves.trans {a b c : Held} (h : Moves a b) (h' : Moves b c) : Moves a c := Relation.ReflTransGen.trans h h'

theorem Move.moves {a b : Held} (h : Move a b) : Moves a b := Relation.ReflTransGen.single h

/-- The invariants are those of what is held. -/
def Held.Bounded (h : Held) : Prop :=
  h.queue.length ≤ 16 ∧ h.awaiting.length ≤ 4 ∧ h.reports.length ≤ 16 ∧ h.ring.length ≤ 8 ∧ h.early.length + 1 ≤ 16
    ∧ (h.listening = false → h.reports = []) ∧ h.queue.Pairwise fun a b => b.before a = false

def Held.TagsOnce (h : Held) : Prop :=
  (h.queue.map Entry.tag ++ h.awaiting).Nodup ∧ (∀ e ∈ h.queue, TagInRange e) ∧ ∀ n ∈ h.awaiting, 1 ≤ n ∧ n ≤ 63

def Held.OneEach (h : Held) : Prop :=
  h.peers.Pairwise (· < ·) ∧ ∀ n ∈ h.peers, 1 ≤ n ∧ n ≤ 31 ∧ n ≠ h.station

theorem storesBounded_iff (s : State) : StoresBounded s ↔ s.held.Bounded := by
  have horder : QueueInOrder s ↔ (s.seq.queue.map Entry.standing).Pairwise fun a b => b.before a = false := by
    rw [List.pairwise_map]
    rfl
  simp [StoresBounded, Held.Bounded, State.held, Config.queueLimit, Config.awaitingLimit, Config.reportLimit,
    Config.ringLimit, horder]

theorem tagInRange_standing (e : Entry) : TagInRange e.standing ↔ TagInRange e := Iff.rfl

theorem standing_tags (l : List Entry) : (l.map Entry.standing).map Entry.tag = l.map Entry.tag := by
  rw [List.map_map]; rfl

theorem tagsHeldOnce_iff (s : State) : TagsHeldOnce s ↔ s.held.TagsOnce := by
  simp [TagsHeldOnce, Held.TagsOnce, State.held, -List.map_map, standing_tags, tagInRange_standing]

theorem oneRecordEach_iff (s : State) : OneRecordEach s ↔ s.held.OneEach := by
  simp [OneRecordEach, Held.OneEach, State.held]

theorem RoomFor.filter_length {α : Type} {n : Nat} {p : α → Bool} {l : List α} (h : RoomFor n p l) (hl : l.length ≤ n) :
    (l.filter p).length < n := by
  rcases h with h | ⟨x, hx, hp⟩
  · exact Nat.lt_of_le_of_lt (List.length_filter_le ..) h
  · refine Nat.lt_of_lt_of_le (List.length_filter_lt_length_iff_exists.mpr ⟨x, hx, ?_⟩) hl
    simp [hp]

theorem Move.keeps_bounded {a b : Held} (h : Move a b) (ha : a.Bounded) : b.Bounded := by
  obtain ⟨hqueue, hawaiting, hreports, hring, hearly, hlistening, horder⟩ := ha
  have hfiltered (p : Entry → Bool) := horder.sublist (List.filter_sublist (p := p))
  cases h with
  | leave p =>
    exact ⟨(List.length_filter_le ..).trans hqueue, hawaiting, hreports, hring, hearly, hlistening, hfiltered p⟩
  | answer p => exact ⟨hqueue, (List.length_filter_le ..).trans hawaiting, hreports, hring, hearly, hlistening, horder⟩
  | join p e room =>
    have hroom := room.filter_length hqueue
    exact ⟨by simpa using hroom, hawaiting, hreports, hring, hearly, hlistening, insertEntry_inOrder e (hfiltered p)⟩
  | again p e room =>
    have hroom := room.filter_length hqueue
    exact ⟨by simpa using hroom, (List.length_filter_le ..).trans hawaiting, hreports, hring, hearly, hlistening,
      insertEntry_inOrder e (hfiltered p)⟩
  | await p e mem ack room =>
    have hroom := room.filter_length hawaiting
    exact ⟨(List.length_filter_le ..).trans hqueue, by simpa using hroom, hreports, hring, hearly, hlistening, hfiltered _⟩
  | tell l bound silent =>
    exact ⟨hqueue, hawaiting, bound hreports, hring, hearly, fun hl => silent hl (hlistening hl), horder⟩
  | hold l bound => exact ⟨hqueue, hawaiting, hreports, hring, bound hearly, hlistening, horder⟩
  | hello => exact ⟨hqueue, hawaiting, hreports, hring, hearly, nofun, horder⟩
  | sample l bound => exact ⟨hqueue, hawaiting, hreports, bound hring, hearly, hlistening, horder⟩
  | hear => exact ⟨hqueue, hawaiting, hreports, hring, hearly, hlistening, horder⟩
  | forget => exact ⟨hqueue, hawaiting, hreports, hring, hearly, hlistening, horder⟩
  | reset => simp [Held.Bounded]

/-- The tags of a queue after one entry has joined it are those before and its own. -/
theorem insertEntry_tags_perm (e : Entry) (l : List Entry) :
    ((insertEntry e l).map Entry.tag).Perm (e.tag :: l.map Entry.tag) := by
  induction l with
  | nil => exact .refl _
  | cons x xs ih =>
    rw [insertEntry]
    split
    · exact .refl _
    · exact (ih.cons x.tag).trans (.swap ..)

theorem machine_of_ackRequired {e : Entry} (h : TagInRange e) (hack : e.ackRequired = true) : 1 ≤ e.tag ∧ e.tag ≤ 63 := by
  rcases h with ⟨-, hlow, hhigh⟩ | ⟨-, -, -, hno⟩ | ⟨-, -, -, hno⟩ | ⟨-, -, -, hno⟩
  · exact ⟨hlow, hhigh⟩
  all_goals exact absurd (hno.symm.trans hack) nofun

theorem nodup_of_filters {l : List Entry} {m : List Nat} (h : (l.map Entry.tag ++ m).Nodup) (p : Entry → Bool)
    (q : Nat → Bool) : ((l.filter p).map Entry.tag ++ m.filter q).Nodup :=
  h.sublist ((List.filter_sublist.map _).append List.filter_sublist)

theorem nodup_of_joined {e : Entry} {l : List Entry} {m : List Nat} (h : (l.map Entry.tag ++ m).Nodup)
    (hl : e.tag ∉ l.map Entry.tag) (hm : e.tag ∉ m) : ((insertEntry e l).map Entry.tag ++ m).Nodup :=
  ((insertEntry_tags_perm e l).append_right m).nodup_iff.mpr
    (List.nodup_cons.mpr ⟨fun hmem => (List.mem_append.mp hmem).elim hl hm, h⟩)

theorem Move.keeps_tagsOnce {a b : Held} (h : Move a b) (ha : a.TagsOnce) : b.TagsOnce := by
  obtain ⟨hnodup, hrange, hawaiting⟩ := ha
  have hkept (p : Entry → Bool) : ∀ e ∈ a.queue.filter p, TagInRange e := fun e he => hrange e (List.mem_of_mem_filter he)
  have hstill (p : Nat → Bool) : ∀ n ∈ a.awaiting.filter p, 1 ≤ n ∧ n ≤ 63 :=
    fun n hn => hawaiting n (List.mem_of_mem_filter hn)
  have hqueued (p : Entry → Bool) : ((a.queue.filter p).map Entry.tag ++ a.awaiting).Nodup :=
    hnodup.sublist ((List.filter_sublist.map _).append (List.Sublist.refl _))
  cases h with
  | leave p => exact ⟨hqueued p, hkept p, hawaiting⟩
  | answer p => exact ⟨hnodup.sublist ((List.Sublist.refl _).append List.filter_sublist), hrange, hstill p⟩
  | join p e room free range unawaited =>
    have hnot : e.tag ∉ a.awaiting := by
      intro hmem
      rcases unawaited with hhigh | hnot | hqueued
      · exact absurd (hawaiting _ hmem).2 (by omega)
      · exact hnot hmem
      · exact List.disjoint_of_nodup_append hnodup hqueued hmem
    exact ⟨nodup_of_joined (hqueued p) free hnot,
      fun x hx => (mem_insertEntry.mp hx).elim (fun h => h ▸ range) (hkept p x), hawaiting⟩
  | again p e room awaited machine =>
    have hfree : e.tag ∉ (a.queue.filter p).map Entry.tag := fun hmem =>
      (List.disjoint_of_nodup_append (hqueued p)) hmem awaited
    have hnew : TagInRange e := .inl ⟨machine, hawaiting _ awaited⟩
    exact ⟨nodup_of_joined (nodup_of_filters hnodup p _) hfree (by simp),
      fun x hx => (mem_insertEntry.mp hx).elim (fun h => h ▸ hnew) (hkept p x), hstill _⟩
  | await p e mem ack room =>
    have hnot : e.tag ∉ a.awaiting := List.disjoint_of_nodup_append hnodup (List.mem_map_of_mem mem)
    have hboth := nodup_of_filters hnodup (fun x => decide (x.tag ≠ e.tag)) p
    refine ⟨?_, hkept _, fun n hn => ?_⟩
    · rw [← List.append_assoc]
      refine List.nodup_append.mpr ⟨hboth, List.nodup_singleton _, fun n hn m hm => ?_⟩
      rw [List.mem_singleton.mp hm]
      rcases List.mem_append.mp hn with hn | hn
      · obtain ⟨x, hx, rfl⟩ := List.mem_map.mp hn
        simpa using (List.mem_filter.mp hx).2
      · exact fun heq => hnot (heq ▸ List.mem_of_mem_filter hn)
    · rcases List.mem_append.mp hn with hn | hn
      · exact hstill p n hn
      · rw [List.mem_singleton.mp hn]
        exact machine_of_ackRequired (hrange e mem) ack
  | reset => simp [Held.TagsOnce]
  | _ => exact ⟨hnodup, hrange, hawaiting⟩

theorem orderedInsert_pairwise {n : Nat} {l : List Nat} (h : l.Pairwise (· < ·)) (hn : n ∉ l) :
    (l.orderedInsert (· < ·) n).Pairwise (· < ·) := by
  induction l with
  | nil => exact List.pairwise_singleton ..
  | cons x xs ih =>
    obtain ⟨hx, hxs⟩ := List.pairwise_cons.mp h
    obtain ⟨hne, hnot⟩ := not_or.mp (List.mem_cons.not.mp hn)
    rw [List.orderedInsert]
    split
    next hlt =>
      exact List.pairwise_cons.mpr ⟨fun m hm => (List.mem_cons.mp hm).elim (fun h => h ▸ hlt) fun hm => hlt.trans (hx m hm), h⟩
    next hlt =>
      refine List.pairwise_cons.mpr ⟨fun m hm => ?_, ih hxs hnot⟩
      rcases (List.mem_orderedInsert ..).mp hm with rfl | hm
      · omega
      · exact hx m hm

theorem Move.keeps_oneEach {a b : Held} (h : Move a b) (ha : a.OneEach) : b.OneEach := by
  obtain ⟨hordered, hnumber⟩ := ha
  cases h with
  | hear n low high other new =>
    refine ⟨orderedInsert_pairwise hordered new, fun m hm => ?_⟩
    rcases (List.mem_orderedInsert ..).mp hm with rfl | hm
    · exact ⟨low, high, other⟩
    · exact hnumber m hm
  | forget => simp [Held.OneEach]
  | reset => simp [Held.OneEach]
  | _ => exact ⟨hordered, hnumber⟩

theorem Moves.keeps {P : Held → Prop} (hP : ∀ {a b}, Move a b → P a → P b) {a b : Held} (h : Moves a b) (ha : P a) : P b := by
  induction h with
  | refl => exact ha
  | tail _ hlast ih => exact hP hlast ih

/-- What `s` holds becomes what `u` holds by moves. -/
def Runs (s u : State) : Prop := Moves s.held u.held

theorem Runs.refl (s : State) : Runs s s := Moves.refl _

theorem Runs.trans {s w u : State} (h : Runs s w) (h' : Runs w u) : Runs s u := Moves.trans h h'

theorem Runs.keep {s w u : State} (h : Runs s w) (hu : u.held = w.held) : Runs s u := by
  rw [Runs, hu]
  exact h

theorem Runs.of_held {s u : State} (h : u.held = s.held) : Runs s u := (Runs.refl s).keep h

theorem Runs.step {s u : State} {h : Held} (hm : Move s.held h) (hu : u.held = h) : Runs s u := by
  rw [Runs, hu]
  exact hm.moves

end Sys2Proof.Machine
end

section
/-! Which operations leave all that is held as it is: one lemma each, in the order of the model. -/

namespace Sys2Proof.Machine
open Sys2Proof Host Safety

/-! What an update of one block leaves of it. -/

@[simp] theorem State.onStore_held (f : PhraseStore → PhraseStore) (s : State) : (s.onStore f).held = s.held := rfl
@[simp] theorem State.setSpeech_held (x : Speech) (s : State) : (s.setSpeech x).held = s.held := rfl
@[simp] theorem State.onTone_held (f : ToneUnit → ToneUnit) (s : State) : (s.onTone f).held = s.held := rfl
@[simp] theorem State.onHall_held (f : HallPort → HallPort) (s : State) : (s.onHall f).held = s.held := rfl
@[simp] theorem State.onOwn_held (f : OwnFloor → OwnFloor) (s : State) : (s.onOwn f).held = s.held := rfl
@[simp] theorem State.onRem_held (f : ReminderUnit → ReminderUnit) (s : State) : (s.onRem f).held = s.held := rfl
@[simp] theorem State.onPower_held (f : Power → Power) (s : State) : (s.onPower f).held = s.held := rfl
@[simp] theorem State.onDisplay_held (f : Display → Display) (s : State) : (s.onDisplay f).held = s.held := rfl
@[simp] theorem State.arrive_held (t : Nat) (s : State) : (s.arrive t).held = s.held := rfl
@[simp] theorem State.withPending_held (s : State) (q : List Instr) : (s.withPending q).held = s.held := rfl

@[simp] theorem State.onLink_held {f : CueLink → CueLink} {s : State} (hlistening : ∀ l, (f l).listening = l.listening)
    (hreports : ∀ l, (f l).reports = l.reports) (hearly : ∀ l, (f l).early = l.early) :
    (s.onLink f).held = s.held := by
  simp [State.held, hlistening, hreports, hearly]

@[simp] theorem State.onSeq_held {f : Sequencer → Sequencer} {s : State} (h : ∀ q, (f q).queue = q.queue) :
    (s.onSeq f).held = s.held := by
  simp [State.held, h]

@[simp] theorem State.onLevel_held {f : LevelUnit → LevelUnit} {s : State} (h : ∀ l, (f l).ring = l.ring) :
    (s.onLevel f).held = s.held := by
  simp [State.held, h]

@[simp] theorem State.onFloor_held {f : FloorUnit → FloorUnit} {s : State} (h : ∀ u, (f u).peers = u.peers) :
    (s.onFloor f).held = s.held := by
  simp [State.held, h]

@[simp] theorem State.onPanel_held {f : Panel → Panel} {s : State} (h : ∀ p, (f p).awaiting = p.awaiting) :
    (s.onPanel f).held = s.held := by
  simp [State.held, h]

/-! The operations that leave it, in the order of the model. -/

@[simp] theorem latch_held (f : Latches → Latches) (s : State) : (latch f s).held = s.held := rfl
@[simp] theorem readFailed_held (n : Nat) (s : State) : (readFailed n s).held = s.held := rfl
@[simp] theorem countComposition_held (c : Composed) (s : State) : (countComposition c s).held = s.held := rfl

@[simp] theorem holdSampling_held (s : State) : (holdSampling s).held = s.held := by
  unfold holdSampling
  (repeat' split) <;> simp

@[simp] theorem playChime_held (c : Chime) (s : State) : (playChime c s).held = s.held := rfl
@[simp] theorem awaitChime_held (c : Chime) (s : State) : (awaitChime c s).held = s.held := rfl
@[simp] theorem stopChime_held (s : State) : (stopChime s).held = s.held := rfl

@[simp] theorem askClick_held (vs : Nat) (s : State) : (askClick vs s).held = s.held := by
  unfold askClick
  split <;> simp

@[simp] theorem postText_held (text : Option (List Byte)) (cls : Cls) (s : State) : (postText text cls s).held = s.held := by
  unfold postText
  split <;> simp

@[simp] theorem removeText_held (s : State) : (removeText s).held = s.held := rfl
@[simp] theorem askMaskedBlink_held (s : State) : (askMaskedBlink s).held = s.held := rfl
@[simp] theorem postEstimate_held (s : State) : (postEstimate s).held = s.held := rfl
@[simp] theorem postDecrement_held (s : State) : (postDecrement s).held = s.held := rfl

@[simp] theorem lookUpPhase_held (s : State) : (lookUpPhase s).held = s.held := by
  unfold lookUpPhase
  split <;> simp

@[simp] theorem setMode_held (m : PowerMode) (s : State) : (setMode m s).held = s.held := by
  unfold setMode
  split <;> simp

@[simp] theorem activity_held (s : State) : (activity s).held = s.held := by
  unfold activity
  split <;> simp

@[simp] theorem holdTimers_held (s : State) : (holdTimers s).held = s.held := by
  unfold holdTimers
  (repeat' split) <;> simp

@[simp] theorem endAnnouncing_held (s : State) : (endAnnouncing s).held = s.held := rfl

@[simp] theorem startCheck_held (powerOn : Bool) (s : State) : (startCheck powerOn s).held = s.held := by
  unfold startCheck
  split <;> simp

theorem changeEntry_held {f : Entry → Entry} (h : ∀ e, (f e).standing = e.standing) (tag : Nat) (s : State) :
    (changeEntry tag f s).held = s.held := by
  have hmap : (s.seq.queue.map (atTag tag f)).map Entry.standing = s.seq.queue.map Entry.standing := by
    rw [List.map_map]
    refine List.map_congr_left fun e _ => ?_
    simp only [Function.comp, atTag]
    split
    · exact h e
    · rfl
  simp only [State.held, changeEntry_queue, hmap]
  rfl

@[simp] theorem dropRepeat_held (tag : Nat) (s : State) : (dropRepeat tag s).held = s.held := rfl
@[simp] theorem countDrop_held (s : State) : (countDrop s).held = s.held := rfl
@[simp] theorem changeService_held (f : Service → Service) (s : State) : (changeService f s).held = s.held := rfl
@[simp] theorem emptySlot_held (s : State) : (emptySlot s).held = s.held := rfl

@[simp] theorem returnToQueue_held (s : State) : (returnToQueue s).held = s.held := by
  unfold returnToQueue
  split
  · exact changeEntry_held (by exact fun _ => rfl) _ s
  · rfl

@[simp] theorem applyLevel_held (r : LevelResult) (s : State) : (applyLevel r s).held = s.held := by
  unfold applyLevel
  split <;> simp

@[simp] theorem startItem_held (items : List ScriptItem) (i : Nat) (s : State) : (startItem items i s).held = s.held := by
  unfold startItem
  split <;> simp

@[simp] theorem beginOutput_held (e : Entry) (route : Route) (script : Script) (r : LevelResult) (s : State) :
    (beginOutput e route script r s).held = s.held := by
  unfold beginOutput
  dsimp only
  split <;> simp

@[simp] theorem beginWarmUp_held (e : Entry) (route : Route) (script : Script) (r : LevelResult) (s : State) :
    (beginWarmUp e route script r s).held = s.held := by
  unfold beginWarmUp
  dsimp only
  split <;> simp

@[simp] theorem startAudible_held (tag : Nat) (route : Route) (script : Script) (s : State) :
    (startAudible tag route script s).held = s.held := by
  have hentry := changeEntry_held (f := fun x => { x with state := .speaking, deadline := none }) (fun _ => rfl) tag s
  unfold startAudible
  split
  · rfl
  · dsimp only
    split <;> simp [hentry]

@[simp] theorem startSilent_held (tag : Nat) (script : Script) (s : State) : (startSilent tag script s).held = s.held := by
  have hentry := changeEntry_held (f := fun x => { x with state := .showing, deadline := none }) (fun _ => rfl) tag s
  unfold startSilent
  split
  · rfl
  · simp [hentry]

@[simp] theorem seqConfirmed_held (s : State) : (seqConfirmed s).held = s.held := by
  unfold seqConfirmed
  (repeat' split) <;> simp

@[simp] theorem handFrame_held (f : TxFrame) (s : State) : (handFrame f s).held = s.held := by
  unfold handFrame
  split <;> simp

@[simp] theorem handPresence_held (k : PresenceKind) (s : State) : (handPresence k s).held = s.held := rfl

@[simp] theorem changePeer_held {f : Peer → Peer} (h : ∀ p, (f p).station = p.station) (station : Nat) (s : State) :
    (changePeer station f s).held = s.held := by
  have hmap : (changePeer station f s).floor.peers.map Peer.station = s.floor.peers.map Peer.station := by
    simp only [changePeer, State.onFloor_floor, List.map_map]
    refine List.map_congr_left fun p _ => ?_
    simp only [Function.comp]
    split
    · exact h p
    · rfl
  simp only [State.held, hmap]
  rfl

@[simp] theorem changeOwnClaim_held (f : LiveClaim → LiveClaim) (s : State) : (changeOwnClaim f s).held = s.held := rfl
@[simp] theorem clearOwnClaim_held (s : State) : (clearOwnClaim s).held = s.held := rfl

@[simp] theorem releaseWithdrawn_held (seq : Nat) (s : State) : (releaseWithdrawn seq s).held = s.held := by
  simp [releaseWithdrawn]

@[simp] theorem claimLost_held (s : State) : (claimLost s).held = s.held := by
  simp [claimLost]

@[simp] theorem confirmOwn_held (s : State) : (confirmOwn s).held = s.held := by
  unfold confirmOwn
  dsimp only
  split <;> simp

@[simp] theorem confirmClaim_held (station : Nat) (s : State) : (confirmClaim station s).held = s.held := by
  unfold confirmClaim
  split <;> simp

@[simp] theorem confirmTop_held (z : Nat) (s : State) : (confirmTop z s).held = s.held := by
  unfold confirmTop
  (repeat' split) <;> simp

@[simp] theorem decideLoss_held (z : Nat) (s : State) : (decideLoss z s).held = s.held := by
  unfold decideLoss
  (repeat' split) <;> simp

@[simp] theorem examine_held (z : Nat) (s : State) : (examine z s).held = s.held := by
  simp [examine]

@[simp] theorem removePeerClaim_held (station : Nat) (s : State) : (removePeerClaim station s).held = s.held := by
  unfold removePeerClaim
  split <;> simp

@[simp] theorem removeOwnClaim_held (s : State) : (removeOwnClaim s).held = s.held := by
  unfold removeOwnClaim
  split <;> simp

@[simp] theorem preempt_held (z : Nat) (cls : Cls) (heard : Nat) (s : State) : (preempt z cls heard s).held = s.held := by
  unfold preempt
  dsimp only
  (repeat' split) <;> simp

@[simp] theorem requestClaim_held (cls : Cls) (arrival length : Nat) (s : State) :
    (requestClaim cls arrival length s).held = s.held := by
  unfold requestClaim
  dsimp only
  split <;> simp

@[simp] theorem promotePending_held (s : State) : (promotePending s).held = s.held := by
  unfold promotePending
  split <;> simp

@[simp] theorem claimUnsent_held (s : State) : (claimUnsent s).held = s.held := by
  unfold claimUnsent
  dsimp only
  (repeat' split) <;> simp

@[simp] theorem takeBack_held (why : TakenBack) (s : State) : (takeBack why s).held = s.held := by
  unfold takeBack
  dsimp only
  split <;> simp

@[simp] theorem withdraw_held (s : State) : (withdraw s).held = s.held := by
  unfold withdraw
  dsimp only
  (repeat' split) <;> simp

@[simp] theorem releaseFloor_held (outcome : ReleaseOutcome) (s : State) : (releaseFloor outcome s).held = s.held := by
  unfold releaseFloor
  split <;> simp

@[simp] theorem ownClaimHeard_held (s : State) : (ownClaimHeard s).held = s.held := by
  unfold ownClaimHeard
  split
  · rfl
  · dsimp only
    (repeat' split) <;> simp

@[simp] theorem ownReleaseHeard_held (seq : Nat) (s : State) : (ownReleaseHeard seq s).held = s.held := by
  unfold ownReleaseHeard
  (repeat' split) <;> simp

@[simp] theorem ownClaimExpired_held (s : State) : (ownClaimExpired s).held = s.held := by
  unfold ownClaimExpired
  dsimp only
  (repeat' split) <;> simp

@[simp] theorem floorFault_held (s : State) : (floorFault s).held = s.held := by
  unfold floorFault
  dsimp only
  split <;> simp

@[simp] theorem takeBackIfOutranked_held (zone : Nat) (c : LiveClaim) (station : Nat) (s : State) :
    (takeBackIfOutranked zone c station s).held = s.held := by
  unfold takeBackIfOutranked
  (repeat' split) <;> simp

@[simp] theorem testOverlap_held (f : PresenceFrame) (s : State) : (testOverlap f s).held = s.held := by
  unfold testOverlap
  dsimp only
  (repeat' split) <;> simp

@[simp] theorem applyPresence_held (f : PresenceFrame) (s : State) : (applyPresence f s).held = s.held := by
  unfold applyPresence
  dsimp only
  (repeat' split) <;> simp

@[simp] theorem peerBecomesLost_held (station : Nat) (s : State) : (peerBecomesLost station s).held = s.held := by
  simp [peerBecomesLost]

@[simp] theorem fillSlot_held (tag : Nat) (kind : Kind) (c : Composed) (s : State) :
    (fillSlot tag kind c s).held = s.held := rfl

@[simp] theorem takeEntry_held (e : Entry) (s : State) : (takeEntry e s).held = s.held := by
  have hentry (s : State) := changeEntry_held (f := fun x => { x with state := .claiming }) (fun _ => rfl) e.tag s
  unfold takeEntry
  dsimp only
  (repeat' split) <;> simp [hentry]

@[simp] theorem select_held (s : State) : (select s).held = s.held := by
  unfold select
  (repeat' split) <;> simp

@[simp] theorem startAttempt_held (s : State) : (startAttempt s).held = s.held := by
  simp [startAttempt]

@[simp] theorem startWaitingRecovery_held (s : State) : (startWaitingRecovery s).held = s.held := by
  unfold startWaitingRecovery
  split <;> simp

@[simp] theorem conclude_held (s : State) : (conclude s).held = s.held := by
  unfold conclude
  split <;> simp

@[simp] theorem itemGapEnds_held (s : State) : (itemGapEnds s).held = s.held := by
  unfold itemGapEnds
  (repeat' split) <;> simp

@[simp] theorem phraseReadTimesOut_held (s : State) : (phraseReadTimesOut s).held = s.held := by
  unfold phraseReadTimesOut
  (repeat' split) <;> simp

@[simp] theorem warmUpEnds_held (s : State) : (warmUpEnds s).held = s.held := by
  unfold warmUpEnds
  dsimp only
  (repeat' split) <;> simp

@[simp] theorem moveSecond_held (s : State) : (moveSecond s).held = s.held := rfl
@[simp] theorem setSlot_held (n : Nat) (r : Option SlotRecord) (s : State) : (setSlot n r s).held = s.held := rfl

@[simp] theorem remindTaken_held (c : RemindCue) (s : State) : (remindTaken c s).held = s.held := by
  unfold remindTaken
  dsimp only
  (repeat' split) <;> rfl

@[simp] theorem restartIdleSlots_held (s : State) : (restartIdleSlots s).held = s.held := rfl
@[simp] theorem clearSessionSlots_held (s : State) : (clearSessionSlots s).held = s.held := rfl
@[simp] theorem toDefaults_held (s : State) : (toDefaults s).held = s.held := rfl

@[simp] theorem stepVolume_held (up : Bool) (s : State) : (stepVolume up s).held = s.held := by
  unfold stepVolume
  split <;> simp

@[simp] theorem setKey_held (k : Key) (x : KeyState) (s : State) : (setKey k x s).held = s.held := rfl
@[simp] theorem setInput_held (k : Key) (down : Bool) (s : State) : (setInput k down s).held = s.held := rfl

@[simp] theorem discardPartial_held (s : State) : (discardPartial s).held = s.held := by
  unfold discardPartial
  split <;> simp

@[simp] theorem enterSleep_held (s : State) : (enterSleep s).held = s.held := by
  simp [enterSleep]

@[simp] theorem announcementEnds_held (s : State) : (announcementEnds s).held = s.held := by
  unfold announcementEnds
  split <;> simp

@[simp] theorem enterListenIn_held (s : State) : (enterListenIn s).held = s.held := rfl

@[simp] theorem wakeHall_held (s : State) : (wakeHall s).held = s.held := by
  unfold wakeHall
  split <;> simp

@[simp] theorem dimPasses_held (s : State) : (dimPasses s).held = s.held := by
  unfold dimPasses
  split <;> simp

@[simp] theorem standbyPasses_held (s : State) : (standbyPasses s).held = s.held := by
  unfold standbyPasses
  split <;> simp

@[simp] theorem attemptFails_held (s : State) : (attemptFails s).held = s.held := by
  unfold attemptFails
  split <;> simp

@[simp] theorem watchAfresh_held (s : State) : (watchAfresh s).held = s.held := rfl

@[simp] theorem watchBits_held (bits : List Bool) (s : State) : (watchBits bits s).held = s.held := by
  unfold watchBits
  split <;> simp

@[simp] theorem frameBad_held (counting : Bool) (s : State) : (frameBad counting s).held = s.held := rfl

@[simp] theorem lineIdles_held (s : State) : (lineIdles s).held = s.held := by
  unfold lineIdles
  split <;> simp

@[simp] theorem frameStarts_held (s : State) : (frameStarts s).held = s.held := by
  unfold frameStarts
  split <;> simp

@[simp] theorem dropTakenBack_held (f : TxFrame) (s : State) : (dropTakenBack f s).held = s.held := by
  unfold dropTakenBack
  (repeat' split) <;> simp

@[simp] theorem arbitrationLost_held (s : State) : (arbitrationLost s).held = s.held := by
  unfold arbitrationLost
  split <;> simp

@[simp] theorem failIfRecovery_held (f : TxFrame) (s : State) : (failIfRecovery f s).held = s.held := by
  unfold failIfRecovery
  split <;> simp

@[simp] theorem ownClaimGoes_held (s : State) : (ownClaimGoes s).held = s.held := by
  unfold ownClaimGoes
  split <;> simp

@[simp] theorem ownReleaseGoes_held (s : State) : (ownReleaseGoes s).held = s.held := by
  unfold ownReleaseGoes
  split <;> simp

@[simp] theorem listenInEnds_held (s : State) : (listenInEnds s).held = s.held := by
  unfold listenInEnds
  (repeat' split) <;> simp

@[simp] theorem heartbeatDue_held (s : State) : (heartbeatDue s).held = s.held := by
  unfold heartbeatDue
  (repeat' split) <;> simp

@[simp] theorem recoveryDue_held (s : State) : (recoveryDue s).held = s.held := by
  unfold recoveryDue
  (repeat' split) <;> simp

@[simp] theorem recoveryTimesOut_held (s : State) : (recoveryTimesOut s).held = s.held := by
  unfold recoveryTimesOut
  (repeat' split) <;> simp

@[simp] theorem finalTimesOut_held (s : State) : (finalTimesOut s).held = s.held := by
  unfold finalTimesOut
  split <;> simp

@[simp] theorem peerSilent_held (station : Nat) (s : State) : (peerSilent station s).held = s.held := by
  unfold peerSilent
  (repeat' split) <;> simp

@[simp] theorem claimExpires_held (station : Nat) (s : State) : (claimExpires station s).held = s.held := by
  unfold claimExpires
  (repeat' split) <;> simp

@[simp] theorem settleEnds_held (station : Nat) (s : State) : (settleEnds station s).held = s.held := by
  unfold settleEnds
  (repeat' split) <;> simp

@[simp] theorem turnGapEnds_held (s : State) : (turnGapEnds s).held = s.held := by
  unfold turnGapEnds
  split <;> simp

@[simp] theorem configureTaken_held (c : ConfigureCue) (s : State) : (configureTaken c s).held = s.held := by
  simp [configureTaken]

@[simp] theorem maskTaken_held (m : ClassMask) (s : State) : (maskTaken m s).held = s.held := rfl
@[simp] theorem quietTaken_held (q : Bool) (s : State) : (quietTaken q s).held = s.held := rfl

@[simp] theorem phaseTaken_held (c : PhaseCue) (s : State) : (phaseTaken c s).held = s.held := by
  simp [phaseTaken]

@[simp] theorem sleepTaken_held (s : State) : (sleepTaken s).held = s.held := by
  unfold sleepTaken
  split <;> simp

@[simp] theorem softResetFloor_held (s : State) : (softResetFloor s).held = s.held := by
  simp [softResetFloor]

@[simp] theorem lockFor_held (type : Byte) (s : State) : (lockFor type s).held = s.held := by
  unfold lockFor
  split <;> simp

@[simp] theorem cueActivity_held (type : Byte) (payload : List Byte) (s : State) :
    (cueActivity type payload s).held = s.held := by
  unfold cueActivity
  dsimp only
  split <;> simp

@[simp] theorem dropStale_held (s : State) : (dropStale s).held = s.held := by
  unfold dropStale
  split <;> simp

@[simp] theorem gapPasses_held (s : State) : (gapPasses s).held = s.held := by
  unfold gapPasses
  split <;> simp

@[simp] theorem toneStepEnds_held (s : State) : (toneStepEnds s).held = s.held := by
  unfold toneStepEnds
  (repeat' split) <;> simp

@[simp] theorem clickEnds_held (s : State) : (clickEnds s).held = s.held := by
  unfold clickEnds
  (repeat' split) <;> simp

@[simp] theorem scrollStepped_held (field : ScrollField) (s : State) : (scrollStepped field s).held = s.held := by
  unfold scrollStepped
  (repeat' split) <;> simp

@[simp] theorem blinkToggled_held (field : BlinkField) (s : State) : (blinkToggled field s).held = s.held := by
  unfold blinkToggled
  (repeat' split) <;> simp

@[simp] theorem holdSettles_held (s : State) : (holdSettles s).held = s.held := by
  unfold holdSettles
  (repeat' split) <;> simp

@[simp] theorem bucketSteps_held (tag : Nat) (s : State) : (bucketSteps tag s).held = s.held := by
  unfold bucketSteps
  (repeat' split) <;> simp

end Sys2Proof.Machine
end

section
/-! What each operation that changes what is held does to it, by moves (R3 to R14, R29, R75, R109, R175, R195, R198). -/

namespace Sys2Proof.Machine
open Sys2Proof Host Safety

/-! The reports. -/

theorem report_runs (r : Report) (s : State) : Runs s (report r s) := by
  have hreport : report r s = s.onLink fun l => if l.listening then l.join r else l.hold r := rfl
  have hlisten (b : Bool) (h : s.link.listening = b) : s.held.listening = b := h
  cases hl : s.link.listening with
  | true =>
    by_cases hroom : s.link.reports.length < 16
    · refine .step (.tell s.held (s.link.reports ++ [r]) (fun _ => by simpa using hroom) ?_) ?_
      · rw [hlisten _ hl]; nofun
      · simp [hreport, State.held, hl, CueLink.join, Config.reportLimit, hroom]
    · refine .of_held ?_
      simp [hreport, State.held, hl, CueLink.join, CueLink.lose, Config.reportLimit, hroom]
  | false =>
    by_cases hroom : s.link.early.length + 1 < 16
    · refine .step (.hold s.held (s.link.early ++ [r]) (fun _ => ?_)) ?_
      · simpa using hroom
      · simp [hreport, State.held, hl, CueLink.hold, Config.reportLimit, hroom]
    · refine .of_held ?_
      simp [hreport, State.held, hl, CueLink.hold, CueLink.lose, Config.reportLimit, hroom]

theorem Runs.report {s w : State} (h : Runs s w) (r : Report) : Runs s (report r w) := h.trans (report_runs r w)

theorem Runs.reportAll {s w : State} (h : Runs s w) (rs : List Report) : Runs s (reportAll rs w) := by
  induction rs generalizing w with
  | nil => exact h
  | cons r rs ih => exact ih (h.report r)

theorem Runs.reportDone {s w : State} (h : Runs s w) (origin : Origin) (tag : Nat) (outcome : DoneOutcome) :
    Runs s (reportDone origin tag outcome w) := by
  unfold Machine.reportDone
  split
  · exact h.report _
  · exact h

theorem Runs.refuse {s w : State} (h : Runs s w) (type : Byte) (tag : Nat) (reason : Reason) :
    Runs s (refuse type tag reason w) := (h.keep (by simp)).report _

theorem Runs.sayHello {s w : State} (h : Runs s w) : Runs s (sayHello w) := h.report _

theorem Runs.endCheck {s w : State} (h : Runs s w) (powerOn : Bool) (result : SpeakerResult) (steps : Nat) :
    Runs s (endCheck powerOn result steps w) := by
  unfold Machine.endCheck
  dsimp only
  (repeat' split) <;> first
    | exact h.keep rfl
    | exact Runs.report (h.keep (by rfl)) _

theorem Runs.helloIfChecked {s w : State} (h : Runs s w) : Runs s (helloIfChecked w) := by
  unfold Machine.helloIfChecked
  split
  · exact h
  · have hopened : Runs w (w.onLink fun l => { l with listening := true, early := [] }) :=
      Moves.trans (Move.hello w.held).moves (Move.hold _ [] (by simp)).moves
    exact ((h.trans hopened).sayHello).reportAll _

theorem Runs.tellFault {s w : State} (h : Runs s w) (cause : FaultCause) : Runs s (tellFault cause w) := by
  unfold Machine.tellFault
  split <;> exact (h.keep (by simp)).report _

theorem Runs.reportLeaves {s w : State} (h : Runs s w) : Runs s (reportLeaves w) :=
  h.trans (.step (.tell w.held (w.link.reports.drop 1) (fun hl => by
    have : w.link.reports.length ≤ 16 := hl
    rw [List.length_drop]
    omega) (fun _ hnil => by rw [show w.link.reports = [] from hnil]; rfl)) rfl)

/-! The prompt queue and the awaiting list. -/

theorem Entry.standing_before (a b : Entry) : a.standing.before b.standing = a.before b := rfl

theorem insertEntry_standing (e : Entry) (l : List Entry) :
    (insertEntry e l).map Entry.standing = insertEntry e.standing (l.map Entry.standing) := by
  induction l with
  | nil => rfl
  | cons x xs ih =>
    rw [insertEntry, List.map_cons, insertEntry, Entry.standing_before]
    split
    · rfl
    · rw [List.map_cons, ih]

theorem entry_eq_none_iff (s : State) (tag : Nat) : s.entry tag = none ↔ tag ∉ s.held.queue.map Entry.tag := by
  simp only [State.held, standing_tags, State.entry, List.find?_eq_none]
  simp

theorem tag_mem_of_entry {s : State} {tag : Nat} {e : Entry} (h : s.entry tag = some e) :
    e.tag = tag ∧ e.tag ∈ s.held.queue.map Entry.tag := by
  have htag : e.tag = tag := by simpa using List.find?_some h
  refine ⟨htag, ?_⟩
  simp only [State.held, standing_tags]
  exact List.mem_map_of_mem (List.mem_of_find?_eq_some h)

theorem held_queue_filter (tag : Nat) (s : State) :
    (s.seq.queue.filter fun e => e.tag ≠ tag).map Entry.standing = s.held.queue.filter fun e => e.tag ≠ tag :=
  (List.filter_map (f := Entry.standing) (p := fun e => decide (e.tag ≠ tag))).symm

theorem onSeq_held_queue (f : Sequencer → Sequencer) (s : State) :
    (s.onSeq f).held = { s.held with queue := (f s.seq).queue.map Entry.standing } := rfl

theorem onPanel_held_awaiting (f : Panel → Panel) (s : State) :
    (s.onPanel f).held = { s.held with awaiting := (f s.panel).awaiting.map Awaiting.tag } := rfl

theorem dropEntry_held (tag : Nat) (s : State) :
    (dropEntry tag s).held = { s.held with queue := s.held.queue.filter fun e => e.tag ≠ tag } := by
  rw [← held_queue_filter]
  rfl

theorem joinQueue_held (e : Entry) (s : State) :
    (joinQueue e s).held =
      { s.held with queue := insertEntry { e with made := s.seq.madeCount }.standing s.held.queue } := by
  have hqueue : (insertEntry { e with made := s.seq.madeCount } s.seq.queue).map Entry.standing = _ := insertEntry_standing ..
  simp only [State.held, ← hqueue]
  rfl

theorem dropAwaiting_held (tag : Nat) (s : State) :
    (dropAwaiting tag s).held = { s.held with awaiting := s.held.awaiting.filter fun n => n ≠ tag } := by
  have hlist : (s.panel.awaiting.filter fun a => a.tag ≠ tag).map Awaiting.tag = s.held.awaiting.filter fun n => n ≠ tag :=
    (List.filter_map (f := Awaiting.tag) (p := fun n => decide (n ≠ tag))).symm
  rw [← hlist]
  rfl

theorem Runs.dropEntry {s w : State} (h : Runs s w) (tag : Nat) : Runs s (dropEntry tag w) :=
  h.trans (.step (.leave w.held fun e => e.tag ≠ tag) (dropEntry_held tag w))

theorem Runs.dropAwaiting {s w : State} (h : Runs s w) (tag : Nat) : Runs s (dropAwaiting tag w) :=
  h.trans (.step (.answer w.held fun n => n ≠ tag) (dropAwaiting_held tag w))

theorem Runs.leaveWith {s w : State} (h : Runs s w) (e : Entry) (outcome : DoneOutcome) :
    Runs s (leaveWith e outcome w) := (h.dropEntry e.tag).reportDone _ _ _

theorem Runs.answerAwaiting {s w : State} (h : Runs s w) (tag : Nat) (outcome : DoneOutcome) :
    Runs s (answerAwaiting tag outcome w) := (h.dropAwaiting tag).report _

theorem Runs.stopRemoved {s w : State} (h : Runs s w) (e : Entry) (outcome : DoneOutcome) :
    Runs s (stopRemoved e outcome w) := (h.keep (by simp)).leaveWith e outcome

theorem Runs.cutEntry {s w : State} (h : Runs s w) (e : Entry) : Runs s (cutEntry e w) := by
  unfold Machine.cutEntry
  dsimp only
  split
  · exact (h.keep (by simp)).leaveWith e .cutOut
  · refine h.keep ((changeEntry_held (by exact fun _ => rfl) _ _).trans ?_)
    simp

theorem Runs.atBoundary {s w : State} (h : Runs s w) (e : Entry) (v : Service) {goOn : LevelResult → State → State}
    (hgo : ∀ r st, (goOn r st).held = st.held) : Runs s (atBoundary e v goOn w) := by
  unfold Machine.atBoundary
  dsimp only
  (repeat' split)
  · exact h.stopRemoved e _
  · exact h.cutEntry e
  · exact h.keep (hgo _ _)

/-- Room made by capacity: what `cap.clear` leaves is some moves and then a filter of the queue that makes the room. -/
theorem clear_held {s : State} {cls : Cls} (hfull : s.capacity cls ≠ .full) :
    ∃ w p, Runs s w ∧ w.held.queue = s.held.queue ∧ w.held.awaiting = s.held.awaiting ∧ RoomFor 16 p w.held.queue
      ∧ ((s.capacity cls).clear s).held = { w.held with queue := w.held.queue.filter p } := by
  cases hcap : s.capacity cls with
  | full => exact absurd hcap hfull
  | room =>
    have hroom : s.held.queue.length < 16 := by simpa [State.held, Config.queueLimit] using capacity_room hcap
    exact ⟨s, fun _ => true, .refl s, rfl, rfl, .inl hroom, by simp [Capacity.clear]⟩
  | evict v =>
    have hv : v.standing ∈ s.held.queue := List.mem_map_of_mem (capacity_evict hcap).1
    by_cases hmachine : v.origin = .machine
    · refine ⟨report (.done v.tag .dropped) s, fun e => e.tag ≠ v.tag, report_runs _ s, rfl, rfl,
        .inr ⟨_, hv, by simp [Entry.standing]⟩, ?_⟩
      simp only [Capacity.clear, evict, if_pos hmachine]
      exact dropEntry_held v.tag (report (.done v.tag .dropped) s)
    · refine ⟨s, fun e => e.tag ≠ v.tag, .refl s, rfl, rfl, .inr ⟨_, hv, by simp [Entry.standing]⟩, ?_⟩
      simp only [Capacity.clear, evict, if_neg hmachine, countDrop_held]
      exact dropEntry_held v.tag s

theorem not_mem_filter_tags {l : List Entry} {tag : Nat} (h : tag ∉ l.map Entry.tag) (p : Entry → Bool) :
    tag ∉ (l.filter p).map Entry.tag := fun hmem => h ((List.filter_sublist.map _).subset hmem)

theorem joinCleared_runs {s : State} {cls : Cls} {e : Entry} (hfull : s.capacity cls ≠ .full)
    (hfree : s.entry e.tag = none) (hawaited : 64 ≤ e.tag ∨ e.tag ∉ s.held.awaiting) (hrange : TagInRange e) :
    Runs s (joinQueue e ((s.capacity cls).clear s)) := by
  obtain ⟨w, p, hw, hqueue, hawaiting, hroom, hclear⟩ := clear_held hfull
  have hnot := not_mem_filter_tags ((entry_eq_none_iff s e.tag).mp hfree) p
  refine hw.trans (.step (.join w.held p { e with made := ((s.capacity cls).clear s).seq.madeCount }.standing hroom
    (by rw [hqueue]; exact hnot) hrange (hawaited.imp id fun h => .inl (by rw [hawaiting]; exact h))) ?_)
  rw [joinQueue_held, hclear]

theorem internalPrompt_runs {p : InternalPrompt} (s : State) (hrange : ∀ st : State, TagInRange (st.internalEntry p))
    (hhigh : 64 ≤ p.tag) : Runs s (internalPrompt p s) := by
  unfold internalPrompt
  split
  · exact .of_held (by simp)
  · split
    · exact .refl s
    next hnone =>
      have hfree : s.entry p.tag = none := by simpa using hnone
      split
      · exact .of_held (by simp)
      next hfull => exact joinCleared_runs hfull hfree (.inl hhigh) (hrange s)

theorem capacity_congr {s u : State} (h : u.seq.queue = s.seq.queue) (cls : Cls) : u.capacity cls = s.capacity cls := by
  simp [State.capacity, State.victim, h]

theorem Runs.supersedeAwaiting {s w : State} (h : Runs s w) (tag : Nat) : Runs s (supersedeAwaiting tag w) := by
  unfold Machine.supersedeAwaiting
  split
  · exact h.answerAwaiting tag _
  · exact h

theorem supersedeAwaiting_queue (tag : Nat) (s : State) : (supersedeAwaiting tag s).seq = s.seq := by
  unfold Machine.supersedeAwaiting
  split <;> rfl

theorem supersedeAwaiting_not_mem (tag : Nat) (s : State) : tag ∉ (supersedeAwaiting tag s).held.awaiting := by
  unfold Machine.supersedeAwaiting
  split
  · have hdropped : (answerAwaiting tag .superseded s).held.awaiting = (dropAwaiting tag s).held.awaiting := rfl
    rw [hdropped, dropAwaiting_held]
    simp
  next h =>
    rw [State.awaitingRecord, List.find?_eq_none] at h
    simpa [State.held] using h

theorem newPrompt_runs {s : State} {c : PromptCue} (htag : 1 ≤ c.tag ∧ c.tag ≤ 63) (hfull : s.capacity c.cls ≠ .full)
    (hfree : s.entry c.tag = none) : Runs s (newPrompt c (s.capacity c.cls) s) := by
  have hseq := supersedeAwaiting_queue c.tag s
  have hcap := capacity_congr (congrArg Sequencer.queue hseq) c.cls
  have hentry : (supersedeAwaiting c.tag s).entry c.tag = none := by rw [State.entry, hseq]; exact hfree
  refine Runs.report (Runs.trans ((Runs.refl s).supersedeAwaiting c.tag) ?_) _
  rw [← hcap]
  exact joinCleared_runs (by rw [hcap]; exact hfull) hentry (.inr (supersedeAwaiting_not_mem c.tag s)) (.inl ⟨rfl, htag⟩)

theorem Runs.replaceEntry {s w : State} (h : Runs s w) {c : PromptCue} {old : Entry} (htag : 1 ≤ c.tag ∧ c.tag ≤ 63)
    (hold : old.tag = c.tag) (hmem : old.tag ∈ w.held.queue.map Entry.tag) : Runs s (replaceEntry c old w) := by
  refine Runs.report (.report (h.trans ?_) _) _
  obtain ⟨x, hx, hxtag⟩ := List.mem_map.mp hmem
  refine .step (.join w.held (fun e => e.tag ≠ old.tag) (w.promptEntry c old.arrival old.made).standing
    (.inr ⟨x, hx, by simp [hxtag]⟩) ?_ (.inl ⟨rfl, htag⟩) (.inr (.inr ?_))) ?_
  · simp [Entry.standing, State.promptEntry, hold]
  · rw [show (w.promptEntry c old.arrival old.made).standing.tag = old.tag from hold.symm]
    exact hmem
  · rw [onSeq_held_queue, dropRepeat_held, insertEntry_standing, show (dropRepeat old.tag w).seq = w.seq from rfl,
      held_queue_filter]

theorem tagOk_iff (tag : Nat) : tagOk tag = true ↔ 1 ≤ tag ∧ tag ≤ 63 := by simp [tagOk]

/-- A taken cue runs on from the state that it found. -/
def Handled.Runs (s : State) (h : Handled) : Prop := ∀ u, h = .taken u → Machine.Runs s u

theorem Handled.Runs.taken {s u : State} (h : Machine.Runs s u) : (Handled.taken u).Runs s := fun _ hu => by
  cases hu
  exact h

theorem Handled.Runs.refused (s : State) (r : Reason) : (Handled.refused r).Runs s := fun _ hu => by cases hu

theorem enqueuePrompt_runs {c : PromptCue} (htag : 1 ≤ c.tag ∧ c.tag ≤ 63) (s : State) : (enqueuePrompt c s).Runs s := by
  unfold enqueuePrompt
  split
  · exact .refused _ _
  · split
    next e he =>
      obtain ⟨hold, hmem⟩ := tag_mem_of_entry he
      split
      · exact .taken ((Runs.refl s).replaceEntry htag hold hmem)
      · refine .taken (Runs.replaceEntry (.of_held (by simp)) htag hold ?_)
        rw [show (emptySlot (withdraw s)).held = s.held by simp]
        exact hmem
      · exact .refused _ _
      · exact .refused _ _
    next hfree =>
      split
      · exact .refused _ _
      next hfull => exact .taken (newPrompt_runs htag hfull hfree)

theorem mem_standing {s : State} {e : Entry} (h : e ∈ s.seq.queue) : e.standing ∈ s.held.queue := List.mem_map_of_mem h

theorem makeAwaiting_of_room {s : State} (h : s.panel.awaiting.length < 4) (e : Entry) :
    makeAwaiting e s = s.onPanel fun p => { p with awaiting := p.awaiting ++ [s.recordFor e] } := by
  simp only [makeAwaiting]
  rw [if_pos (by exact h)]

theorem makeAwaiting_of_full {s : State} {a : Awaiting} {l : List Awaiting} (h : s.panel.awaiting = a :: l)
    (hfull : ¬ s.panel.awaiting.length < 4) (e : Entry) :
    makeAwaiting e s =
      (answerAwaiting a.tag .unacknowledged s).onPanel fun p => { p with awaiting := p.awaiting ++ [s.recordFor e] } := by
  simp only [makeAwaiting]
  rw [if_neg (by exact hfull), h]

theorem awaiting_held_append (e : Entry) (w s : State) :
    (s.onPanel fun p => { p with awaiting := p.awaiting ++ [w.recordFor e] }).held =
      { s.held with awaiting := s.held.awaiting ++ [e.tag] } := by
  rw [onPanel_held_awaiting, List.map_append]
  rfl

/-- A completed entry that needs acknowledgement passes to the awaiting list, which makes a place for it (R175). -/
theorem awaits_runs {s : State} {e : Entry} (hmem : e.standing ∈ s.held.queue) (hack : e.ackRequired = true) :
    Runs s (makeAwaiting e (dropEntry e.tag s)) := by
  by_cases hlen : s.panel.awaiting.length < 4
  · refine .step (.await s.held (fun _ => true) e.standing hmem hack (.inl (by simpa [State.held] using hlen))) ?_
    rw [makeAwaiting_of_room (by exact hlen), awaiting_held_append, dropEntry_held, List.filter_true]
    rfl
  · obtain ⟨a, l, hlist⟩ := List.exists_cons_of_ne_nil (l := s.panel.awaiting) fun hnil => hlen (by simp [hnil])
    have hanswered := report_runs (.done a.tag .unacknowledged) s
    have ha : a.tag ∈ s.held.awaiting := List.mem_map_of_mem (hlist ▸ List.mem_cons_self)
    refine hanswered.trans (.step
      (.await (report (.done a.tag .unacknowledged) s).held (fun n => n ≠ a.tag) e.standing hmem hack (.inr ⟨_, ha, by simp⟩)) ?_)
    rw [makeAwaiting_of_full (s := dropEntry e.tag s) hlist hlen, awaiting_held_append,
      show answerAwaiting a.tag .unacknowledged (dropEntry e.tag s) =
        dropAwaiting a.tag (dropEntry e.tag (report (.done a.tag .unacknowledged) s)) from rfl, dropAwaiting_held, dropEntry_held]
    rfl

theorem Runs.completeEntry {s w : State} (h : Runs s w) {e : Entry} (hmem : e.standing ∈ w.held.queue) :
    Runs s (completeEntry e w) := by
  have hmarked : (if e.origin = .key then w
      else w.onPanel fun p => { p with lastCompleted := some ⟨e.template, e.param1, e.param2, e.cls, e.channels⟩ }).held =
        w.held := by
    split <;> simp
  unfold Machine.completeEntry
  dsimp only
  split
  next hack => exact (h.keep hmarked).trans (awaits_runs (by rw [hmarked]; exact hmem) hack)
  · exact (h.keep hmarked).leaveWith e .completed

theorem State.served_mem {s : State} {e : Entry} (h : s.served = some e) : e ∈ s.seq.queue := by
  unfold State.served at h
  split at h
  · exact List.mem_of_find?_eq_some h
  · cases h

theorem State.speaking_mem {s : State} {x : Entry × Service} (h : s.speaking = some x) : x.1 ∈ s.seq.queue := by
  unfold State.speaking at h
  split at h
  next hserved _ =>
    split at h
    · cases h
      exact State.served_mem hserved
    · cases h
  · cases h

theorem Runs.endService {s w : State} (h : Runs s w) {e : Entry} (v : Service) (hmem : e.standing ∈ w.held.queue) :
    Runs s (endService e v w) := by
  have hended : (emptySlot (activity (releaseFloor .complete w))).held = w.held := by simp
  unfold Machine.endService
  dsimp only
  split
  · exact (h.keep hended).leaveWith e _
  · exact (h.keep hended).completeEntry (by rw [hended]; exact hmem)

theorem Runs.endSilent {s w : State} (h : Runs s w) {e : Entry} (hmem : e.standing ∈ w.held.queue) :
    Runs s (endSilent e w) := by
  have hended : (emptySlot (activity w)).held = w.held := by simp
  exact (h.keep hended).completeEntry (by rw [hended]; exact hmem)

theorem Runs.removeEntry {s w : State} (h : Runs s w) (tag : Nat) (outcome : DoneOutcome) :
    Runs s (removeEntry tag outcome w) := by
  unfold Machine.removeEntry
  (repeat' split)
  · exact h
  · exact h.leaveWith _ _
  · exact (h.keep (by simp)).leaveWith _ _
  · exact h.keep (by simp)
  · exact (h.keep (by simp)).leaveWith _ _

theorem Runs.expireEntry {s w : State} (h : Runs s w) (tag : Nat) : Runs s (expireEntry tag w) := by
  unfold Machine.expireEntry
  (repeat' split)
  · exact h
  · exact h.leaveWith _ _
  · exact (h.keep (by simp)).leaveWith _ _
  · exact h
  · exact h

theorem Runs.sessionTaken_fold {α : Type} {f : State → α → State} (hf : ∀ {s w} a, Runs s w → Runs s (f w a)) (l : List α)
    {s w : State} (h : Runs s w) : Runs s (l.foldl f w) := by
  induction l generalizing w with
  | nil => exact h
  | cons a l ih => exact ih (hf a h)

theorem cancelTag_runs (tag : Nat) (s : State) : (cancelTag tag s).Runs s := by
  unfold cancelTag
  (repeat' split)
  · exact .taken ((Runs.refl s).removeEntry tag _)
  · exact .taken ((Runs.refl s).answerAwaiting tag _)
  · exact .refused _ _

theorem Runs.acknowledge {s w : State} (h : Runs s w) (tag : Nat) : Runs s (acknowledge tag w) := by
  unfold Machine.acknowledge
  split
  · exact h.answerAwaiting tag _
  · exact h.removeEntry tag _

theorem ackTag_runs (tag : Nat) (s : State) : (ackTag tag s).Runs s := by
  unfold ackTag
  split
  · exact .taken ((Runs.refl s).acknowledge tag)
  · exact .refused _ _

theorem mem_awaiting_held {s : State} {a : Awaiting} (h : a ∈ s.panel.awaiting) : a.tag ∈ s.held.awaiting :=
  List.mem_map_of_mem h

/-- A repeat that falls due moves its tag from the awaiting list into the queue (R176). -/
theorem makeRepeat_runs {s : State} {a : Awaiting} (hmem : a ∈ s.panel.awaiting) (hfull : s.capacity a.cls ≠ .full) :
    Runs s (makeRepeat a (s.capacity a.cls) s) := by
  obtain ⟨w, p, hw, hqueue, hawaiting, hroom, hclear⟩ := clear_held hfull
  have hjoined : Runs s (joinQueue (s.repeatEntry a) (dropAwaiting a.tag ((s.capacity a.cls).clear s))) := by
    refine hw.trans (.step (.again w.held p
      { s.repeatEntry a with made := (dropAwaiting a.tag ((s.capacity a.cls).clear s)).seq.madeCount }.standing hroom ?_ rfl) ?_)
    · rw [hawaiting]
      exact mem_awaiting_held hmem
    · rw [joinQueue_held, dropAwaiting_held, hclear]
      rfl
  exact Runs.report (hjoined.keep (by simp)) _

theorem repeatFallsDue_runs {s : State} {a : Awaiting} (hmem : a ∈ s.panel.awaiting) : Runs s (repeatFallsDue a s) := by
  unfold repeatFallsDue
  split
  · exact (Runs.refl s).answerAwaiting _ _
  · split
    · refine .of_held ?_
      rw [onPanel_held_awaiting, List.map_map]
      have htags : s.panel.awaiting.map (Awaiting.tag ∘ fun x =>
          if x.tag = a.tag then { x with repeatDue := s.after (a.repeatInterval * 1000) } else x) =
          s.panel.awaiting.map Awaiting.tag := by
        refine List.map_congr_left fun x _ => ?_
        simp only [Function.comp]
        split <;> rfl
      rw [htags]
      rfl
    next hfull => exact makeRepeat_runs hmem hfull

theorem repeatDueFor_runs (tag : Nat) (s : State) : Runs s (repeatDueFor tag s) := by
  unfold repeatDueFor
  split
  next a ha =>
    split
    · exact repeatFallsDue_runs (List.mem_of_find?_eq_some ha)
    · exact .refl s
  · exact .refl s

end Sys2Proof.Machine
end

section
/-! Every command moves what is held by moves, so that every step keeps the bounds of the stores, one holder a tag and one
record a peer (R3, R4, R5, R75). -/

namespace Sys2Proof.Machine
open Sys2Proof Host Safety

/-! The ends of a service. -/

theorem State.stopChime_speaking (s : State) : (stopChime s).speaking = s.speaking := rfl

theorem chimeEnds_runs (s : State) : Runs s (chimeEnds s) := by
  unfold chimeEnds
  split
  · split
    · dsimp only
      split
      next x hx =>
        have hmem : x.1.standing ∈ (stopChime s).held.queue := mem_standing (State.speaking_mem hx)
        split
        · exact Runs.endService (.of_held (by simp)) x.2 hmem
        · exact Runs.atBoundary (.of_held (by simp)) x.1 x.2 fun r st => by simp
      · exact .of_held (by simp)
    · exact .refl s
  · exact .refl s

theorem itemEnds_runs (s : State) : Runs s (itemEnds s) := by
  unfold itemEnds
  split
  · split
    · split
      next x hx =>
        split
        · exact Runs.endService (.of_held (by simp)) x.2 (mem_standing (s := s.setSpeech .idle) (State.speaking_mem hx))
        · exact (Runs.refl s).atBoundary x.1 x.2 fun r st => by simp
      · exact .refl s
    · exact .refl s
  · exact .refl s

theorem silentServiceEnds_runs (s : State) : Runs s (silentServiceEnds s) := by
  unfold silentServiceEnds
  split
  next e v he _ =>
    split
    · exact (Runs.refl s).endSilent (mem_standing (State.served_mem he))
    · exact .refl s
  · exact .refl s

theorem speakerFails_runs (kind : SpeakerFaultKind) (s : State) : Runs s (speakerFails kind s) := by
  have hstop (w : State) : Runs w (stopForFault w) := by
    unfold stopForFault
    (repeat' split)
    · exact (Runs.refl w).stopRemoved _ _
    · exact .of_held (by simp)
    · exact .refl w
  unfold speakerFails
  split
  · refine Runs.report (Runs.keep (Runs.trans ?_ (hstop _)) (latch_held _ _)) _
    exact .of_held (by simp)
  · exact .refl s

/-! The prompts that the part makes by itself. -/

theorem fire_runs {p : InternalPrompt} (s : State) (hrange : ∀ st : State, TagInRange (st.internalEntry p))
    (hhigh : 64 ≤ p.tag) : Runs s (fire p s) := (internalPrompt_runs s hrange hhigh).keep (by simp [fire])

theorem foldl_lowerMark_mem (l : List (Nat × Mark)) (a : Option (Nat × Mark)) {x : Nat × Mark}
    (h : l.foldl lowerMark a = some x) : x ∈ l ∨ a = some x := by
  induction l generalizing a with
  | nil => exact .inr h
  | cons y l ih =>
    rcases ih _ h with hx | hx
    · exact .inl (List.mem_cons_of_mem _ hx)
    · cases a with
      | none => exact .inl (List.mem_cons.mpr (.inl (Option.some.inj hx).symm))
      | some z =>
        simp only [lowerMark] at hx
        split at hx
        · exact .inl (List.mem_cons.mpr (.inl (Option.some.inj hx).symm))
        · exact .inr hx

theorem firingMark_le {marks : Four Mark} {old new i : Nat} (h : firingMark marks old new = some i) : i ≤ 3 := by
  obtain ⟨x, hx, rfl⟩ := Option.map_eq_some_iff.mp h
  rcases foldl_lowerMark_mem _ _ hx with hmem | hnone
  · have hlist := List.mem_of_mem_filter hmem
    simp only [List.mem_cons, List.not_mem_nil, or_false] at hlist
    rcases hlist with rfl | rfl | rfl | rfl <;> simp
  · cases hnone

theorem Runs.crossMarks {s w : State} (h : Runs s w) (old new : Nat) : Runs s (crossMarks old new w) := by
  unfold Machine.crossMarks
  dsimp only
  split
  next i hi =>
    have hlow := firingMark_le hi
    refine h.trans (Runs.trans (.of_held (by simp)) (fire_runs _ (fun st => ?_) ?_))
    · exact .inr (.inr (.inl ⟨rfl, Nat.le_add_right .., Nat.add_le_add_left hlow 68, rfl⟩))
    · exact Nat.le_trans (by decide) (Nat.le_add_right 68 i)
  · exact h.keep (by simp)

theorem progressTaken_runs (remaining : Nat) (running : Bool) (s : State) : Runs s (progressTaken remaining running s) :=
  ((Runs.refl s).crossMarks s.rem.estimate remaining).keep (by simp [progressTaken])

theorem decrement_runs (s : State) : Runs s (decrement s) := by
  unfold decrement
  split
  · split
    · split
      · exact .of_held (by simp)
      · exact Runs.keep (Runs.crossMarks (w := s.onRem fun u => { u with estimate := s.rem.estimate - 1 }) (.of_held (by simp))
          s.rem.estimate (s.rem.estimate - 1)) (by simp)
    · exact .refl s
  · exact .refl s

theorem slotFires_runs (n : Nat) (s : State) : Runs s (slotFires n s) := by
  unfold slotFires
  by_cases hn : n ≤ 3
  · rw [if_pos hn]
    split
    next r _ =>
      split
      · refine Runs.keep (fire_runs s (p := slotPrompt n r) (fun st => ?_) (Nat.le_add_right 64 n)) (by simp)
        exact .inr (.inl ⟨rfl, Nat.le_add_right .., Nat.add_le_add_left hn 64, rfl⟩)
      · exact .refl s
    · exact .refl s
  · rw [if_neg hn]
    exact .refl s

theorem keyPrompt_runs {p : InternalPrompt} (s : State) (horigin : p.origin = .key) (hlow : 72 ≤ p.tag) (hhigh : p.tag ≤ 74) :
    Runs s (internalPrompt p s) :=
  internalPrompt_runs s (fun _ => .inr (.inr (.inr ⟨horigin, hlow, hhigh, rfl⟩))) (by omega)

/-! The panel. -/

theorem Runs.fold {α : Type} {f : State → α → State} (hf : ∀ {s w} a, Runs s w → Runs s (f w a)) (l : List α) {s w : State}
    (h : Runs s w) : Runs s (l.foldl f w) := by
  induction l generalizing w with
  | nil => exact h
  | cons a l ih => exact ih (hf a h)

theorem Runs.endSession {s w : State} (h : Runs s w) : Runs s (endSession w) := by
  have hqueued : Runs s (removeQueued w) := 
    h.fold (f := fun acc tag => Machine.removeEntry tag .cancelled acc) (fun tag h => Runs.removeEntry h tag .cancelled) w.sessionTags
  have hserved : Runs s (removeServed (removeQueued w)) := by
    unfold removeServed
    (repeat' split)
    · exact hqueued.removeEntry _ _
    · exact hqueued
    · exact hqueued
  have hawaiting : Runs s (clearAwaiting (removeServed (removeQueued w))) := 
    hserved.fold (f := fun acc tag => Machine.answerAwaiting tag .cleared acc) (fun tag h => Runs.answerAwaiting h tag .cleared) _
  exact hawaiting.keep (by simp [Machine.endSession])

theorem sessionTaken_runs (c : SessionCue) (s : State) : Runs s (sessionTaken c s) := by
  cases c with
  | end_ => exact (Runs.refl s).endSession
  | begin_ language =>
    have hended : Runs s (if s.panel.inSession then endSession s else s) := by
      split
      · exact (Runs.refl s).endSession
      · exact .refl s
    exact hended.keep (by simp [sessionTaken, beginSession])

theorem Runs.actLang {s w : State} (h : Runs s w) (long : Bool) : Runs s (actLang long w) := by
  have hasked (l : Nat) : Runs w (internalPrompt langPrompt (lookUpPhase (w.onPanel fun p => { p with language := l }))) :=
    Runs.trans (.of_held (by simp)) (keyPrompt_runs (p := langPrompt) _ rfl (by decide) (by decide))
  unfold Machine.actLang
  extract_lets chosen
  split
  · exact h.trans (hasked chosen)
  · exact h

theorem Runs.pressAction {s w : State} (h : Runs s w) (k : Key) : Runs s (pressAction k w) := by
  cases k with
  | rep =>
    rw [Machine.pressAction, actRepeat]
    split
    next r _ => exact h.trans (keyPrompt_runs _ rfl (Nat.le_refl 72) (by simp))
    · exact h
  | hlp =>
    rw [Machine.pressAction, actHelp]
    split
    next t _ => exact h.trans (keyPrompt_runs _ rfl (by simp) (by simp))
    · exact h
  | lng => exact h
  | vdn => exact h.keep (stepVolume_held false w)
  | vup => exact h.keep (stepVolume_held true w)
  | ok =>
    rw [Machine.pressAction, actOk]
    split
    · exact h.acknowledge _
    · exact h

theorem Runs.pressKey {s w : State} (h : Runs s w) (k : Key) : Runs s (pressKey k w) := by
  unfold Machine.pressKey
  split
  · refine Runs.keep (Runs.pressAction (w := askClick (w.clickVolume k) (pressActivity w)) (h.keep ?_) k) (by simp)
    simp [pressActivity]
  · exact h

theorem Runs.classifyPress {s w : State} (h : Runs s w) (k : Key) (long : Bool) : Runs s (classifyPress k long w) := by
  unfold Machine.classifyPress
  split
  · exact (h.actLang long).report _
  · exact h.report _

theorem Runs.keyComesUp {s w : State} (h : Runs s w) (k : Key) : Runs s (keyComesUp k w) := by
  unfold Machine.keyComesUp
  split
  · exact h
  · exact (h.keep (by simp)).classifyPress k _
  · exact h.keep (by simp)
  · exact h.keep (by simp)

theorem releaseKey_runs (k : Key) (s : State) : Runs s (releaseKey k s) := by
  unfold releaseKey
  split
  · exact ((Runs.refl s).keyComesUp k).keep (by simp)
  · exact .refl s

theorem holdKey_runs (k : Key) (s : State) : Runs s (holdKey k s) := by
  unfold holdKey
  (repeat' split)
  · exact Runs.classifyPress (.of_held (by simp)) k true
  · exact .refl s
  · exact .refl s

/-! Sleep and the wake. -/

theorem Runs.wakeUp {s w : State} (h : Runs s w) : Runs s (wakeUp w) := by
  have hcleared : Moves w.held { w.held with peers := [], ring := [] } :=
    Moves.trans (Move.forget w.held).moves (Move.sample _ [] (fun _ => by simp)).moves
  have hview (x : State) : (clearView x).held = { x.held with peers := [] } := rfl
  have hring (x : State) (tm : Option Timer) :
      (x.onLevel fun l => { l with ring := [], hold := .open_, sampleDue := tm }).held = { x.held with ring := [] } := rfl
  refine h.trans ?_
  unfold Machine.wakeUp Runs
  dsimp only
  rw [State.onRem_held, hring, wakeHall_held, hview, State.onPower_held, setMode_held]
  exact hcleared

theorem Runs.wakeIfAsleep {s w : State} (h : Runs s w) : Runs s (wakeIfAsleep w) := by
  unfold Machine.wakeIfAsleep
  split
  · exact h
  · exact h.wakeUp

/-! The hall line. -/

theorem insertPeer_stations (p : Peer) (l : List Peer) :
    (insertPeer p l).map Peer.station = (l.map Peer.station).orderedInsert (· < ·) p.station := by
  induction l with
  | nil => rfl
  | cons x xs ih =>
    rw [insertPeer, List.map_cons, List.orderedInsert]
    split
    · rfl
    · rw [List.map_cons, ih]

/-- A station number that a good frame of a peer can carry. -/
def PeerNumber (s : State) (n : Nat) : Prop := 1 ≤ n ∧ n ≤ 31 ∧ n ≠ s.held.station

theorem hearPeer_runs {n : Nat} {s : State} (hn : PeerNumber s n) (zone : Nat) (presence : Presence) :
    Runs s (hearPeer n zone presence s) := by
  unfold hearPeer
  split
  next hnone =>
    have hnew : n ∉ s.held.peers := by
      rw [State.peer, List.find?_eq_none] at hnone
      simpa [State.held] using hnone
    refine .step (.hear s.held n hn.1 hn.2.1 hn.2.2 hnew) ?_
    rw [show s.held.peers.orderedInsert (· < ·) n = (insertPeer (newPeer n zone s.now presence) s.floor.peers).map Peer.station from
      (insertPeer_stations (newPeer n zone s.now presence) s.floor.peers).symm]
    rfl
  · exact .of_held (by simp)

theorem handedOver_runs {f : HallFrame} {s : State} (hn : PeerNumber s f.station.toNat) : Runs s (handedOver f s) := by
  cases f with
  | claim c =>
    unfold handedOver hearClaim
    dsimp only
    split <;> exact (hearPeer_runs hn c.zone.toNat .present).keep (by simp [HallFrame.station])
  | release r =>
    unfold handedOver hearRelease
    dsimp only
    have hheard : Runs s (hearPeer r.station.toNat r.zone.toNat .present s) := hearPeer_runs hn r.zone.toNat .present
    (repeat' split)
    · exact hheard.keep (by simp)
    · exact hheard
    · exact hheard
  | presence p =>
    unfold handedOver hearPresence
    dsimp only
    split
    · exact (hearPeer_runs hn p.zone.toNat .asleep).keep (by simp [HallFrame.station])
    · exact (hearPeer_runs hn p.zone.toNat .present).keep (by simp [HallFrame.station])

theorem enterFault_runs {s w : State} (h : Runs s w) (cause : FaultCause) : Runs s (enterFault cause w) :=
  (Runs.tellFault (w := floorFault (w.onHall (HallPort.faulted w.now cause))) (h.keep (by simp)) cause).keep (by simp [enterFault])

theorem Runs.duplicateHeard {s w : State} (h : Runs s w) : Runs s (duplicateHeard w) := by
  unfold Machine.duplicateHeard
  split
  · exact h
  · exact h
  · exact (h.keep (by simp)).tellFault _
  · exact enterFault_runs h _

theorem station_of_good {f : HallFrame} (h : f.good = true) : 1 ≤ f.station.toNat ∧ f.station.toNat ≤ 31 := by
  have hne : f.station ≠ 0#5 := by cases f <;> simp_all [HallFrame.good, HallFrame.station]
  have hpos : f.station.toNat ≠ 0 := fun h0 => hne (BitVec.eq_of_toNat_eq h0)
  have hlt : f.station.toNat < 32 := f.station.isLt
  omega

theorem Runs.frameGood {s w : State} (h : Runs s w) {f : HallFrame} (hgood : f.good = true) : Runs s (frameGood f w) := by
  obtain ⟨hlow, hhigh⟩ := station_of_good hgood
  unfold Machine.frameGood
  dsimp only
  split
  · exact (h.keep (by simp)).duplicateHeard
  next hother => exact (h.keep (by simp)).trans (handedOver_runs ⟨hlow, hhigh, hother⟩)

theorem good_of_judge {bits : List Bool} {f : HallFrame} (h : judge bits = .good f) : f.good = true := by
  unfold judge at h
  split at h
  · cases h
  · (repeat' split at h) <;> simp_all

theorem frameHeard_runs (f : HallFrame) (s : State) : Runs s (frameHeard f s) := by
  unfold frameHeard
  (repeat' split)
  next hgood => exact (Runs.refl s).frameGood hgood
  · exact .of_held (by simp)
  · exact .refl s

theorem bitsHeard_runs (bits : List Bool) (s : State) : Runs s (bitsHeard bits s) := by
  unfold bitsHeard
  split
  · split
    next f hf => exact (Runs.refl s).frameGood (good_of_judge hf)
    · exact .of_held (by simp)
    · exact .of_held (by simp)
  · exact .refl s

theorem Runs.restHeard {s w : State} (h : Runs s w) (rest : Option (List Bool)) : Runs s (restHeard rest w) := by
  unfold Machine.restHeard
  split
  · split
    · exact h
    · split
      next f hf =>
        split
        · exact h.frameGood (good_of_judge hf)
        · exact h
      · exact h.keep (by simp)
      · exact h.keep (by simp)
  · exact h

theorem bitErrs_runs (rest : Option (List Bool)) (s : State) : Runs s (bitErrs rest s) := by
  have hrun (w : State) (h : Runs s w) : Runs s (faultAtRun w) := by
    unfold faultAtRun
    split
    · exact enterFault_runs h _
    · exact h
  unfold bitErrs
  split
  · exact (hrun _ (.of_held (by simp))).restHeard rest
  · exact .refl s

theorem ownPresenceGoes_runs (s : State) : Runs s (ownPresenceGoes s) := by
  unfold ownPresenceGoes
  split
  · exact Runs.report (.of_held (by simp)) _
  · exact .of_held (by simp)
  · exact .of_held (by simp)
  · exact .refl s

theorem lineSticks_runs (s : State) : Runs s (lineSticks s) := by
  unfold lineSticks
  dsimp only
  (repeat' split)
  · exact .refl s
  · exact .refl s
  · exact .of_held (by simp)
  · exact .of_held (by simp)
  · exact enterFault_runs (.of_held (by simp)) _

/-! The cue link. -/

theorem Moves.emptied (h : Held) : Moves h { h with queue := [], awaiting := [], reports := h.reports.take 1 } := by
  have hqueue : Move h { h with queue := [] } := by simpa using Move.leave h fun _ => false
  have hawaiting : Move { h with queue := [] } { h with queue := [], awaiting := [] } := by
    simpa using Move.answer { h with queue := [] } fun _ => false
  refine (hqueue.moves.trans hawaiting.moves).trans (Move.tell { h with queue := [], awaiting := [] } _ ?_ ?_).moves
  · intro hl
    rw [List.length_take]
    exact (Nat.min_le_left ..).trans (by decide)
  · intro _ hnil
    rw [show h.reports = [] from hnil]
    rfl

theorem softReset_runs (down : Keys Bool) (s : State) : Runs s (softReset down s) := by
  refine Runs.sayHello (.trans (w := softResetFloor s) (.of_held (softResetFloor_held s)) ?_)
  exact Moves.emptied (softResetFloor s).held

theorem withFields_runs {α : Type} {s : State} {fields : Option α} {handle : α → Handled}
    (h : ∀ x, fields = some x → (handle x).Runs s) : (withFields fields handle).Runs s := by
  cases fields with
  | none => exact .refused _ _
  | some x => exact h x rfl

theorem promptFields_tag {p : List Byte} {c : PromptCue} (h : promptFields p = some c) : 1 ≤ c.tag ∧ c.tag ≤ 63 := by
  unfold promptFields at h
  split at h
  · cases h
  next hok =>
    cases h
    exact (tagOk_iff _).mp (by simpa using (not_or.mp hok).1)

theorem handleCue_runs (down : Keys Bool) (type : Byte) (payload : List Byte) (s : State) :
    (handleCue down type payload s).Runs s := by
  unfold handleCue
  split
  · unfold handleConfigure
    split
    · exact .refused _ _
    · exact withFields_runs fun c _ => .taken (.of_held (by simp))
  · exact withFields_runs fun c _ => .taken (sessionTaken_runs c s)
  · exact withFields_runs fun c _ => .taken (.of_held (by simp))
  · exact withFields_runs fun c _ => .taken (progressTaken_runs _ _ s)
  · exact withFields_runs fun c hc => enqueuePrompt_runs (promptFields_tag hc) s
  · exact withFields_runs fun c _ => cancelTag_runs c s
  · exact withFields_runs fun c _ => ackTag_runs c s
  · exact withFields_runs fun c _ => .taken (.of_held (by simp))
  · exact withFields_runs fun c _ => .taken (.of_held (by simp))
  · exact withFields_runs fun c _ => .taken (.of_held (by simp))
  · unfold handleSleep
    split
    · exact .taken (.of_held (by simp))
    · exact .refused _ _
  · unfold handleSelftest
    split
    · exact .taken (.of_held (by simp))
    · exact .refused _ _
  · refine withFields_runs fun c _ => .taken (Runs.reportAll ?_ _)
    split <;> exact .of_held (by simp)
  · exact .taken (softReset_runs down s)
  · exact .refused _ _

theorem takeCue_runs (down : Keys Bool) (type : Byte) (payload : List Byte) (s : State) :
    Runs s (takeCue down type payload s) := by
  have hcheck : (checkCue down type payload (cueActivity type payload s)).Runs (cueActivity type payload s) := by
    unfold checkCue
    (repeat' split)
    · exact .refused _ _
    · exact handleCue_runs down type payload _
    · exact .refused _ _
  have hactive : Runs s (cueActivity type payload s) := .of_held (by simp)
  unfold takeCue
  dsimp only
  split
  next u hu => exact (hactive.trans (hcheck u hu)).keep (by simp)
  · exact hactive.refuse _ _ _

theorem receive_held (now : Nat) (b : Byte) (s : State) : (s.onLink fun _ => (s.link.receive now b).1).held = s.held := by
  unfold CueLink.receive
  (repeat' split) <;> rfl

theorem Runs.receiveByte {s w : State} (h : Runs s w) (down : Keys Bool) (b : Byte) : Runs s (receiveByte down w b) := by
  have htaken : Runs s ((dropStale (Machine.wakeIfAsleep w)).onLink fun _ =>
      ((dropStale (Machine.wakeIfAsleep w)).link.receive (dropStale (Machine.wakeIfAsleep w)).now b).1) :=
    (h.wakeIfAsleep.keep (dropStale_held _)).keep (receive_held _ b _)
  unfold Machine.receiveByte
  dsimp only
  (repeat' split)
  · exact htaken.trans (takeCue_runs ..)
  · exact htaken
  · exact h

theorem Runs.receiveBytes {s w : State} (h : Runs s w) (down : Keys Bool) (bs : List Byte) : Runs s (receiveBytes down bs w) :=
  h.fold (fun b h => h.receiveByte down b) bs

theorem cueArrives_runs (down : Keys Bool) (type : Byte) (payload trail : List Byte) (s : State) :
    Runs s (cueArrives down type payload trail s) := Runs.receiveBytes (.of_held (by simp)) down _

theorem frameDiscarded_runs (rx : List Byte) (last : Byte) (badStop : Bool) (s : State) :
    Runs s (frameDiscarded rx last badStop s) := by
  have hbytes := (Runs.refl s).receiveBytes s.keysDown rx
  unfold frameDiscarded
  dsimp only
  split
  · unfold badStopHeard
    split
    · exact hbytes.wakeIfAsleep.keep (by simp)
    · exact hbytes
  · exact hbytes.receiveByte _ last

theorem gapHeard_runs (t : Nat) (rx : List Byte) (s : State) : Runs s (gapHeard t rx s) :=
  (Runs.receiveBytes (w := s.arrive (t - Config.interByte)) (.of_held rfl) s.keysDown rx).keep (by simp [gapHeard])

/-! The outputs and the start-up. -/

theorem sampleDue_runs (reading : Int) (s : State) : Runs s (sampleDue reading s) := by
  unfold sampleDue
  split
  · split
    · refine .step (.sample s.held (if s.level.hold = .open_ then pushSample s.level.ring (clampReading reading) else s.level.ring)
        fun hl => ?_) rfl
      split
      · exact pushSample_length _ hl
      · exact hl
    · exact .refl s
  · exact .refl s

theorem storeCheckEnds_runs (s : State) : Runs s (storeCheckEnds s) := by
  unfold storeCheckEnds
  split
  · exact Runs.helloIfChecked (.of_held (by simp))
  · exact .refl s

theorem speakerCheckEnds_runs (milliohms : Nat) (s : State) : Runs s (speakerCheckEnds milliohms s) := by
  unfold speakerCheckEnds
  (repeat' split)
  · exact ((Runs.refl s).endCheck _ _ _).helloIfChecked
  · exact .refl s
  · exact .refl s

theorem checkOvercurrent_runs (s : State) : Runs s (checkOvercurrent s) := by
  unfold checkOvercurrent
  split
  · exact ((Runs.refl s).endCheck _ _ _).helloIfChecked
  · exact .refl s

/-! Every command. -/

theorem whileAwake_runs {f : State → State} (h : ∀ s, Runs s (f s)) {t : Nat} {s u : State}
    (hu : whileAwake t f s = .next u) : Runs s u := by
  unfold whileAwake at hu
  split at hu <;> cases hu
  · exact Runs.trans (.of_held (by simp)) (h (s.arrive t))
  · exact .of_held (by simp)

theorem concluding_runs {f : State → State} (h : ∀ s, Runs s (f s)) {t : Nat} {s u : State}
    (hu : concluding t f s = .next u) : Runs s u := whileAwake_runs (fun s => (h s).keep (conclude_held _)) hu

theorem hearCue_runs {t : Nat} {down : Keys Bool} {type : Byte} {payload trail : List Byte} {s u : State}
    (hu : hearCue t down type payload trail s = .next u) : Runs s u := by
  cases hu
  exact (Runs.trans (.of_held (by simp)) (cueArrives_runs down type payload trail (s.arrive t))).keep (conclude_held _)

theorem inputWakes_runs (k : Key) (s : State) : Runs s (inputWakes k s) := ((Runs.refl s).keyComesUp k).keep (by simp [inputWakes])

theorem Runs.wakeByKey {s w : State} (h : Runs s w) (k : Key) : Runs s (wakeByKey k w) := by
  unfold Machine.wakeByKey
  split
  · exact h
  · exact h.wakeUp.trans (inputWakes_runs k _)

theorem execKeyPress_runs {t : Nat} {k : Key} {s u : State} (hu : execKeyPress t k s = .next u) : Runs s u := by
  cases hu
  have hwoken : Runs s (wokenFor t k s) := by
    unfold wokenFor
    split
    · exact .refl s
    · exact (Runs.wakeByKey (w := s.arrive (t - Config.debounce)) (.of_held (by simp)) k).keep (conclude_held _)
  exact (Runs.pressKey (w := (wokenFor t k s).arrive t) (hwoken.keep (by simp)) k).keep (conclude_held _)

theorem execWake_runs {t : Nat} {cause : WakeCause} {s u : State} (hu : execWake t cause s = .next u) : Runs s u := by
  have harrived : Runs s (s.arrive t) := .of_held (by simp)
  cases cause <;> cases hu
  · exact harrived.wakeIfAsleep.keep (conclude_held _)
  · exact (harrived.wakeByKey _).keep (conclude_held _)

theorem exec_runs {c : Instr} {s u : State} (h : exec c s = .next u) : Runs s u := by
  cases c with
  | powerOnReset t station zone down flash =>
    cases h
    exact .step (.reset s.held station.toNat) rfl
  | storeCheckEnd t => exact concluding_runs storeCheckEnds_runs h
  | speakerCheckEnd t m => exact concluding_runs (speakerCheckEnds_runs m) h
  | speakerCheckOvercurrent t => exact concluding_runs checkOvercurrent_runs h
  | warmUpEnd t => exact concluding_runs (fun s => .of_held (by simp)) h
  | speakerFault t kind => exact concluding_runs (speakerFails_runs kind) h
  | configure | sessionBegin | sessionEnd | phase | progress | prompt | cancel | ack | mask | remind | remindClear | quiet
  | sleep | selftest | status | reset | unknownCue => exact hearCue_runs h
  | cueFrameDiscard t rx last badStop =>
    cases h
    exact (Runs.trans (.of_held (by simp)) (frameDiscarded_runs rx last badStop (s.arrive t))).keep (conclude_held _)
  | interByteTimeout t rx =>
    cases h
    exact (gapHeard_runs t rx s).keep (conclude_held _)
  | reportSent t =>
    cases h
    exact Runs.reportLeaves (.of_held (by simp))
  | peerClaim t f => exact concluding_runs (frameHeard_runs _) h
  | peerRelease t f => exact concluding_runs (frameHeard_runs _) h
  | peerPresence t f => exact concluding_runs (frameHeard_runs _) h
  | badFrame t bits => exact concluding_runs (bitsHeard_runs bits) h
  | bitError t rest => exact concluding_runs (bitErrs_runs rest) h
  | stuckLine t => exact concluding_runs lineSticks_runs h
  | ownPresenceSent t => exact concluding_runs ownPresenceGoes_runs h
  | deadline t tag => exact concluding_runs (fun s => (Runs.refl s).expireEntry tag) h
  | chimeEnd t => exact concluding_runs chimeEnds_runs h
  | itemEnd t => exact concluding_runs itemEnds_runs h
  | silentServiceEnd t => exact concluding_runs silentServiceEnds_runs h
  | repeatDue t tag => exact concluding_runs (repeatDueFor_runs tag) h
  | ambientSample t reading => exact whileAwake_runs (sampleDue_runs reading) h
  | estimateDecrement t => exact concluding_runs decrement_runs h
  | slotFiring t n => exact concluding_runs (slotFires_runs n) h
  | keyPress t k => exact execKeyPress_runs h
  | keyRelease t k => exact concluding_runs (releaseKey_runs k) h
  | keyLong t k => exact concluding_runs (holdKey_runs k) h
  | wake t cause => exact execWake_runs h
  | clickEnd t =>
    cases h
    exact .of_held (by simp)
  | frameStart | heartbeat | phraseReadTimeout | toneStepEnd | scrollStep | blinkPhase | sampleHoldSettled | dimDeadline
  | standbyDeadline | lineIdle | waitBucketStep => exact whileAwake_runs (fun s => .of_held (by simp)) h
  | arbitrationLoss | ownClaimSent | ownReleaseSent | listenInEnd | recoveryAttempt | recoveryTimeout | finalPresenceTimeout
  | peerLost | claimExpiry | settleWindowEnd | turnGapEnd | itemGapEnd =>
    exact concluding_runs (fun s => .of_held (by simp)) h

theorem step_runs {s u : State} (h : step s = .next u) : Runs s u := by
  unfold step at h
  split at h
  · cases h
    exact .refl s
  next i rest _ => exact Runs.trans (.of_held (by simp)) (exec_runs h)

/-- Settles O4: a step is a chain of moves, and each move keeps each of the three invariants. -/
theorem stepKeepsStores : Obligations.StepKeepsStores := by
  refine ⟨fun s u hs h => ?_, fun s u hs h => ?_, fun s u hs h => ?_⟩
  · exact (storesBounded_iff u).mpr (Moves.keeps Move.keeps_bounded (step_runs h) ((storesBounded_iff s).mp hs))
  · exact (tagsHeldOnce_iff u).mpr (Moves.keeps Move.keeps_tagsOnce (step_runs h) ((tagsHeldOnce_iff s).mp hs))
  · exact (oneRecordEach_iff u).mpr (Moves.keeps Move.keeps_oneEach (step_runs h) ((oneRecordEach_iff s).mp hs))

/-- Settles O7: at reset every list is empty, every counter 0 and every value the one of R165 or R193. -/
theorem resetMeetsInvariants : Obligations.ResetMeetsInvariants := by
  refine ⟨?_, ?_, ?_, ?_, ?_, nofun, State.reset_flash_wf⟩
  · unfold CountersBounded counter
    decide
  · exact ⟨by decide, by decide, by decide, by decide, by decide, fun _ => rfl, List.Pairwise.nil⟩
  · exact ⟨List.nodup_nil, nofun, nofun⟩
  · exact ⟨List.Pairwise.nil, nofun⟩
  · exact ⟨nofun, by decide, by decide, by decide, by decide⟩

end Sys2Proof.Machine
end

section
/-! What stands beside the service of the prompts: one projection, which the operations of the queue, the panel and the floor
leave as it is (R18, R182), and what follows a command (`conclude`) field by field. -/

namespace Sys2Proof.Machine
open Sys2Proof Host Safety

/-- The blocks beside the service, each without what a service changes. -/
structure Apart where
  line : HallPort
  peers : List Peer
  rem : ReminderUnit
  link : CueLink
  store : PhraseStore
  level : List Nat × Option Timer × Bool
  speaker : Check × SpeakerResult × Nat × Nat
  status : Option PhaseIds × List Byte × Bool × Nat × Bool

/-- The cue link without its reports and its latches. -/
def CueLink.settled (l : CueLink) : CueLink :=
  { l with reports := [], early := [], reportsLost := 0, latches := Latches.clear }

def State.apart (s : State) : Apart where
  line := s.hall.besideList
  peers := s.floor.peers
  rem := s.rem
  link := s.link.settled
  store := s.store.besideCounters
  level := s.level.sampling
  speaker := s.power.speaker
  status := s.display.statusLine

theorem apart_of_outside {s u : State} (h : u.outside = s.outside) (hpeers : u.floor.peers = s.floor.peers) :
    u.apart = s.apart := by
  simp only [State.outside, Prod.mk.injEq] at h
  obtain ⟨hhall, hrem, -, hlink, -, hstore, hlevel, hspeaker, hstatus⟩ := h
  have hsettled : u.link.settled = s.link.settled := by
    rw [show u.link.settled = u.link.besideLatches.settled from rfl, hlink]
    rfl
  simp [State.apart, hhall, hpeers, hrem, hsettled, hstore, hlevel, hspeaker, hstatus]

theorem apart_of_besideOutput {s u : State} (h : u.besideOutput = s.besideOutput) : u.apart = s.apart :=
  apart_of_outside (State.outside_eq_of_besideOutput h) (congrArg FloorUnit.peers (State.floor_eq_of_besideOutput h))

/-! The clauses that a projection gives. -/

section
variable {s u : State}

theorem lineKept_of_apart (h : u.apart.line = s.apart.line) : LineKept s u := by
  simp only [State.apart, HallPort.besideList, HallPort.mk.injEq] at h
  simp_all [LineKept]

theorem settings_framer_of_apart (h : u.apart.link = s.apart.link) : SettingsKept s u ∧ FramerKept s u := by
  simp only [State.apart, CueLink.settled, CueLink.mk.injEq] at h
  simp_all [SettingsKept, FramerKept]

theorem storeKept_of_apart (h : u.apart.store = s.apart.store) : StoreKept s u := by
  simp only [State.apart, PhraseStore.besideCounters, PhraseStore.mk.injEq] at h
  simp_all [StoreKept]

theorem levelKept_of_apart (h : u.apart.level = s.apart.level) : LevelKept s u := by
  simpa [State.apart, LevelUnit.sampling, LevelKept] using h

theorem speakerKept_of_apart (h : u.apart.speaker = s.apart.speaker) : SpeakerKept s u := by
  simpa [State.apart, Power.speaker, SpeakerKept] using h

theorem statusLineKept_of_apart (h : u.apart.status = s.apart.status) : StatusLineKept s u := by
  simpa [State.apart, Display.statusLine, StatusLineKept] using h

theorem estimateKept_of_rem (h : u.rem = s.rem) : EstimateKept s u := by simp [EstimateKept, h]

theorem besidesServiceKept_of_apart (h : u.apart = s.apart) : BesidesServiceKept s u := by
  obtain ⟨hsettings, hframer⟩ := settings_framer_of_apart (congrArg Apart.link h)
  exact ⟨lineKept_of_apart (congrArg _ h), congrArg Apart.peers h, congrArg Apart.rem h, hsettings, hframer,
    storeKept_of_apart (congrArg _ h), levelKept_of_apart (congrArg _ h), speakerKept_of_apart (congrArg _ h),
    statusLineKept_of_apart (congrArg _ h)⟩

end

/-! What an update of one block leaves of it. -/

@[simp] theorem State.onSeq_apart (f : Sequencer → Sequencer) (s : State) : (s.onSeq f).apart = s.apart := rfl
@[simp] theorem State.onPanel_apart (f : Panel → Panel) (s : State) : (s.onPanel f).apart = s.apart := rfl
@[simp] theorem State.onTone_apart (f : ToneUnit → ToneUnit) (s : State) : (s.onTone f).apart = s.apart := rfl
@[simp] theorem State.setSpeech_apart (x : Speech) (s : State) : (s.setSpeech x).apart = s.apart := rfl
@[simp] theorem State.onOwn_apart (f : OwnFloor → OwnFloor) (s : State) : (s.onOwn f).apart = s.apart := rfl
@[simp] theorem State.arrive_apart (t : Nat) (s : State) : (s.arrive t).apart = s.apart := rfl

@[simp] theorem State.onRem_apart (f : ReminderUnit → ReminderUnit) (s : State) :
    (s.onRem f).apart = { s.apart with rem := f s.rem } := rfl

theorem State.onPower_apart {f : Power → Power} {s : State} (h : (f s.power).speaker = s.power.speaker) :
    (s.onPower f).apart = s.apart := by
  simp [State.apart, h]

@[simp] theorem State.onHall_txList_apart (l : HallPort → List TxEntry) (s : State) :
    (s.onHall fun h => { h with txList := l h }).apart = s.apart := rfl

@[simp] theorem State.onHall_recovery_apart (r : Recovery) (s : State) :
    (s.onHall fun h => { h with recovery := r }).apart = s.apart := rfl

@[simp] theorem State.onFloor_apart {f : FloorUnit → FloorUnit} {s : State} (h : ∀ u, (f u).peers = u.peers) :
    (s.onFloor f).apart = s.apart := by
  simp [State.apart, h]

theorem State.onLink_apart {f : CueLink → CueLink} {s : State} (h : (f s.link).settled = s.link.settled) :
    (s.onLink f).apart = s.apart := by
  simp [State.apart, h]

/-! The operations that leave it, in the order of the model. -/

@[simp] theorem report_apart (r : Report) (s : State) : (report r s).apart = s.apart := by
  refine State.onLink_apart ?_
  unfold CueLink.join CueLink.hold CueLink.lose
  (repeat' split) <;> rfl

@[simp] theorem reportDone_apart (origin : Origin) (tag : Nat) (outcome : DoneOutcome) (s : State) :
    (reportDone origin tag outcome s).apart = s.apart := by
  unfold reportDone
  split <;> simp

@[simp] theorem latch_apart (f : Latches → Latches) (s : State) : (latch f s).apart = s.apart := rfl
@[simp] theorem readFailed_apart (n : Nat) (s : State) : (readFailed n s).apart = s.apart := rfl
@[simp] theorem endAnnouncing_apart (s : State) : (endAnnouncing s).apart = s.apart := rfl
@[simp] theorem activity_apart (s : State) : (activity s).apart = s.apart := apart_of_besideOutput (activity_besideOutput s)

@[simp] theorem askClick_apart (vs : Nat) (s : State) : (askClick vs s).apart = s.apart := by
  unfold askClick
  split <;> simp

@[simp] theorem changeEntry_apart (tag : Nat) (f : Entry → Entry) (s : State) : (changeEntry tag f s).apart = s.apart := rfl
@[simp] theorem dropRepeat_apart (tag : Nat) (s : State) : (dropRepeat tag s).apart = s.apart := rfl
@[simp] theorem dropEntry_apart (tag : Nat) (s : State) : (dropEntry tag s).apart = s.apart := rfl
@[simp] theorem joinQueue_apart (e : Entry) (s : State) : (joinQueue e s).apart = s.apart := rfl
@[simp] theorem countDrop_apart (s : State) : (countDrop s).apart = s.apart := rfl
@[simp] theorem changeService_apart (f : Service → Service) (s : State) : (changeService f s).apart = s.apart := rfl
@[simp] theorem emptySlot_apart (s : State) : (emptySlot s).apart = s.apart := rfl

@[simp] theorem evict_apart (v : Entry) (s : State) : (evict v s).apart = s.apart := by
  unfold evict
  dsimp only
  split <;> simp

@[simp] theorem Capacity.clear_apart (c : Capacity) (s : State) : (c.clear s).apart = s.apart := by
  unfold Capacity.clear
  split <;> simp

@[simp] theorem returnToQueue_apart (s : State) : (returnToQueue s).apart = s.apart :=
  apart_of_besideOutput (returnToQueue_besideOutput s)

@[simp] theorem applyLevel_apart (r : LevelResult) (s : State) : (applyLevel r s).apart = s.apart :=
  apart_of_besideOutput (applyLevel_besideOutput r s)

@[simp] theorem startItem_apart (items : List ScriptItem) (i : Nat) (s : State) : (startItem items i s).apart = s.apart :=
  apart_of_besideOutput (startItem_besideOutput items i s)

@[simp] theorem handFrame_apart (f : TxFrame) (s : State) : (handFrame f s).apart = s.apart :=
  apart_of_outside (handFrame_outside f s) (by rw [handFrame_floor])

@[simp] theorem releaseWithdrawn_apart (seq : Nat) (s : State) : (releaseWithdrawn seq s).apart = s.apart := by
  simp [releaseWithdrawn]

@[simp] theorem claimLost_apart (s : State) : (claimLost s).apart = s.apart := by simp [claimLost]

@[simp] theorem promotePending_apart (s : State) : (promotePending s).apart = s.apart := by
  unfold promotePending
  split <;> simp

@[simp] theorem claimUnsent_apart (s : State) : (claimUnsent s).apart = s.apart := by
  unfold claimUnsent
  dsimp only
  (repeat' split) <;> simp

@[simp] theorem takeBack_apart (why : TakenBack) (s : State) : (takeBack why s).apart = s.apart := by
  unfold takeBack
  dsimp only
  split <;> simp

@[simp] theorem withdraw_apart (s : State) : (withdraw s).apart = s.apart := by
  unfold withdraw
  dsimp only
  (repeat' split) <;> simp

@[simp] theorem releaseFloor_apart (outcome : ReleaseOutcome) (s : State) : (releaseFloor outcome s).apart = s.apart := by
  unfold releaseFloor
  split <;> simp

@[simp] theorem leaveWith_apart (e : Entry) (outcome : DoneOutcome) (s : State) : (leaveWith e outcome s).apart = s.apart := by
  simp [leaveWith]

@[simp] theorem stopRemoved_apart (e : Entry) (outcome : DoneOutcome) (s : State) :
    (stopRemoved e outcome s).apart = s.apart := by
  simp [stopRemoved]

@[simp] theorem cutEntry_apart (e : Entry) (s : State) : (cutEntry e s).apart = s.apart := by
  unfold cutEntry
  dsimp only
  split <;> simp

@[simp] theorem dropAwaiting_apart (tag : Nat) (s : State) : (dropAwaiting tag s).apart = s.apart := rfl

@[simp] theorem answerAwaiting_apart (tag : Nat) (outcome : DoneOutcome) (s : State) :
    (answerAwaiting tag outcome s).apart = s.apart := by
  simp [answerAwaiting]

@[simp] theorem makeAwaiting_apart (e : Entry) (s : State) : (makeAwaiting e s).apart = s.apart := by
  unfold makeAwaiting
  dsimp only
  (repeat' split) <;> simp

@[simp] theorem completeEntry_apart (e : Entry) (s : State) : (completeEntry e s).apart = s.apart := by
  unfold completeEntry
  dsimp only
  (repeat' split) <;> simp

@[simp] theorem removeEntry_apart (tag : Nat) (outcome : DoneOutcome) (s : State) :
    (removeEntry tag outcome s).apart = s.apart := by
  unfold removeEntry
  (repeat' split) <;> simp

@[simp] theorem replaceEntry_apart (c : PromptCue) (old : Entry) (s : State) : (replaceEntry c old s).apart = s.apart := by
  simp [replaceEntry]

@[simp] theorem supersedeAwaiting_apart (tag : Nat) (s : State) : (supersedeAwaiting tag s).apart = s.apart := by
  unfold supersedeAwaiting
  split <;> simp

@[simp] theorem newPrompt_apart (c : PromptCue) (cap : Capacity) (s : State) : (newPrompt c cap s).apart = s.apart := by
  simp [newPrompt]

@[simp] theorem internalPrompt_apart (p : InternalPrompt) (s : State) : (internalPrompt p s).apart = s.apart := by
  unfold internalPrompt
  (repeat' split) <;> simp

@[simp] theorem makeRepeat_apart (a : Awaiting) (cap : Capacity) (s : State) : (makeRepeat a cap s).apart = s.apart := by
  simp [makeRepeat]

@[simp] theorem repeatFallsDue_apart (a : Awaiting) (s : State) : (repeatFallsDue a s).apart = s.apart := by
  unfold repeatFallsDue
  (repeat' split) <;> simp

@[simp] theorem fire_apart (p : InternalPrompt) (s : State) : (fire p s).apart = s.apart := by simp [fire]

@[simp] theorem acknowledge_apart (tag : Nat) (s : State) : (acknowledge tag s).apart = s.apart := by
  unfold acknowledge
  split <;> simp

@[simp] theorem conclude_apart (s : State) : (conclude s).apart = s.apart :=
  apart_of_outside (conclude_outside s) (congrArg (fun v => v.peers) (conclude_view s) : (conclude s).floor.view.peers = _)

/-! What follows a command. -/

@[simp] theorem conclude_panel (s : State) : (conclude s).panel = s.panel :=
  congrArg (fun x => x.2.2.1) (conclude_outside s)

theorem conclude_link (s : State) : (conclude s).link.besideLatches = s.link.besideLatches :=
  congrArg (fun x => x.2.2.2.1) (conclude_outside s)

@[simp] theorem conclude_reports (s : State) : (conclude s).link.reports = s.link.reports :=
  (congrArg CueLink.reports (conclude_link s) : (conclude s).link.besideLatches.reports = _)

theorem conclude_reportsKept {s w : State} (h : ReportsKept s w) : ReportsKept s (conclude w) :=
  ⟨(conclude_reports w).trans h.1, (congrArg CueLink.early (conclude_link w)).trans h.2.1,
    (congrArg CueLink.reportsLost (conclude_link w)).trans h.2.2⟩

theorem conclude_standing (s : State) : (conclude s).seq.standing = s.seq.standing :=
  congrArg (fun x => x.2.2.2.2.1) (conclude_outside s)

@[simp] theorem conclude_tags (s : State) : (conclude s).seq.queue.map Entry.tag = s.seq.queue.map Entry.tag :=
  congrArg Prod.fst (conclude_standing s)

@[simp] theorem conclude_internalDrops (s : State) : (conclude s).seq.internalDrops = s.seq.internalDrops :=
  congrArg (fun x => x.2.internalDrops) (conclude_standing s)

@[simp] theorem conclude_cuts (s : State) : (conclude s).seq.cuts = s.seq.cuts :=
  congrArg (fun x => x.2.cuts) (conclude_standing s)

@[simp] theorem conclude_mask (s : State) : (conclude s).seq.mask = s.seq.mask :=
  congrArg (fun x => x.2.mask) (conclude_standing s)

theorem conclude_queueKept {s w : State} (h : QueueKept s w) : QueueKept s (conclude w) := by
  obtain ⟨htags, hmask, hmade, hdrops, hcuts⟩ := h
  exact ⟨(conclude_tags w).trans htags, (conclude_mask w).trans hmask,
    (congrArg (fun x => x.2.madeCount) (conclude_standing w)).trans hmade, (conclude_internalDrops w).trans hdrops,
    (conclude_cuts w).trans hcuts⟩

theorem conclude_viewKept {s w : State} (h : w.floor.view = s.floor.view) : ViewKept s (conclude w) :=
  viewKept_of_view ((conclude_view w).trans h)

theorem entry_isSome_of_tags {s u : State} (h : u.seq.queue.map Entry.tag = s.seq.queue.map Entry.tag) (tag : Nat) :
    (u.entry tag).isSome = (s.entry tag).isSome := by
  have hfind (st : State) : (st.entry tag).isSome = (st.seq.queue.map Entry.tag).any fun n => n = tag := by
    rw [State.entry, List.any_map]
    exact List.isSome_find? ..
  rw [hfind, hfind, h]

theorem conclude_entry_none {s : State} {tag : Nat} (h : s.entry tag = none) : (conclude s).entry tag = none := by
  have hsome := entry_isSome_of_tags (conclude_tags s) tag
  rwa [h, Option.isSome_none, Option.isSome_eq_false_iff, Option.isNone_iff_eq_none] at hsome

theorem queueKept_of_seq {s u : State} (h : u.seq = s.seq) : QueueKept s u := by simp [QueueKept, h]

theorem sessionKept_of_panel {s u : State} (h : u.panel = s.panel) : SessionKept s u := by simp [SessionKept, h]

end Sys2Proof.Machine
end

section
/-! The withdrawal of the own claim (R94) and what follows it, for every command that withdraws one; and the commands that
leave nothing to select. -/

namespace Sys2Proof.Machine
open Sys2Proof Host Safety

/-! What the operations of the queue leave of each block. -/

@[simp] theorem report_hall (r : Report) (s : State) : (report r s).hall = s.hall := rfl
@[simp] theorem report_floor (r : Report) (s : State) : (report r s).floor = s.floor := rfl
@[simp] theorem report_power (r : Report) (s : State) : (report r s).power = s.power := rfl
@[simp] theorem report_seq (r : Report) (s : State) : (report r s).seq = s.seq := rfl
@[simp] theorem report_panel (r : Report) (s : State) : (report r s).panel = s.panel := rfl
@[simp] theorem report_now (r : Report) (s : State) : (report r s).now = s.now := rfl
@[simp] theorem reportDone_hall (origin : Origin) (tag : Nat) (outcome : DoneOutcome) (s : State) :
    (reportDone origin tag outcome s).hall = s.hall := by
  unfold reportDone
  split <;> rfl

@[simp] theorem reportDone_floor (origin : Origin) (tag : Nat) (outcome : DoneOutcome) (s : State) :
    (reportDone origin tag outcome s).floor = s.floor := by
  unfold reportDone
  split <;> rfl

@[simp] theorem reportDone_power (origin : Origin) (tag : Nat) (outcome : DoneOutcome) (s : State) :
    (reportDone origin tag outcome s).power = s.power := by
  unfold reportDone
  split <;> rfl

@[simp] theorem reportDone_seq (origin : Origin) (tag : Nat) (outcome : DoneOutcome) (s : State) :
    (reportDone origin tag outcome s).seq = s.seq := by
  unfold reportDone
  split <;> rfl

@[simp] theorem reportDone_panel (origin : Origin) (tag : Nat) (outcome : DoneOutcome) (s : State) :
    (reportDone origin tag outcome s).panel = s.panel := by
  unfold reportDone
  split <;> rfl

@[simp] theorem reportDone_now (origin : Origin) (tag : Nat) (outcome : DoneOutcome) (s : State) :
    (reportDone origin tag outcome s).now = s.now := by
  unfold reportDone
  split <;> rfl

@[simp] theorem latch_hall (f : Latches → Latches) (s : State) : (latch f s).hall = s.hall := rfl
@[simp] theorem latch_floor (f : Latches → Latches) (s : State) : (latch f s).floor = s.floor := rfl
@[simp] theorem latch_power (f : Latches → Latches) (s : State) : (latch f s).power = s.power := rfl
@[simp] theorem latch_seq (f : Latches → Latches) (s : State) : (latch f s).seq = s.seq := rfl
@[simp] theorem latch_panel (f : Latches → Latches) (s : State) : (latch f s).panel = s.panel := rfl
@[simp] theorem latch_now (f : Latches → Latches) (s : State) : (latch f s).now = s.now := rfl
@[simp] theorem changeEntry_hall (tag : Nat) (f : Entry → Entry) (s : State) : (changeEntry tag f s).hall = s.hall := rfl
@[simp] theorem changeEntry_floor (tag : Nat) (f : Entry → Entry) (s : State) : (changeEntry tag f s).floor = s.floor := rfl
@[simp] theorem changeEntry_power (tag : Nat) (f : Entry → Entry) (s : State) : (changeEntry tag f s).power = s.power := rfl
@[simp] theorem changeEntry_panel (tag : Nat) (f : Entry → Entry) (s : State) : (changeEntry tag f s).panel = s.panel := rfl
@[simp] theorem changeEntry_link (tag : Nat) (f : Entry → Entry) (s : State) : (changeEntry tag f s).link = s.link := rfl
@[simp] theorem changeEntry_now (tag : Nat) (f : Entry → Entry) (s : State) : (changeEntry tag f s).now = s.now := rfl
@[simp] theorem dropEntry_hall (tag : Nat) (s : State) : (dropEntry tag s).hall = s.hall := rfl
@[simp] theorem dropEntry_floor (tag : Nat) (s : State) : (dropEntry tag s).floor = s.floor := rfl
@[simp] theorem dropEntry_power (tag : Nat) (s : State) : (dropEntry tag s).power = s.power := rfl
@[simp] theorem dropEntry_link (tag : Nat) (s : State) : (dropEntry tag s).link = s.link := rfl
@[simp] theorem dropEntry_now (tag : Nat) (s : State) : (dropEntry tag s).now = s.now := rfl
@[simp] theorem joinQueue_hall (e : Entry) (s : State) : (joinQueue e s).hall = s.hall := rfl
@[simp] theorem joinQueue_floor (e : Entry) (s : State) : (joinQueue e s).floor = s.floor := rfl
@[simp] theorem joinQueue_panel (e : Entry) (s : State) : (joinQueue e s).panel = s.panel := rfl
@[simp] theorem joinQueue_link (e : Entry) (s : State) : (joinQueue e s).link = s.link := rfl
@[simp] theorem joinQueue_now (e : Entry) (s : State) : (joinQueue e s).now = s.now := rfl
@[simp] theorem changeService_hall (f : Service → Service) (s : State) : (changeService f s).hall = s.hall := rfl
@[simp] theorem changeService_floor (f : Service → Service) (s : State) : (changeService f s).floor = s.floor := rfl
@[simp] theorem changeService_power (f : Service → Service) (s : State) : (changeService f s).power = s.power := rfl
@[simp] theorem changeService_panel (f : Service → Service) (s : State) : (changeService f s).panel = s.panel := rfl
@[simp] theorem changeService_link (f : Service → Service) (s : State) : (changeService f s).link = s.link := rfl
@[simp] theorem changeService_now (f : Service → Service) (s : State) : (changeService f s).now = s.now := rfl
@[simp] theorem emptySlot_hall (s : State) : (emptySlot s).hall = s.hall := rfl
@[simp] theorem emptySlot_floor (s : State) : (emptySlot s).floor = s.floor := rfl
@[simp] theorem emptySlot_power (s : State) : (emptySlot s).power = s.power := rfl
@[simp] theorem emptySlot_panel (s : State) : (emptySlot s).panel = s.panel := rfl
@[simp] theorem emptySlot_link (s : State) : (emptySlot s).link = s.link := rfl
@[simp] theorem emptySlot_now (s : State) : (emptySlot s).now = s.now := rfl
@[simp] theorem fillSlot_hall (tag : Nat) (kind : Kind) (c : Composed) (s : State) :
    (fillSlot tag kind c s).hall = s.hall := rfl
@[simp] theorem fillSlot_floor (tag : Nat) (kind : Kind) (c : Composed) (s : State) :
    (fillSlot tag kind c s).floor = s.floor := rfl
@[simp] theorem fillSlot_power (tag : Nat) (kind : Kind) (c : Composed) (s : State) :
    (fillSlot tag kind c s).power = s.power := rfl
@[simp] theorem fillSlot_panel (tag : Nat) (kind : Kind) (c : Composed) (s : State) :
    (fillSlot tag kind c s).panel = s.panel := rfl
@[simp] theorem fillSlot_link (tag : Nat) (kind : Kind) (c : Composed) (s : State) :
    (fillSlot tag kind c s).link = s.link := rfl
@[simp] theorem fillSlot_now (tag : Nat) (kind : Kind) (c : Composed) (s : State) : (fillSlot tag kind c s).now = s.now := rfl
@[simp] theorem answerAwaiting_hall (tag : Nat) (outcome : DoneOutcome) (s : State) :
    (answerAwaiting tag outcome s).hall = s.hall := rfl
@[simp] theorem answerAwaiting_floor (tag : Nat) (outcome : DoneOutcome) (s : State) :
    (answerAwaiting tag outcome s).floor = s.floor := rfl
@[simp] theorem answerAwaiting_power (tag : Nat) (outcome : DoneOutcome) (s : State) :
    (answerAwaiting tag outcome s).power = s.power := rfl
@[simp] theorem answerAwaiting_seq (tag : Nat) (outcome : DoneOutcome) (s : State) :
    (answerAwaiting tag outcome s).seq = s.seq := rfl
@[simp] theorem answerAwaiting_now (tag : Nat) (outcome : DoneOutcome) (s : State) :
    (answerAwaiting tag outcome s).now = s.now := rfl
@[simp] theorem leaveWith_hall (e : Entry) (outcome : DoneOutcome) (s : State) :
    (leaveWith e outcome s).hall = s.hall := by simp [leaveWith]
@[simp] theorem leaveWith_floor (e : Entry) (outcome : DoneOutcome) (s : State) :
    (leaveWith e outcome s).floor = s.floor := by simp [leaveWith]
@[simp] theorem leaveWith_power (e : Entry) (outcome : DoneOutcome) (s : State) :
    (leaveWith e outcome s).power = s.power := by simp [leaveWith]
@[simp] theorem leaveWith_now (e : Entry) (outcome : DoneOutcome) (s : State) :
    (leaveWith e outcome s).now = s.now := by simp [leaveWith]
@[simp] theorem handFrame_power (f : TxFrame) (s : State) : (handFrame f s).power = s.power := by
  unfold handFrame
  split <;> rfl

@[simp] theorem handFrame_panel (f : TxFrame) (s : State) : (handFrame f s).panel = s.panel := by
  unfold handFrame
  split <;> rfl

@[simp] theorem handFrame_link (f : TxFrame) (s : State) : (handFrame f s).link = s.link := by
  unfold handFrame
  split <;> rfl

@[simp] theorem handFrame_now (f : TxFrame) (s : State) : (handFrame f s).now = s.now := by
  unfold handFrame
  split <;> rfl

/-! `conclude` where the slot stays empty. -/

theorem select_of_none {s : State} (hslot : s.seq.slot = none) (h : s.seq.queue.find? s.eligible = none) :
    select s = s.onSeq fun q => { q with askedAt := s.now } := by
  unfold select
  rw [hslot]
  simp only [h]

theorem conclude_of_none {s : State} (hawake : s.power.mode ≠ .sleep) (hslot : s.seq.slot = none)
    (h : s.seq.queue.find? (startWaitingRecovery s).eligible = none) :
    (conclude s).seq.slot = none ∧ (conclude s).seq.queue = s.seq.queue ∧ (conclude s).floor = s.floor
      ∧ (s.hall.recovery ≠ .waiting → (conclude s).hall = s.hall) := by
  have hselect := select_of_none (s := startWaitingRecovery s) (by rw [startWaitingRecovery_seq]; exact hslot)
    (by rw [startWaitingRecovery_seq]; exact h)
  rw [conclude_of_awake hawake, hselect]
  have hout (st : State) : (holdTimers (holdSampling st)).floor = st.floor ∧ (holdTimers (holdSampling st)).hall = st.hall :=
    have hsame := (holdTimers_besideOutput (holdSampling st)).trans (holdSampling_besideOutput st)
    ⟨State.floor_eq_of_besideOutput hsame, State.hall_eq_of_besideOutput hsame⟩
  refine ⟨by simp [hslot], by simp, by rw [(hout _).1]; simp, fun hr => ?_⟩
  rw [(hout _).2, startWaitingRecovery_of_ne hr]
  rfl

theorem conclude_of_empty {s : State} (hawake : s.power.mode ≠ .sleep) (hslot : s.seq.slot = none)
    (hqueue : s.seq.queue = []) :
    (conclude s).seq.slot = none ∧ (conclude s).seq.queue = [] ∧ (conclude s).floor = s.floor
      ∧ (s.hall.recovery ≠ .waiting → (conclude s).hall = s.hall) := by
  have h := conclude_of_none hawake hslot (by rw [hqueue]; rfl)
  rwa [hqueue] at h

/-! The claim that `conclude` may hold as pending. -/

theorem requestClaim_pending {s : State} (hnone : s.floor.own.pendingClaim = none) {cls : Cls} {arrival length : Nat}
    {q : ClaimContent} (h : (requestClaim cls arrival length s).floor.own.pendingClaim = some q) :
    q.seq = s.floor.own.nextSeq := by
  unfold requestClaim at h
  dsimp only at h
  split at h
  · simp only [State.onOwn_floor, Option.some.injEq] at h
    rw [← h]
  · simp [hnone] at h

theorem startAudible_floor (tag : Nat) (route : Route) (script : Script) (s : State) :
    (startAudible tag route script s).floor = s.floor :=
  State.floor_eq_of_besideOutput (startAudible_besideOutput tag route script s)

theorem startSilent_floor (tag : Nat) (script : Script) (s : State) : (startSilent tag script s).floor = s.floor :=
  State.floor_eq_of_besideOutput (startSilent_besideOutput tag script s)

theorem takeEntry_pending {s : State} {e : Entry} (hnone : s.floor.own.pendingClaim = none) {q : ClaimContent}
    (h : (takeEntry e s).floor.own.pendingClaim = some q) : q.seq = s.floor.own.nextSeq := by
  unfold takeEntry at h
  dsimp only at h
  split at h
  · rw [startSilent_floor] at h
    exact absurd (h.symm.trans hnone) nofun
  · split at h
    · simpa using requestClaim_pending (by simpa using hnone) h
    · rw [startAudible_floor] at h
      exact absurd (h.symm.trans hnone) nofun

theorem select_pending {s : State} (hnone : s.floor.own.pendingClaim = none) {q : ClaimContent}
    (h : (select s).floor.own.pendingClaim = some q) : q.seq = s.floor.own.nextSeq := by
  unfold select at h
  split at h
  · exact absurd (h.symm.trans hnone) nofun
  · dsimp only at h
    split at h
    · exact takeEntry_pending (s := s.onSeq fun q => { q with askedAt := s.now }) hnone h
    · exact absurd (h.symm.trans hnone) nofun

theorem conclude_pending {s : State} (hawake : s.power.mode ≠ .sleep) (hnone : s.floor.own.pendingClaim = none)
    {q : ClaimContent} (h : (conclude s).floor.own.pendingClaim = some q) : q.seq = s.floor.own.nextSeq := by
  have hsame (st : State) := State.floor_eq_of_besideOutput
    ((holdTimers_besideOutput (holdSampling st)).trans (holdSampling_besideOutput st))
  have hrest := startWaitingRecovery_floor s
  rw [conclude_of_awake hawake, hsame] at h
  rw [← hrest] at hnone ⊢
  exact select_pending hnone h

/-! The withdrawal, by what stands of the claim (R94). -/

theorem takeBack_withdrawn_of_waiting {s : State} {o : Outgoing} (hp : s.floor.own.pendingClaim = none)
    (ho : s.floor.own.outgoing = some o) (h : ∀ x ∈ s.hall.txList, x.isClaim = true → x.driving = false) :
    takeBack .withdrawn s =
      (s.onOwn fun w => { w with outgoing := none }).onHall fun p =>
        { p with txList := p.txList.filter fun x => !x.isClaim } := by
  have hwaiting : ¬ (s.hall.txList.any fun x => x.isClaim && x.driving) = true := by simpa using h
  unfold takeBack claimUnsent promotePending
  dsimp only
  rw [if_neg hwaiting]
  simp only [State.onHall_floor, State.onOwn_floor, ho, Option.map_some, hp]
  rfl

/-- What a withdrawal does, by what stands of the claim. -/
inductive Withdrawal (s : State) : State → Prop
  | pending (p : ClaimContent) (hp : s.floor.own.pendingClaim = some p) :
      Withdrawal s (s.onOwn fun o => { o with state := .free, pendingClaim := none })
  | driving (o : Outgoing) (hp : s.floor.own.pendingClaim = none) (ho : s.floor.own.outgoing = some o)
      (hdriving : ∃ x ∈ s.hall.txList, x.isClaim = true ∧ x.driving = true) :
      Withdrawal s (s.onOwn fun w => { w with state := .free, outgoing := some { o with takenBack := .withdrawn } })
  | waiting (o : Outgoing) (hp : s.floor.own.pendingClaim = none) (ho : s.floor.own.outgoing = some o)
      (hwaiting : ∀ x ∈ s.hall.txList, x.isClaim = true → x.driving = false) :
      Withdrawal s ((s.onOwn fun w => { w with state := .free, outgoing := none }).onHall fun p =>
        { p with txList := p.txList.filter fun x => !x.isClaim })
  | claim (c : LiveClaim) (hp : s.floor.own.pendingClaim = none) (ho : s.floor.own.outgoing = none)
      (hc : s.floor.own.claim = some c) (hreleased : s.floor.own.released = false) :
      Withdrawal s (releaseWithdrawn (c.seq.getD 0) (s.onOwn fun w => { w with state := .free }))
  | none (hp : s.floor.own.pendingClaim = none) (ho : s.floor.own.outgoing = none)
      (hc : s.floor.own.claim = none ∨ s.floor.own.released = true) :
      Withdrawal s (s.onOwn fun w => { w with state := .free })

theorem withdraw_cases {s : State} (hstate : s.floor.own.state = .claiming) : Withdrawal s (withdraw s) := by
  have hunfold (u : State) (h : withdraw s = u) (hu : Withdrawal s u) : Withdrawal s (withdraw s) := h ▸ hu
  have hopen : withdraw s =
      match s.floor.own.pendingClaim, s.floor.own.outgoing, s.floor.own.claim with
      | some _, _, _ => (s.onOwn fun o => { o with state := .free }).onOwn fun o => { o with pendingClaim := none }
      | none, some _, _ => takeBack .withdrawn (s.onOwn fun o => { o with state := .free })
      | none, none, some c =>
        if s.floor.own.released then s.onOwn fun o => { o with state := .free }
        else releaseWithdrawn (c.seq.getD 0) (s.onOwn fun o => { o with state := .free })
      | none, none, none => s.onOwn fun o => { o with state := .free } := by
    unfold withdraw
    exact if_neg (by simp [hstate])
  cases hp : s.floor.own.pendingClaim with
  | some p => exact hunfold _ (by rw [hopen, hp]; rfl) (.pending p hp)
  | none =>
    cases ho : s.floor.own.outgoing with
    | some o =>
      have htake : withdraw s = takeBack .withdrawn (s.onOwn fun o => { o with state := .free }) := by rw [hopen, hp, ho]
      by_cases hdriving : ∃ x ∈ s.hall.txList, x.isClaim = true ∧ x.driving = true
      · exact hunfold _ (htake.trans (takeBack_of_driving (s := s.onOwn _) .withdrawn ho hdriving)) (.driving o hp ho hdriving)
      · have hwaiting : ∀ x ∈ s.hall.txList, x.isClaim = true → x.driving = false := by simpa using hdriving
        exact hunfold _ (htake.trans (takeBack_withdrawn_of_waiting (s := s.onOwn _) hp ho hwaiting)) (.waiting o hp ho hwaiting)
    | none =>
      cases hc : s.floor.own.claim with
      | none => exact hunfold _ (by rw [hopen, hp, ho, hc]) (.none hp ho (.inl hc))
      | some c =>
        cases hr : s.floor.own.released with
        | true => exact hunfold _ (by rw [hopen, hp, ho, hc, hr]; rfl) (.none hp ho (.inr hr))
        | false => exact hunfold _ (by rw [hopen, hp, ho, hc, hr]; rfl) (.claim c hp ho hc hr)

theorem withdraw_of_other {s : State} (hstate : s.floor.own.state ≠ .claiming) : withdraw s = s := if_pos hstate

/-- What every withdrawal leaves. -/
theorem Withdrawal.leaves {s w : State} (h : Withdrawal s w) :
    w.floor.claimsLost = s.floor.claimsLost ∧ w.floor.own.claim = s.floor.own.claim
      ∧ w.floor.own.nextSeq = s.floor.own.nextSeq ∧ w.floor.own.state = .free
      ∧ w.hall.recovery = s.hall.recovery ∧ w.seq = s.seq ∧ w.power = s.power ∧ w.panel = s.panel ∧ w.link = s.link := by
  cases h with
  | claim => simp [releaseWithdrawn]
  | _ => exact ⟨rfl, rfl, rfl, rfl, rfl, rfl, rfl, rfl, rfl⟩

theorem not_driving_of_waiting {l : List TxEntry} (h : ∀ x ∈ l, x.isClaim = true → x.driving = false) :
    ¬ ∃ x ∈ l, x.isClaim = true ∧ x.driving = true := fun ⟨x, hx, hclaim, hdriving⟩ => by
  simp [h x hx hclaim] at hdriving

/-- The clauses of a withdrawal hold of whatever follows it, once nothing else has changed the floor and the line (R94). -/
theorem claimWithdrawn_of_withdraw {s w : State} (hawake : w.power.mode ≠ .sleep) (hfloor : w.floor = (withdraw s).floor)
    (hhall : w.hall = (withdraw s).hall) : ClaimWithdrawn s (conclude w) := by
  intro hstate hfault hrecovery
  have hcases := withdraw_cases hstate
  generalize withdraw s = x at hfloor hhall hcases
  obtain ⟨hlost, hclaim, hnext, hfree, hrec, -⟩ := hcases.leaves
  have hrecw : w.hall.recovery ≠ .waiting := by rw [hhall, hrec]; exact hrecovery
  obtain ⟨-, hclaim', hreleased', -, -, hlost', -⟩ := viewKept_of_view (conclude_view w)
  have hlist : ListIs w.hall.txList s (conclude w) :=
    listIs_of_nextSeq (by rw [hfloor, hnext]) (conclude_txList hawake hrecw)
  rw [hfloor] at hclaim' hreleased' hlost'
  rw [hhall] at hlist
  refine ⟨hlost'.trans hlost, hclaim'.trans hclaim, ?_, ?_, ?_, ?_, ?_⟩
  · exact (conclude_floorState hawake).imp (fun h => h.trans (by rw [hfloor]; exact hfree)) id
  · intro c seq hp ho hc hseq hreleased
    cases hcases <;> simp_all [handFrame_txList, releaseWithdrawn]
  · intro o hp ho hwaiting
    cases hcases with
    | driving _ _ _ hdriving => exact absurd hdriving (not_driving_of_waiting hwaiting)
    | _ => simp_all
  · intro o hp ho hdriving
    have hdone : x.floor.own.outgoing = some { o with takenBack := .withdrawn } ∧ x.hall = s.hall := by
      cases hcases with
      | waiting _ _ _ hwaiting => exact absurd hdriving (not_driving_of_waiting hwaiting)
      | _ => simp_all
    obtain ⟨hout, hkept⟩ := conclude_outgoing hawake ((congrArg (fun u => u.own.outgoing) hfloor).trans hdone.1)
    exact ⟨by rw [hkept hrecw, hhall, hdone.2], hout⟩
  · intro p o hp ho
    have hdone : x.floor.own.outgoing = some o ∧ x.floor.own.pendingClaim = none ∧ x.hall = s.hall := by
      cases hcases <;> simp_all
    obtain ⟨hout, hkept⟩ := conclude_outgoing hawake ((congrArg (fun u => u.own.outgoing) hfloor).trans hdone.1)
    refine ⟨by rw [hkept hrecw, hhall, hdone.2.2], hout, fun q hq => ?_⟩
    rw [conclude_pending hawake ((congrArg (fun u => u.own.pendingClaim) hfloor).trans hdone.2.1) hq, hfloor, hnext]

end Sys2Proof.Machine
end

section
/-! What the removal of an entry does (R29): one lemma for each block that it touches, and DEADLINE (R16). -/

namespace Sys2Proof.Machine
open Sys2Proof Host Safety

theorem report_fits {s : State} (h : ReportFits s) (r : Report) : (report r s).link.reports = s.link.reports ++ [r] := by
  exact (report_reports r s).trans (if_pos h)

theorem reportFits_of_link {s u : State} (h : u.link = s.link) (hs : ReportFits s) : ReportFits u := by
  rw [ReportFits, h]
  exact hs

@[simp] theorem dropEntry_panel (tag : Nat) (s : State) :
    (dropEntry tag s).panel = { s.panel with repeats := s.panel.repeats.filter fun r => r.tag ≠ tag } := rfl

@[simp] theorem dropEntry_seq (tag : Nat) (s : State) :
    (dropEntry tag s).seq = { s.seq with queue := s.seq.queue.filter fun e => e.tag ≠ tag } := rfl

@[simp] theorem emptySlot_seq (s : State) : (emptySlot s).seq = { s.seq with slot := none } := rfl

@[simp] theorem leaveWith_panel (e : Entry) (outcome : DoneOutcome) (s : State) :
    (leaveWith e outcome s).panel = { s.panel with repeats := s.panel.repeats.filter fun r => r.tag ≠ e.tag } := by
  simp [leaveWith]

@[simp] theorem leaveWith_seq (e : Entry) (outcome : DoneOutcome) (s : State) :
    (leaveWith e outcome s).seq = { s.seq with queue := s.seq.queue.filter fun x => x.tag ≠ e.tag } := by
  simp [leaveWith]

theorem leaveWith_entry (e : Entry) (outcome : DoneOutcome) (s : State) : (leaveWith e outcome s).entry e.tag = none := by
  have hdrop := dropEntry_entry e.tag s
  rw [State.entry] at hdrop ⊢
  rwa [leaveWith_seq]

theorem leaveWith_link_internal {e : Entry} (h : e.origin ≠ .machine) (outcome : DoneOutcome) (s : State) :
    (leaveWith e outcome s).link = s.link := by
  unfold leaveWith reportDone
  rw [if_neg h]
  rfl

theorem leaveWith_machine {e : Entry} (h : e.origin = .machine) (outcome : DoneOutcome) (s : State) :
    leaveWith e outcome s = report (.done e.tag outcome) (dropEntry e.tag s) := by
  unfold leaveWith reportDone
  rw [if_pos h]

theorem leaveWith_reports {e : Entry} (h : e.origin = .machine) (outcome : DoneOutcome) {s : State} (hs : ReportFits s) :
    (leaveWith e outcome s).link.reports = s.link.reports ++ [.done e.tag outcome] := by
  rw [leaveWith_machine h]
  exact report_fits (s := dropEntry e.tag s) hs _

/-! What a withdrawal leaves of the other blocks. -/

theorem withdraw_rest (s : State) :
    (withdraw s).seq = s.seq ∧ (withdraw s).power = s.power ∧ (withdraw s).panel = s.panel ∧ (withdraw s).link = s.link := by
  by_cases hstate : s.floor.own.state = .claiming
  · exact (withdraw_cases hstate).leaves.2.2.2.2.2
  · rw [withdraw_of_other hstate]
    exact ⟨rfl, rfl, rfl, rfl⟩

@[simp] theorem withdraw_seq (s : State) : (withdraw s).seq = s.seq := (withdraw_rest s).1
@[simp] theorem withdraw_power (s : State) : (withdraw s).power = s.power := (withdraw_rest s).2.1
@[simp] theorem withdraw_panel (s : State) : (withdraw s).panel = s.panel := (withdraw_rest s).2.2.1
@[simp] theorem withdraw_link (s : State) : (withdraw s).link = s.link := (withdraw_rest s).2.2.2
@[simp] theorem withdraw_now (s : State) : (withdraw s).now = s.now := congrArg Prod.fst (withdraw_env s)

theorem withdraw_free {s : State} (h : s.floor.own.state = .claiming) : (withdraw s).floor.own.state = .free :=
  (withdraw_cases h).leaves.2.2.2.1

theorem tag_of_entry {s : State} {tag : Nat} {e : Entry} (h : s.entry tag = some e) : e.tag = tag := (tag_mem_of_entry h).1

/-! DEADLINE (R16). -/

theorem reachedAt_of_due {tm : Option Timer} {x : Timer} {now : Nat} (h : tm = some x) (hdue : x.due ≤ now) :
    reachedAt tm now = true := by
  rw [h]
  exact Timer.reached_of_due hdue

theorem expireEntry_waiting {s : State} {tag : Nat} {e : Entry} (he : s.entry tag = some e)
    (hdue : reachedAt e.deadline s.now = true) :
    (e.state = .queued → expireEntry tag s = leaveWith e .expired s)
      ∧ (e.state = .claiming → expireEntry tag s = leaveWith e .expired (emptySlot (withdraw s))) := by
  constructor <;> intro hstate <;> simp [expireEntry, he, hdue, hstate]

theorem expireEntry_served {s : State} {tag : Nat} {e : Entry} (he : s.entry tag = some e)
    (hstate : e.state = .speaking ∨ e.state = .showing) : expireEntry tag s = s := by
  unfold expireEntry
  simp only [he]
  rcases hstate with h | h <;> simp [h]

/-- Settles O44: a waiting entry leaves with EXPIRED, its claim withdrawn; one in service stays. -/
theorem deadlineExpiresWaiting : Obligations.DeadlineExpiresWaiting := by
  refine ⟨fun t tag s e tm hawake he hwaits horigin hdeadline hdue hfits => ?_, fun t tag s e hawake he hserved => ?_⟩
  · obtain ⟨hqueued, hclaiming⟩ := expireEntry_waiting (s := s.arrive t) he (reachedAt_of_due hdeadline hdue)
    have htag := tag_of_entry he
    refine ⟨_, concluding_of_awake hawake t _, ?_⟩
    rcases hwaits with hstate | hstate
    · rw [hqueued hstate]
      refine ⟨?_, conclude_entry_none (htag ▸ leaveWith_entry e _ _), ?_, ?_, ?_, ?_⟩
      · rw [conclude_reports, leaveWith_reports horigin _ (by exact hfits), htag]
        rfl
      · simp [SessionKept]
      · simp [hstate]
      · simp [hstate]
      · exact besidesServiceKept_of_apart (by simp)
    · rw [hclaiming hstate]
      refine ⟨?_, conclude_entry_none (htag ▸ leaveWith_entry e _ _), ?_, fun _ => ?_, fun _ hfloor hqueue => ?_, ?_⟩
      · rw [conclude_reports, leaveWith_reports horigin _ (reportFits_of_link (by simp) hfits), htag]
        simp
      · simp [SessionKept]
      · exact claimWithdrawn_of_withdraw (s := s.arrive t) (by simpa using hawake) (by simp) (by simp)
      · obtain ⟨hslot, -, hsame, -⟩ := conclude_of_empty (s := leaveWith e .expired (emptySlot (withdraw (s.arrive t))))
          (by simpa using hawake) (by simp) (by simp [hqueue])
        refine ⟨hslot, ?_⟩
        rw [hsame, leaveWith_floor, emptySlot_floor]
        exact withdraw_free hfloor
      · exact besidesServiceKept_of_apart (by simp)
  · refine ⟨_, concluding_of_awake hawake t _, ?_⟩
    rw [expireEntry_served (s := s.arrive t) he hserved]
    refine ⟨?_, conclude_queueKept (queueKept_of_seq rfl), conclude_reportsKept ⟨rfl, rfl, rfl⟩, conclude_panel _,
      besidesServiceKept_of_apart (by simp)⟩
    rw [entry_isSome_of_tags (conclude_tags _)]
    exact he ▸ rfl

end Sys2Proof.Machine
end

section
/-! The entries of the queue after a step (R17), the victim of a full queue (R11), and REPEAT_DUE (R176). -/

namespace Sys2Proof.Machine
open Sys2Proof Host Safety

/-! What `conclude` makes of each entry. -/

/-- An entry as it was, or as the selection leaves the one it takes. -/
inductive Entry.Taken (e : Entry) : Entry → Prop
  | same : e.Taken e
  | claiming : e.Taken { e with state := .claiming }
  | showing : e.Taken { e with state := .showing, deadline := none }
  | speaking : e.Taken { e with state := .speaking, deadline := none }

theorem Entry.Taken.standing_eq {e e' : Entry} (h : e.Taken e') : e'.standing = e.standing ∧ e'.cutCount = e.cutCount := by
  cases h <;> exact ⟨rfl, rfl⟩

theorem Entry.Taken.tag {e e' : Entry} (h : e.Taken e') : e'.tag = e.tag := by cases h <;> rfl

theorem Entry.Taken.deadline_none {e e' : Entry} (h : e.Taken e') (hnone : e.deadline = none) : e'.deadline = none := by
  cases h with
  | same | claiming => exact hnone
  | showing | speaking => rfl

theorem Entry.Taken.deadline_waiting {e e' : Entry} (h : e.Taken e') (hw : e'.state = .queued ∨ e'.state = .claiming) :
    e'.deadline = e.deadline := by
  cases h <;> simp at hw ⊢

theorem takeEntry_queue (e : Entry) (s : State) :
    ∃ f : Entry → Entry, (∀ x : Entry, x.Taken (f x)) ∧ (takeEntry e s).seq.queue = s.seq.queue.map (atTag e.tag f) := by
  unfold takeEntry
  dsimp only
  split
  · exact ⟨_, fun _ => .showing, startSilent_queue ..⟩
  · split
    · exact ⟨_, fun _ => .claiming, by rw [requestClaim_seq]; rfl⟩
    · exact ⟨_, fun _ => .speaking, startAudible_queue ..⟩

theorem atTag_taken {f : Entry → Entry} (h : ∀ x : Entry, x.Taken (f x)) (tag : Nat) (x : Entry) : x.Taken (atTag tag f x) := by
  unfold atTag
  split
  · exact h x
  · exact .same

theorem select_queue (s : State) :
    ∃ g : Entry → Entry, (∀ x : Entry, x.Taken (g x)) ∧ (select s).seq.queue = s.seq.queue.map g := by
  unfold select
  split
  · exact ⟨id, fun _ => .same, (List.map_id _).symm⟩
  · dsimp only
    split
    next e _ =>
      obtain ⟨f, hf, hqueue⟩ := takeEntry_queue e (s.onSeq fun q => { q with askedAt := s.now })
      exact ⟨atTag e.tag f, atTag_taken hf e.tag, hqueue⟩
    · exact ⟨id, fun _ => .same, (List.map_id _).symm⟩

theorem conclude_queue (s : State) :
    ∃ g : Entry → Entry, (∀ x : Entry, x.Taken (g x)) ∧ (conclude s).seq.queue = s.seq.queue.map g := by
  unfold conclude
  split
  · obtain ⟨g, hg, hqueue⟩ := select_queue (startWaitingRecovery s)
    exact ⟨g, hg, by simpa using hqueue⟩
  · exact ⟨id, fun _ => .same, (List.map_id _).symm⟩

theorem conclude_entry_taken {s : State} {tag : Nat} {e : Entry} (he : s.entry tag = some e) :
    ∃ e', (conclude s).entry tag = some e' ∧ e.Taken e' := by
  obtain ⟨g, hg, hqueue⟩ := conclude_queue s
  exact ⟨g e, by rw [State.entry_of_map (fun x => (hg x).tag) hqueue, he]; rfl, hg e⟩

/-! The capacity check in the terms of the statements (R11). -/

theorem victim_of_isVictim {s : State} {v : Entry} (ho : QueueInOrder s) (hv : IsVictim s v) : s.victim = some v := by
  obtain ⟨hstate, l, r, hqueue, hlow, hlate⟩ := hv
  exact victim_of_order hqueue hstate ho fun x hx hxs =>
    ⟨(hlow x (List.mem_append_right _ hx) hxs).1, hlate x hx hxs⟩

theorem isVictim_mem {s : State} {v : Entry} (hv : IsVictim s v) : v ∈ s.seq.queue := by
  obtain ⟨-, l, r, hqueue, -⟩ := hv
  simp [hqueue]

theorem capacity_of_full {s : State} {cls : Cls} (h : QueueFull s cls.val) : s.capacity cls = .full := by
  obtain ⟨horder, hlen, v, hv, hcls⟩ := h
  unfold State.capacity Config.queueLimit
  rw [if_neg (by omega), victim_of_isVictim horder hv]
  exact if_neg (by omega)

theorem capacity_of_evicts {s : State} {cls : Cls} {v : Entry} (h : Evicts s cls.val v) : s.capacity cls = .evict v := by
  obtain ⟨horder, hlen, hv, hcls⟩ := h
  unfold State.capacity Config.queueLimit
  rw [if_neg (by omega), victim_of_isVictim horder hv]
  exact if_pos hcls

theorem capacity_of_hasRoom {s : State} {cls : Cls} (h : HasRoom s cls.val) : s.capacity cls ≠ .full := by
  rcases h with hroom | ⟨v, hv⟩
  · rw [capacity_of_room cls hroom]
    nofun
  · rw [capacity_of_evicts hv]
    nofun

/-! The eviction of the victim. -/

@[simp] theorem evict_seq (v : Entry) (s : State) :
    (evict v s).seq =
      { s.seq with
        queue := s.seq.queue.filter fun e => e.tag ≠ v.tag
        internalDrops := if v.origin = .machine then s.seq.internalDrops else min 65535 (s.seq.internalDrops + 1) } := by
  unfold evict
  dsimp only
  split <;> rfl

@[simp] theorem evict_panel (v : Entry) (s : State) :
    (evict v s).panel = { s.panel with repeats := s.panel.repeats.filter fun r => r.tag ≠ v.tag } := by
  unfold evict
  dsimp only
  split <;> rfl

theorem evict_reports {v : Entry} {s : State} (hlistening : s.link.listening = true) (hfits : s.link.reports.length + 1 ≤ 16) :
    (evict v s).link.reports = s.link.reports ++ victimReports v ∧ (evict v s).link.listening = true := by
  unfold evict victimReports
  dsimp only
  split
  · exact ⟨report_fits (s := dropEntry v.tag s) ⟨hlistening, hfits⟩ _, by simpa using hlistening⟩
  · exact ⟨(List.append_nil _).symm, hlistening⟩

@[simp] theorem evict_floor (v : Entry) (s : State) : (evict v s).floor = s.floor := by
  unfold evict
  dsimp only
  split <;> rfl

@[simp] theorem evict_hall (v : Entry) (s : State) : (evict v s).hall = s.hall := by
  unfold evict
  dsimp only
  split <;> rfl

@[simp] theorem evict_power (v : Entry) (s : State) : (evict v s).power = s.power := by
  unfold evict
  dsimp only
  split <;> rfl

@[simp] theorem evict_now (v : Entry) (s : State) : (evict v s).now = s.now := by
  unfold evict
  dsimp only
  split <;> rfl

@[simp] theorem joinQueue_seq (e : Entry) (s : State) :
    (joinQueue e s).seq =
      { s.seq with
        queue := insertEntry { e with made := s.seq.madeCount } s.seq.queue
        madeCount := s.seq.madeCount + 1 } := rfl

@[simp] theorem joinQueue_mode (e : Entry) (s : State) : (joinQueue e s).power.mode = s.power.mode := rfl

theorem entry_of_joined {s w : State} {e : Entry} (hfree : s.entry e.tag = none)
    (hqueue : w.seq.queue = insertEntry e s.seq.queue) : w.entry e.tag = some e := by
  rw [State.entry, hqueue]
  exact find_insertEntry_same hfree

theorem entry_none_of_filter {s w : State} {p : Entry → Bool} {tag : Nat} (h : s.entry tag = none)
    (hqueue : w.seq.queue = s.seq.queue.filter p) : w.entry tag = none := by
  rw [State.entry, List.find?_eq_none] at h ⊢
  rw [hqueue]
  exact fun x hx => h x (List.mem_of_mem_filter hx)

theorem entry_isSome_iff (s : State) (tag : Nat) : (s.entry tag).isSome = true ↔ ∃ x ∈ s.seq.queue, x.tag = tag := by
  rw [State.entry, List.find?_isSome]
  simp

theorem isSome_congr {a b : Option Entry} (h : a.isSome = true ↔ b.isSome = true) : a.isSome = b.isSome :=
  Bool.eq_iff_iff.mpr h

/-- A victim has made room for the entry that has joined in its place. -/
theorem victimMakesRoom_of_joined {s w u : State} {v e : Entry} (hv : v ∈ s.seq.queue) (hfree : s.entry e.tag = none)
    (hqueue : w.seq.queue = insertEntry e (s.seq.queue.filter fun x => x.tag ≠ v.tag))
    (hdrops : w.seq.internalDrops =
      if v.origin = .machine then s.seq.internalDrops else min 65535 (s.seq.internalDrops + 1))
    (hrepeats : ∀ r ∈ w.panel.repeats, r.tag ≠ v.tag) (hu : u = conclude w) : VictimMakesRoom v e.tag s u := by
  have hne : e.tag ≠ v.tag := by
    intro heq
    have := (entry_isSome_iff s e.tag).mpr ⟨v, hv, heq.symm⟩
    simp [hfree] at this
  have hmem (n : Nat) : (u.entry n).isSome = true ↔ n = e.tag ∨ n ≠ v.tag ∧ (s.entry n).isSome = true := by
    rw [hu, entry_isSome_of_tags (conclude_tags w), entry_isSome_iff, entry_isSome_iff, hqueue]
    constructor
    · rintro ⟨x, hx, rfl⟩
      rcases mem_insertEntry.mp hx with rfl | hx
      · exact .inl rfl
      · obtain ⟨hx, hp⟩ := List.mem_filter.mp hx
        exact .inr ⟨by simpa using hp, x, hx, rfl⟩
    · rintro (rfl | ⟨hn, x, hx, rfl⟩)
      · exact ⟨e, mem_insertEntry.mpr (.inl rfl), rfl⟩
      · exact ⟨x, mem_insertEntry.mpr (.inr (List.mem_filter.mpr ⟨hx, by simpa using hn⟩)), rfl⟩
  refine ⟨?_, (hmem _).mpr (.inl rfl), fun n hnv hnt => isSome_congr ?_, ?_, ?_⟩
  · cases hnone : u.entry v.tag with
    | none => rfl
    | some x =>
      have hsome := (hmem v.tag).mp (by rw [hnone]; rfl)
      exact absurd hsome (by simp [hne.symm])
  · rw [hmem]
    simp [hnv, hnt]
  · rw [hu, conclude_panel]
    exact hrepeats
  · rw [hu, conclude_internalDrops]
    exact hdrops

/-! REPEAT_DUE (R176). -/

theorem makeRepeat_eq (a : Awaiting) (cap : Capacity) (s : State) :
    makeRepeat a cap s =
      report (.queued a.tag) ((joinQueue (s.repeatEntry a) (dropAwaiting a.tag (cap.clear s))).onPanel fun p =>
        { p with repeats := p.repeats ++ [⟨a.tag, a.spokenAt⟩] }) := rfl

theorem tag_of_awaitingRecord {s : State} {tag : Nat} {a : Awaiting} (h : s.awaitingRecord tag = some a) : a.tag = tag := by
  simpa using List.find?_some h

theorem repeatDueFor_of_due {s : State} {tag : Nat} {a : Awaiting} (ha : s.awaitingRecord tag = some a)
    (hdue : a.repeatDue.due ≤ s.now) : repeatDueFor tag s = repeatFallsDue a s := by
  unfold repeatDueFor
  simp only [ha, Timer.reached_of_due hdue, if_true]

theorem makeRepeat_reports {cap : Capacity} {s : State} (h : ReportFits (cap.clear s)) (a : Awaiting) :
    (makeRepeat a cap s).link.reports = (cap.clear s).link.reports ++ [.queued a.tag] := by
  rw [makeRepeat_eq]
  exact report_fits h _

theorem makeRepeat_panel (a : Awaiting) (cap : Capacity) (s : State) :
    (makeRepeat a cap s).panel =
      { (cap.clear s).panel with
        awaiting := (cap.clear s).panel.awaiting.filter fun x => x.tag ≠ a.tag
        repeats := (cap.clear s).panel.repeats ++ [⟨a.tag, a.spokenAt⟩] } := rfl

theorem makeRepeat_seq (a : Awaiting) (cap : Capacity) (s : State) :
    (makeRepeat a cap s).seq =
      { (cap.clear s).seq with
        queue := insertEntry { s.repeatEntry a with made := (cap.clear s).seq.madeCount } (cap.clear s).seq.queue
        madeCount := (cap.clear s).seq.madeCount + 1 } := rfl

/-- The entry of a repeat after the step that has made it. -/
theorem repeatEntry_made {s : State} {a : Awaiting} (cap : Capacity) (hfree : (cap.clear s).entry a.tag = none) :
    ∃ e, (conclude (makeRepeat a cap s)).entry a.tag = some e ∧ e.repeatsLeft = a.repeatsLeft - 1 ∧ e.ackRequired = true
      ∧ e.deadline = none ∧ e.arrival = s.now ∧ e.cls = a.cls ∧ e.template = a.template := by
  obtain ⟨e, he, htaken⟩ := conclude_entry_taken (s := makeRepeat a cap s) (entry_of_joined (s := cap.clear s)
    (e := { s.repeatEntry a with made := (cap.clear s).seq.madeCount }) hfree rfl)
  refine ⟨e, he, ?_⟩
  cases htaken <;> exact ⟨rfl, rfl, rfl, rfl, rfl, rfl⟩

theorem victimReports_length (v : Entry) : (victimReports v).length ≤ 1 := by
  unfold victimReports
  split <;> simp

theorem repeatFallsDue_answered {s : State} {a : Awaiting} (h : a.repeatsLeft = 0) :
    repeatFallsDue a s = answerAwaiting a.tag .unacknowledged s := if_pos h

theorem repeatFallsDue_full {s : State} {a : Awaiting} (h : 1 ≤ a.repeatsLeft) (hcap : s.capacity a.cls = .full) :
    repeatFallsDue a s = s.onPanel fun p =>
      { p with
        awaiting := p.awaiting.map fun x =>
          if x.tag = a.tag then { x with repeatDue := s.after (a.repeatInterval * 1000) } else x } := by
  unfold repeatFallsDue
  rw [if_neg (by omega), hcap]

theorem repeatFallsDue_made {s : State} {a : Awaiting} (h : 1 ≤ a.repeatsLeft) (hcap : s.capacity a.cls ≠ .full) :
    repeatFallsDue a s = makeRepeat a (s.capacity a.cls) s := by
  unfold repeatFallsDue
  rw [if_neg (by omega)]
  split
  next hfull => exact absurd hfull hcap
  · rfl

theorem answerAwaiting_panel (tag : Nat) (outcome : DoneOutcome) (s : State) :
    (answerAwaiting tag outcome s).panel = { s.panel with awaiting := s.panel.awaiting.filter fun a => a.tag ≠ tag } := rfl

theorem Capacity.clear_floor (c : Capacity) (s : State) : (c.clear s).floor = s.floor := by
  unfold Capacity.clear
  split <;> simp

theorem makeRepeat_floor (a : Awaiting) (cap : Capacity) (s : State) : (makeRepeat a cap s).floor = s.floor := by
  rw [makeRepeat_eq, report_floor]
  exact Capacity.clear_floor cap s

/-- Settles O48: without repeats left the record is answered; else it becomes an entry, in a full queue in a victim's place,
or waits one interval more. -/
theorem repeatsFallDue : Obligations.RepeatsFallDue := by
  refine ⟨?_, ?_, ?_, ?_⟩
  · intro t tag s a hawake ha hdue hleft hfits
    refine ⟨_, concluding_of_awake hawake t _, ?_⟩
    rw [repeatDueFor_of_due (s := s.arrive t) ha hdue, repeatFallsDue_answered hleft, tag_of_awaitingRecord ha]
    exact ⟨(conclude_reports _).trans (report_fits (s := dropAwaiting tag (s.arrive t)) hfits _), conclude_panel _,
      conclude_queueKept (queueKept_of_seq rfl), conclude_viewKept rfl, besidesServiceKept_of_apart (by simp)⟩
  · intro t tag s a hawake ha hdue hleft hfull
    refine ⟨_, concluding_of_awake hawake t _, ?_⟩
    rw [repeatDueFor_of_due (s := s.arrive t) ha hdue,
      repeatFallsDue_full hleft (capacity_of_full (s := s.arrive t) hfull), tag_of_awaitingRecord ha]
    exact ⟨conclude_panel _, conclude_queueKept (queueKept_of_seq rfl), conclude_reportsKept ⟨rfl, rfl, rfl⟩,
      conclude_viewKept rfl, besidesServiceKept_of_apart (by simp)⟩
  · intro t tag s a v hawake ha hdue hleft hevicts hfree hlistening hlen
    obtain rfl := tag_of_awaitingRecord ha
    have hcap := capacity_of_evicts (s := s.arrive t) hevicts
    have hmade := repeatFallsDue_made (s := s.arrive t) hleft (by rw [hcap]; nofun)
    rw [hcap] at hmade
    have hqueue : (evict v (s.arrive t)).seq.queue = s.seq.queue.filter fun e => e.tag ≠ v.tag := by rw [evict_seq]; rfl
    have hv := isVictim_mem hevicts.2.2.1
    have hne : a.tag ≠ v.tag := by
      intro heq
      have hsome := (entry_isSome_iff s a.tag).mpr ⟨v, hv, heq.symm⟩
      simp [hfree] at hsome
    obtain ⟨hreports, hlistens⟩ := evict_reports (v := v) (s := s.arrive t) hlistening (Nat.le_of_succ_le hlen)
    have hfits : ReportFits (evict v (s.arrive t)) := by
      refine ⟨hlistens, ?_⟩
      rw [hreports, List.length_append]
      exact Nat.lt_of_le_of_lt (Nat.add_le_add_left (victimReports_length v) _) hlen
    obtain ⟨e, he, hleft', hack, hdeadline, harrival, hcls, htemplate⟩ :=
      repeatEntry_made (.evict v) (s := s.arrive t) (a := a) (entry_none_of_filter hfree hqueue)
    refine ⟨_, e, concluding_of_awake hawake t _, ?_⟩
    rw [repeatDueFor_of_due (s := s.arrive t) ha hdue, hmade]
    refine ⟨?_, ?_, ?_, he, hleft', hack, hdeadline, harrival, hcls, htemplate, ?_, besidesServiceKept_of_apart (by simp)⟩
    · rw [conclude_reports, makeRepeat_reports (cap := .evict v) (s := s.arrive t) hfits, Capacity.clear, hreports]
      rfl
    · exact victimMakesRoom_of_joined (e := { (s.arrive t).repeatEntry a with made := (evict v (s.arrive t)).seq.madeCount })
        hv hfree (by rw [makeRepeat_seq, ← hqueue]; rfl) (by rw [makeRepeat_seq]; simp [Capacity.clear])
        (by rw [makeRepeat_panel]; simpa [Capacity.clear, or_imp, forall_and] using hne) rfl
    · rw [conclude_panel, makeRepeat_panel]
      simp [Capacity.clear]
    · exact conclude_viewKept (congrArg _ (makeRepeat_floor ..))
  · intro t tag s a hawake ha hdue hleft hroom hfree hfits
    obtain rfl := tag_of_awaitingRecord ha
    have hcap := capacity_of_room (s := s.arrive t) a.cls hroom
    have hmade := repeatFallsDue_made (s := s.arrive t) hleft (by rw [hcap]; nofun)
    rw [hcap] at hmade
    obtain ⟨e, he, hleft', hack, hdeadline, harrival, hcls, htemplate⟩ :=
      repeatEntry_made .room (s := s.arrive t) (a := a) hfree
    refine ⟨_, e, concluding_of_awake hawake t _, ?_⟩
    rw [repeatDueFor_of_due (s := s.arrive t) ha hdue, hmade]
    refine ⟨?_, ?_, he, hleft', hack, hdeadline, harrival, hcls, htemplate, ?_, ?_, besidesServiceKept_of_apart (by simp)⟩
    · exact (conclude_reports _).trans (makeRepeat_reports (cap := .room) (s := s.arrive t) hfits a)
    · exact (conclude_panel _).trans (makeRepeat_panel ..)
    · have hlength := congrArg List.length (conclude_tags (makeRepeat a .room (s.arrive t)))
      rw [List.length_map, List.length_map, makeRepeat_seq] at hlength
      simpa [Capacity.clear] using hlength
    · exact conclude_viewKept (congrArg _ (makeRepeat_floor ..))

end Sys2Proof.Machine
end

section
/-! The hall port after a step (R17, R20), the recovery attempts (R68), the state after POWER_ON_RESET, and the field check of
PROMPT (R6). -/

namespace Sys2Proof.Machine
open Sys2Proof Host Safety

/-! The hall port under the selection. -/

/-- A selection leaves the hall port but for its list of frames, and the list too where no claim may be made. -/
def HallSelected (s u : State) : Prop :=
  ∃ l, u.hall = { s.hall with txList := l } ∧ (s.hall.state.isUp = false → l = s.hall.txList)

theorem HallSelected.of_eq {s u : State} (h : u.hall = s.hall) : HallSelected s u := ⟨s.hall.txList, h, fun _ => rfl⟩

theorem requestClaim_hallSelected {s : State} (hup : s.hall.state.isUp = true) (cls : Cls) (arrival length : Nat) :
    HallSelected s (requestClaim cls arrival length s) := by
  cases ho : s.floor.own.outgoing with
  | some o => exact .of_eq (requestClaim_of_outgoing ho ..).2
  | none =>
    unfold requestClaim handFrame
    dsimp only
    rw [if_neg (by simp [ho]), if_neg (by simp [HallState.isFault_of_isUp hup])]
    exact ⟨_, rfl, fun hdown => absurd (hup.symm.trans hdown) nofun⟩

theorem takeEntry_hallSelected (e : Entry) (s : State) : HallSelected s (takeEntry e s) := by
  unfold takeEntry
  dsimp only
  split
  · exact .of_eq (State.hall_eq_of_besideOutput (startSilent_besideOutput ..))
  · split
    · next hup => exact requestClaim_hallSelected (s := changeEntry e.tag (fun x => { x with state := .claiming })
        (fillSlot e.tag (s.kindFor e) (s.compose e (s.kindFor e)) s)) hup ..
    · exact .of_eq (State.hall_eq_of_besideOutput (startAudible_besideOutput ..))

theorem select_hallSelected (s : State) : HallSelected s (select s) := by
  unfold select
  split
  · exact .of_eq rfl
  · dsimp only
    split
    · exact takeEntry_hallSelected _ (s.onSeq fun q => { q with askedAt := s.now })
    · exact .of_eq rfl

theorem conclude_hallSelected {s : State} (hr : s.hall.recovery ≠ .waiting) : HallSelected s (conclude s) := by
  unfold conclude
  split
  · rw [startWaitingRecovery_of_ne hr, HallSelected, State.hall_eq_of_besideOutput (holdTimers_besideOutput _),
      State.hall_eq_of_besideOutput (holdSampling_besideOutput _)]
    exact select_hallSelected s
  · exact .of_eq rfl

theorem conclude_recovery {s : State} (hr : s.hall.recovery ≠ .waiting) : (conclude s).hall.recovery = s.hall.recovery := by
  obtain ⟨l, hl, -⟩ := conclude_hallSelected hr
  rw [hl]

theorem conclude_hallState {s : State} : (conclude s).hall.state = s.hall.state := by
  have hline := congrArg Apart.line (conclude_apart s)
  exact (congrArg HallPort.state hline : (conclude s).hall.besideList.state = _)

theorem conclude_txList_down {s : State} (hr : s.hall.recovery ≠ .waiting) (hdown : s.hall.state.isUp = false) :
    (conclude s).hall.txList = s.hall.txList := by
  obtain ⟨l, hl, hkept⟩ := conclude_hallSelected hr
  rw [hl]
  exact hkept hdown

theorem select_of_slot {s : State} (h : s.seq.slot.isSome = true) : select s = s := by
  obtain ⟨v, hv⟩ := Option.isSome_iff_exists.mp h
  unfold select
  rw [hv]

theorem slot_of_speaks {s : State} (h : s.slotSpeaks = true) : s.seq.slot.isSome = true := by
  cases hslot : s.seq.slot with
  | some v => rfl
  | none => simp [State.slotSpeaks, State.served, hslot] at h

/-- While the entry in the slot speaks, nothing of the hall port moves after a step: a waiting attempt waits on. -/
theorem conclude_hall_of_speaks {s : State} (h : s.slotSpeaks = true) : (conclude s).hall = s.hall := by
  unfold conclude
  split
  · rw [State.hall_eq_of_besideOutput (holdTimers_besideOutput _), State.hall_eq_of_besideOutput (holdSampling_besideOutput _)]
    have hwait : startWaitingRecovery s = s := if_neg (by simp [h])
    rw [hwait, select_of_slot (slot_of_speaks h)]
  · rfl

theorem besidesHallKept_of_apart {s w : State} (h : w.apart = s.apart) (hpanel : w.panel = s.panel) (hseq : w.seq = s.seq) :
    BesidesHallKept s (conclude w) := by
  have hsame : (conclude w).apart = s.apart := (conclude_apart w).trans h
  obtain ⟨-, -, hrem, hsettings, hframer, hstore, hlevel, hspeaker, hstatus⟩ := besidesServiceKept_of_apart hsame
  exact ⟨hrem, (conclude_panel w).trans hpanel, hsettings, hframer, conclude_queueKept (queueKept_of_seq hseq), hstore, hlevel,
    hspeaker, hstatus⟩

theorem besidesHallKept_onHall (s : State) (f : HallPort → HallPort) : BesidesHallKept s (conclude (s.onHall f)) := by
  have hsame (st : State) : BesidesHallKept st (conclude st) := besidesHallKept_of_apart rfl rfl rfl
  exact hsame (s.onHall f)

theorem recoveryDue_starts {s : State} {tm : Timer} (hrec : s.hall.recovery = .scheduled tm) (hdue : tm.due ≤ s.now)
    (hspeaks : s.slotSpeaks = false) : recoveryDue s = startAttempt s := by
  unfold recoveryDue
  simp only [hrec, Timer.reached_of_due hdue, hspeaks, if_true]
  rfl

theorem recoveryDue_waits {s : State} {tm : Timer} (hrec : s.hall.recovery = .scheduled tm) (hdue : tm.due ≤ s.now)
    (hspeaks : s.slotSpeaks = true) : recoveryDue s = s.onHall fun h => { h with recovery := .waiting } := by
  unfold recoveryDue
  simp only [hrec, Timer.reached_of_due hdue, hspeaks, if_true]

theorem startAttempt_of_nil {s : State} (hlist : s.hall.txList = []) :
    startAttempt s = s.onHall fun h => { h with recovery := .attempting s.now, txList := [⟨.presence .recovery, false⟩] } := by
  have hjoin : joinPresence .recovery s.hall.txList = [⟨.presence .recovery, false⟩] := by rw [hlist]; rfl
  unfold startAttempt handPresence
  rw [← hjoin]
  rfl

theorem HallState.not_isUp_of_isFault {h : HallState} (hfault : h.isFault = true) : h.isUp = false := by
  cases h with
  | fault _ => rfl
  | off => rfl
  | listenIn _ => exact absurd hfault nofun
  | on => exact absurd hfault nofun

/-- The hall port where an attempt that began at `start` has failed. -/
def HallPort.attemptFailed (start : Nat) (h : HallPort) : HallPort :=
  { h.withoutPresence .recovery with recovery := .scheduled ⟨start + 10000, 10000⟩ }

theorem recoveryTimesOut_of_due {s : State} {start : Nat} (hrec : s.hall.recovery = .attempting start)
    (hdue : start + 100 ≤ s.now) : recoveryTimesOut s = s.onHall (HallPort.attemptFailed start) := by
  unfold recoveryTimesOut attemptFails
  simp only [hrec]
  exact if_pos (Timer.reached_of_due (tm := ⟨start + 100, 100⟩) hdue)

theorem attemptFailed_txList (start : Nat) (h : HallPort) :
    (h.attemptFailed start).txList = h.txList.filter fun x => !x.isPresenceOf .recovery := by
  unfold HallPort.attemptFailed HallPort.withoutPresence
  split <;> rfl

theorem attemptFailed_state (start : Nat) (h : HallPort) : (h.attemptFailed start).state = h.state := by
  unfold HallPort.attemptFailed HallPort.withoutPresence
  split <;> rfl

theorem not_presence_of_attemptFailed {start : Nat} {h : HallPort} {x : TxEntry} (hx : x ∈ (h.attemptFailed start).txList) :
    x.frame ≠ .presence .recovery := by
  rw [attemptFailed_txList] at hx
  obtain ⟨-, hkeep⟩ := List.mem_filter.mp hx
  intro heq
  simp [TxEntry.isPresenceOf, heq] at hkeep

/-- Settles O40. -/
theorem recoveryAttemptsRun : Obligations.RecoveryAttemptsRun := by
  refine ⟨?_, ?_, ?_⟩
  · intro t s tm hawake hrec hdue hspeaks hlist hfault
    refine ⟨_, concluding_of_awake hawake t _, ?_⟩
    rw [recoveryDue_starts (s := s.arrive t) hrec hdue hspeaks, startAttempt_of_nil (s := s.arrive t) hlist]
    refine ⟨conclude_recovery nofun, conclude_txList_down nofun (HallState.not_isUp_of_isFault hfault), ?_,
      conclude_viewKept rfl, conclude_reportsKept ⟨rfl, rfl, rfl⟩, besidesHallKept_onHall (s.arrive t) _⟩
    exact lineKept_of_apart (congrArg Apart.line (conclude_apart _))
  · intro t s tm hawake hrec hdue hspeaks
    refine ⟨_, concluding_of_awake hawake t _, ?_⟩
    rw [recoveryDue_waits (s := s.arrive t) hrec hdue hspeaks]
    have hhall := conclude_hall_of_speaks (s := (s.arrive t).onHall fun h => { h with recovery := .waiting }) hspeaks
    exact ⟨congrArg HallPort.recovery hhall, (congrArg HallPort.txList hhall).trans rfl,
      lineKept_of_apart (congrArg Apart.line (conclude_apart _)), conclude_viewKept rfl, conclude_reportsKept ⟨rfl, rfl, rfl⟩,
      besidesHallKept_onHall (s.arrive t) _⟩
  · intro t start s hawake hrec hdue
    refine ⟨_, concluding_of_awake hawake t _, ?_⟩
    rw [recoveryTimesOut_of_due (s := s.arrive t) hrec hdue]
    refine ⟨conclude_recovery nofun, ?_, ?_, conclude_viewKept rfl, conclude_reportsKept ⟨rfl, rfl, rfl⟩,
      besidesHallKept_onHall (s.arrive t) _⟩
    · obtain ⟨more, hmore, hlist⟩ := conclude_txList (s := (s.arrive t).onHall (HallPort.attemptFailed start)) hawake nofun
      rw [hlist]
      intro x hx
      rcases List.mem_append.mp hx with hx | hx
      · exact not_presence_of_attemptFailed hx
      · rcases hmore with rfl | ⟨c, -, rfl⟩
        · exact absurd hx List.not_mem_nil
        · obtain rfl := List.mem_singleton.mp hx
          nofun
    · rw [conclude_hallState]
      exact attemptFailed_state start s.hall

/-- The hall port after a reset, by the station strap: 0 is no station. -/
theorem hallPoweredOn_fields (t : Nat) (station : BitVec 5) :
    (HallPort.poweredOn t station.toNat).state = (if station = 0#5 then .off else .listenIn ⟨t + 2500, 2500⟩)
      ∧ (HallPort.poweredOn t station.toNat).heartbeat =
          (if station = 0#5 then none else some ⟨t + 100 * station.toNat, 100 * station.toNat⟩)
      ∧ (HallPort.poweredOn t station.toNat).line = (if station = 0#5 then .silent else .waitIdle)
      ∧ (HallPort.poweredOn t station.toNat).txList = []
      ∧ (station ≠ 0#5 → (HallPort.poweredOn t station.toNat).watch = ⟨t + 10, 10⟩) := by
  have hoff : station.toNat = 0 ↔ station = 0#5 := by
    rw [← BitVec.toNat_inj]
    rfl
  unfold HallPort.poweredOn
  by_cases hzero : station = 0#5
  · rw [if_pos (hoff.mpr hzero), if_pos hzero, if_pos hzero, if_pos hzero]
    exact ⟨rfl, rfl, rfl, rfl, fun hne => absurd hzero hne⟩
  · rw [if_neg (mt hoff.mp hzero), if_neg hzero, if_neg hzero, if_neg hzero]
    exact ⟨rfl, rfl, rfl, rfl, fun _ => rfl⟩

/-- Settles O10: the state after the reset is written out in `poweredOn`, where nothing of the state before stands. -/
theorem powerOnResetStartsAfresh : Obligations.PowerOnResetStartsAfresh := by
  intro t station zone down flash s
  obtain ⟨hstate, hheartbeat, hline, hlist, hwatch⟩ := hallPoweredOn_fields t station
  refine ⟨poweredOn t station.toNat zone.toNat down flash s.pending, rfl, rfl, rfl, rfl, rfl, rfl, rfl, rfl, rfl, rfl, rfl, rfl,
    rfl, hstate, hheartbeat, hline, hlist, hwatch, rfl, rfl, rfl, rfl, rfl, rfl, rfl, rfl, rfl, fun r hr => ?_⟩
  rw [← hr]
  rfl

/-! The field check of a PROMPT cue. -/

theorem at1_lt (p : List Byte) (i : Nat) : at1 p i < 256 := (p.getD i 0#8).isLt

/-- A byte of 8 or more has one of its bits 3 to 7 set. -/
theorem reserved_iff {n : Nat} (h : n < 256) : 8 ≤ n ↔ ∃ i, 3 ≤ i ∧ i ≤ 7 ∧ n.testBit i = true := by
  constructor
  · intro h8
    obtain ⟨i, hi, hbit⟩ := Nat.exists_ge_and_testBit_of_ge_two_pow (n := 3) h8
    refine ⟨i, hi, ?_, hbit⟩
    by_contra hlarge
    have hpow : 2 ^ 8 ≤ 2 ^ i := Nat.pow_le_pow_right (by decide) (by omega)
    exact absurd (Nat.ge_two_pow_of_testBit hbit) (by omega)
  · rintro ⟨i, hi, -, hbit⟩
    have hpow : 2 ^ 3 ≤ 2 ^ i := Nat.pow_le_pow_right (by decide) hi
    exact Nat.le_trans hpow (Nat.ge_two_pow_of_testBit hbit)

theorem promptFields_none_iff (p : List Byte) :
    promptFields p = none ↔
      at1 p 0 = 0 ∨ 63 < at1 p 0 ∨ 3 < at1 p 1 ∨ 43200 < at2 p 3 ∨ 43200 < at2 p 5 ∨ at1 p 7 = 0
        ∨ (∃ i, 3 ≤ i ∧ i ≤ 7 ∧ (at1 p 7).testBit i = true) ∨ (at1 p 8 ≠ 0 ∧ at1 p 8 ≠ 1) ∨ 3 < at1 p 9 := by
  rw [← reserved_iff (at1_lt p 7)]
  unfold promptFields tagOk Config.paramLimit
  split <;> simp <;> grind

/-- Settles O58. -/
theorem promptFieldsAreChecked : Obligations.PromptFieldsAreChecked := by
  intro p hlen
  refine ⟨promptFields_none_iff p, ?_, ?_⟩
  · intro hnone down s
    have hlength : cueLength 0x05#8 = some 12 := rfl
    unfold checkCue
    simp only [hlength, hlen, if_true]
    exact congrArg (withFields · fun c => enqueuePrompt c s) hnone
  · intro c hc s arrival made
    unfold promptFields at hc
    split at hc
    · exact absurd hc nofun
    · obtain rfl := Option.some.inj hc
      refine ⟨?_, rfl, rfl, rfl⟩
      show max 5 (min 60 (at1 p 10)) = _
      (repeat' split) <;> omega

end Sys2Proof.Machine
end

section
/-! A whole cue from the hunt for its start (R191): the framer gives it to `takeCue`, which counts the activity first; and the
small settings MASK, QUIET and PHASE. -/

namespace Sys2Proof.Machine
open Sys2Proof Host Safety

/-! The bytes of one cue. -/

/-- The state with the framer at `f`. -/
def State.framing (s : State) (f : Framer) : State := { s with link := { s.link with framer := f } }

theorem State.framing_hunt {s : State} (h : s.link.framer = .hunt) : s.framing .hunt = s := by
  unfold State.framing
  rw [← h]

theorem receiveByte_of_some {s : State} {b type : Byte} {payload : List Byte} {l : CueLink} (down : Keys Bool)
    (hawake : s.power.mode ≠ .sleep) (hlistening : s.link.listening = true) (hgap : lateAt s.link.framer.gap s.now = false)
    (hbyte : s.link.receive s.now b = (l, some (type, payload))) :
    receiveByte down s b = takeCue down type payload { s with link := l } := by
  unfold receiveByte
  rw [if_pos hlistening, wakeIfAsleep_of_awake hawake, dropStale_of_not_late hgap]
  dsimp only
  rw [hbyte]
  rfl

/-- The last bytes of a payload, after those that the framer holds, close the cue. -/
theorem receiveBytes_payload (down : Keys Bool) (type : Byte) {s : State} (hawake : s.power.mode ≠ .sleep)
    (hlistening : s.link.listening = true) (rest got : List Byte) (hrest : rest ≠ []) :
    receiveBytes down rest (s.framing (.payload s.now type (got.length + rest.length) got)) =
      takeCue down type (got ++ rest) (s.framing .hunt) := by
  induction rest generalizing got with
  | nil => exact absurd rfl hrest
  | cons b rest ih =>
    have hgap (n : Nat) (g : List Byte) : lateAt (Framer.payload s.now type n g).gap s.now = false := not_late_of_stamp_now rfl
    show receiveBytes down rest (receiveByte down _ b) = _
    cases rest with
    | nil =>
      rw [receiveByte_of_some (s := s.framing (.payload s.now type (got.length + [b].length) got)) (b := b) (type := type)
        (payload := got ++ [b]) (l := { s.link with framer := .hunt }) down hawake hlistening (hgap _ _)
        (by simp [CueLink.receive, State.framing])]
      rfl
    | cons b' rest =>
      rw [receiveByte_of_none (s := s.framing (.payload s.now type (got.length + (b :: b' :: rest).length) got)) (b := b)
        (l := { s.link with framer := .payload s.now type (got.length + (b :: b' :: rest).length) (got ++ [b]) }) down hawake
        hlistening (hgap _ _) (by simp [CueLink.receive, State.framing])]
      have hnext := ih (got ++ [b]) (by simp)
      have hlength : (got ++ [b]).length + (b' :: rest).length = got.length + (b :: b' :: rest).length := by
        simp only [List.length_append, List.length_cons, List.length_nil]
        omega
      rw [hlength, List.append_assoc, List.singleton_append] at hnext
      exact hnext

theorem receiveBytes_cue {s : State} (down : Keys Bool) (type : Byte) {payload : List Byte} (hready : CueReady s)
    (hlen : payload.length ≤ 24) : receiveBytes down (cueFrame type payload) s = takeCue down type payload s := by
  have hstart := receiveBytes_start_type down type hready
  obtain ⟨hawake, hlistening, hhunt⟩ := hready
  have hbyte : (byte payload.length).toNat = payload.length := by
    show payload.length % 256 = payload.length
    omega
  have hsplit : receiveBytes down (cueFrame type payload) s =
      receiveBytes down payload (receiveByte down (s.framing (.length s.now type)) (byte payload.length)) := by
    show receiveBytes down payload (receiveByte down (receiveBytes down [0x7E#8, type] s) (byte payload.length)) = _
    rw [hstart]
    rfl
  have hgap : lateAt (Framer.length s.now type).gap s.now = false := not_late_of_stamp_now rfl
  have hlimit : ¬ Config.payloadLimit < payload.length := Nat.not_lt.mpr hlen
  rw [hsplit]
  cases payload with
  | nil =>
    rw [receiveByte_of_some (s := s.framing (.length s.now type)) (type := type) (payload := []) (l := { s.link with framer := .hunt }) down hawake
      hlistening hgap rfl]
    exact congrArg (takeCue down type []) (State.framing_hunt hhunt)
  | cons b rest =>
    have hne : byte (b :: rest).length ≠ 0#8 := by
      intro hzero
      rw [hzero] at hbyte
      simp at hbyte
    rw [receiveByte_of_none (s := s.framing (.length s.now type))
      (l := { s.link with framer := .payload s.now type (b :: rest).length [] }) down hawake hlistening hgap
      (by simp only [CueLink.receive, State.framing, if_neg hlimit, if_neg hne, hbyte])]
    have hbytes := receiveBytes_payload down type hawake hlistening (b :: rest) [] (by simp)
    rw [List.length_nil, Nat.zero_add, List.nil_append, State.framing_hunt hhunt] at hbytes
    exact hbytes

theorem cueArrives_of_ready {s : State} (down : Keys Bool) (type : Byte) {payload : List Byte} (trail : List Byte)
    (hready : CueReady s) (hlen : payload.length ≤ 24) :
    cueArrives down type payload trail s = receiveBytes down trail (takeCue down type payload s) := by
  have hkept : dropStale s = s := dropStale_of_not_late (by rw [hready.2.2]; rfl)
  unfold cueArrives
  dsimp only
  rw [hkept, hready.2.2]
  dsimp only [Framer.rest]
  rw [receiveBytes, List.foldl_append]
  exact congrArg (fun w => List.foldl (receiveByte down) w trail) (receiveBytes_cue down type hready hlen)

theorem hearCue_of_ready {s : State} (t : Nat) (down : Keys Bool) (type : Byte) {payload : List Byte} (trail : List Byte)
    (hready : CueReady s) (hlen : payload.length ≤ 24) :
    hearCue t down type payload trail s =
      .next (conclude (receiveBytes down trail (takeCue down type payload (s.arrive t)))) :=
  congrArg (fun w => Outcome.next (conclude w)) (cueArrives_of_ready (s := s.arrive t) down type trail hready hlen)

/-! The two answers to a cue. -/

theorem hearCue_taken {s w : State} {t : Nat} {down : Keys Bool} {type : Byte} {payload : List Byte} (hready : CueReady s)
    (hlen : payload.length ≤ 24) (hcheck : checkCue down type payload (cueActivity type payload (s.arrive t)) = .taken w) :
    hearCue t down type payload [] s = .next (conclude (lockFor type w)) := by
  rw [hearCue_of_ready t down type [] hready hlen]
  unfold takeCue
  simp only [hcheck]
  rfl

theorem hearCue_refused {s : State} {t : Nat} {down : Keys Bool} {type : Byte} {payload : List Byte} {r : Reason}
    (hready : CueReady s) (hlen : payload.length ≤ 24)
    (hcheck : checkCue down type payload (cueActivity type payload (s.arrive t)) = .refused r) :
    hearCue t down type payload [] s =
      .next (conclude (refuse type (refusedTag type payload) r (cueActivity type payload (s.arrive t)))) := by
  rw [hearCue_of_ready t down type [] hready hlen]
  unfold takeCue
  simp only [hcheck]
  rfl

theorem checkCue_of_length {type : Byte} {payload : List Byte} (h : cueLength type = some payload.length) (down : Keys Bool)
    (s : State) : checkCue down type payload s = handleCue down type payload s := by
  unfold checkCue
  simp only [h, if_true]

/-! The activity of a cue (R152, R182): the power mode, the display's lighting and the IDLE-mode slots. -/

theorem setMode_cases (m : PowerMode) (s : State) :
    ∃ d, setMode m s = { s with power := { s.power with mode := m }, display := d } ∧ d.statusLine = s.display.statusLine := by
  unfold setMode
  split
  next h => exact ⟨s.display, by rw [← h], rfl⟩
  next => exact ⟨_, rfl, by split <;> rfl⟩

/-- What stands of the power unit under an activity. -/
def Power.lasting (p : Power) := (p.speaker, p.amp, p.timersHeld)

theorem activity_cases {s : State} (hawake : s.power.mode ≠ .sleep) :
    ∃ p d, activity s = { s with power := p, display := d } ∧ p.mode = .active ∧ p.lasting = s.power.lasting
      ∧ d.statusLine = s.display.statusLine := by
  obtain ⟨d, hmode, hd⟩ := setMode_cases .active s
  unfold activity
  rw [if_neg hawake, hmode]
  exact ⟨_, _, rfl, rfl, rfl, hd⟩

/-- The slots in IDLE mode restarted at this instant (R160). -/
def State.restartedSlots (s : State) : Four (Option SlotRecord) := s.rem.slots.map (Option.map (SlotRecord.restarted s.now))

/-- The state whose cue or press counts as activity: the slots restarted, with what the lighting makes of power and display. -/
def State.stirred (s : State) (p : Power) (d : Display) : State :=
  { s with power := p, display := d, rem := { s.rem with slots := s.restartedSlots } }

/-- The power unit and the display after an activity. -/
structure StirredFrom (s : State) (p : Power) (d : Display) : Prop where
  mode : p.mode = .active
  lasting : p.lasting = s.power.lasting
  status : d.statusLine = s.display.statusLine

theorem cueActivity_cases {s : State} (type : Byte) (payload : List Byte) (hawake : s.power.mode ≠ .sleep) :
    ∃ p d, cueActivity type payload s = s.stirred p d ∧ StirredFrom s p d := by
  obtain ⟨p, d, hactive, hmode, hlasting, hstatus⟩ := activity_cases hawake
  unfold cueActivity
  dsimp only
  rw [hactive]
  split
  · exact ⟨p, d, rfl, hmode, hlasting, hstatus⟩
  · exact ⟨{ p with announcing := false }, d, rfl, hmode, hlasting, hstatus⟩

theorem StirredFrom.apart {s : State} {p : Power} {d : Display} (h : StirredFrom s p d) :
    (s.stirred p d).apart = { s.apart with rem := { s.rem with slots := s.restartedSlots } } := by
  have hspeaker : p.speaker = s.power.speaker := congrArg Prod.fst h.lasting
  simp [State.apart, State.stirred, hspeaker, h.status]

/-- A cue of its length whose handler takes it: what the handler makes of the stirred state. -/
theorem hearCue_handled {s : State} {t : Nat} {down : Keys Bool} {type : Byte} {payload : List Byte} {f : State → State}
    (hready : CueReady s) (hlen : payload.length ≤ 24) (hlength : cueLength type = some payload.length)
    (hhandle : ∀ st, handleCue down type payload st = .taken (f st)) :
    ∃ p d, StirredFrom (s.arrive t) p d
      ∧ hearCue t down type payload [] s = .next (conclude (lockFor type (f ((s.arrive t).stirred p d)))) := by
  obtain ⟨p, d, hact, hstirred⟩ := cueActivity_cases (s := s.arrive t) type payload hready.1
  exact ⟨p, d, hstirred, hearCue_taken hready hlen (by rw [hact, checkCue_of_length hlength, hhandle])⟩

theorem lockFor_of_none {type : Byte} (h : ¬ (type.toNat = 1 ∨ type.toNat = 2 ∨ type.toNat = 5)) (s : State) :
    lockFor type s = s := if_neg h

end Sys2Proof.Machine
end

section
/-! MASK, QUIET and PHASE (R15, R122, R144). -/

namespace Sys2Proof.Machine
open Sys2Proof Host Safety

/-! What stands of a state whose cue has been counted, for the cues that change one block more. -/

section
variable {s w : State}

/-- The clauses of a state that has left everything but its queue, its view and its reports to an operation. -/
theorem lineKept_conclude (h : w.apart.line = s.apart.line) : LineKept s (conclude w) :=
  lineKept_of_apart ((congrArg Apart.line (conclude_apart w)).trans h)

theorem settings_framer_conclude (h : w.apart.link = s.apart.link) : SettingsKept s (conclude w) ∧ FramerKept s (conclude w) :=
  settings_framer_of_apart ((congrArg Apart.link (conclude_apart w)).trans h)

theorem storeKept_conclude (h : w.apart.store = s.apart.store) : StoreKept s (conclude w) :=
  storeKept_of_apart ((congrArg Apart.store (conclude_apart w)).trans h)

theorem levelKept_conclude (h : w.apart.level = s.apart.level) : LevelKept s (conclude w) :=
  levelKept_of_apart ((congrArg Apart.level (conclude_apart w)).trans h)

theorem speakerKept_conclude (h : w.apart.speaker = s.apart.speaker) : SpeakerKept s (conclude w) :=
  speakerKept_of_apart ((congrArg Apart.speaker (conclude_apart w)).trans h)

theorem statusLineKept_conclude (h : w.apart.status = s.apart.status) : StatusLineKept s (conclude w) :=
  statusLineKept_of_apart ((congrArg Apart.status (conclude_apart w)).trans h)

theorem conclude_rem (s : State) : (conclude s).rem = s.rem := congrArg Apart.rem (conclude_apart s)

theorem estimateKept_conclude (h : w.rem.estimate = s.rem.estimate ∧ w.rem.running = s.rem.running ∧ w.rem.marks = s.rem.marks) :
    EstimateKept s (conclude w) := by
  unfold EstimateKept
  rw [conclude_rem]
  exact h

theorem panelKept_conclude (h : w.panel = s.panel) : PanelKept s (conclude w) := (conclude_panel w).trans h

end

/-- A state of one byte's cue: the byte itself. -/
theorem at1_singleton (b : Byte) : at1 [b] 0 = b.toNat := rfl

theorem maskField_of_lt {b : Byte} (h : b.toNat < 8) : maskField [b] = some (ClassMask.ofCode b.toNat) := if_pos h

theorem flagField_of_lt {b : Byte} (h : b.toNat < 2) : flagField [b] = some (decide (b.toNat = 1)) := by
  unfold flagField
  rw [at1_singleton]
  split
  next hzero => simp [hzero]
  next hzero => rw [if_pos (by omega)]; simp; omega

theorem exec_mask {s : State} (t : Nat) {b : Byte} (hready : CueReady s) (h : b.toNat < 8) :
    ∃ p d, StirredFrom (s.arrive t) p d
      ∧ exec (.mask t [b]) s = .next (conclude (maskTaken (ClassMask.ofCode b.toNat) ((s.arrive t).stirred p d))) :=
  hearCue_handled (f := maskTaken (ClassMask.ofCode b.toNat)) (type := 0x08#8) hready (by simp) rfl fun st =>
    congrArg (withFields · fun c => .taken (maskTaken c st)) (maskField_of_lt h)

theorem exec_quiet {s : State} (t : Nat) {b : Byte} (hready : CueReady s) (h : b.toNat < 2) :
    ∃ p d, StirredFrom (s.arrive t) p d
      ∧ exec (.quiet t [b]) s = .next (conclude (quietTaken (decide (b.toNat = 1)) ((s.arrive t).stirred p d))) :=
  hearCue_handled (f := quietTaken (decide (b.toNat = 1))) (type := 0x0A#8) hready (by simp) rfl fun st =>
    congrArg (withFields · fun c => .taken (quietTaken c st)) (flagField_of_lt h)

/-- What a PHASE cue in range carries (R144, R172). -/
def phaseCueOf (p : List Byte) : PhaseCue := ⟨⟨at1 p 0, at2 p 1⟩, if at2 p 3 = 65535 then none else some (at2 p 3)⟩

theorem phaseFields_of_range {p : List Byte} (hid : at1 p 0 ≤ 31) (hphrase : at2 p 1 ≤ 1023)
    (hhelp : at2 p 3 ≤ 255 ∨ at2 p 3 = 65535) : phaseFields p = some (phaseCueOf p) := by
  unfold phaseFields phaseCueOf
  rw [if_neg (by omega)]
  split
  next => rfl
  next hnone => rw [if_pos (by omega)]

theorem exec_phase {s : State} (t : Nat) {p : List Byte} (hready : CueReady s) (hlen : p.length = 5)
    (hfields : phaseFields p = some (phaseCueOf p)) :
    ∃ pw d, StirredFrom (s.arrive t) pw d
      ∧ exec (.phase t p) s = .next (conclude (phaseTaken (phaseCueOf p) ((s.arrive t).stirred pw d))) :=
  hearCue_handled (f := phaseTaken (phaseCueOf p)) (type := 0x03#8) hready (by omega) (by rw [hlen]; rfl) fun st =>
    congrArg (withFields · fun c => .taken (phaseTaken c st)) hfields

theorem phaseLookup_of_not_ready {s : State} (h : s.store.state ≠ .ready) (p : PhaseIds) :
    s.phaseLookup p = (phaseWord p.phase, 0) := by
  unfold State.phaseLookup
  split
  next hready => exact absurd hready h
  next => rfl

/-- The phase text looked up: the display's status line but for the text, and the counter of failed reads, are all it moves. -/
theorem phaseTaken_eq (c : PhaseCue) (s : State) :
    phaseTaken c s =
      { s with
        panel := { s.panel with helpTemplate := c.help }
        store := { s.store with
          readErrors := min 65535 (s.store.readErrors + (s.phaseLookup c.ids).2) }
        display := Display.restartPhase s.now { s.display with phase := some c.ids, phaseText := (s.phaseLookup c.ids).1 } } :=
  rfl

/-- Settles O21: each cue changes its own field of a stirred state. -/
theorem smallSettingsAreApplied : Obligations.SmallSettingsAreApplied := by
  refine ⟨?_, ?_, ?_⟩
  · intro t b s hready hb
    obtain ⟨p, d, hstirred, hexec⟩ := exec_mask t hready hb
    refine ⟨_, hexec, conclude_mask _, conclude_tags _, ?_⟩
    generalize hw : maskTaken (ClassMask.ofCode b.toNat) ((s.arrive t).stirred p d) = w
    have hrest : w.apart = { s.apart with rem := { s.rem with slots := (s.arrive t).restartedSlots } } := by
      rw [← hw]
      exact hstirred.apart
    have hlevel := levelKept_conclude (s := s) (by rw [hrest])
    obtain ⟨hsettings, hframer⟩ := settings_framer_conclude (s := s) (by rw [hrest])
    refine ⟨hlevel.2.2, lineKept_conclude (by rw [hrest]), conclude_viewKept ?_, estimateKept_conclude ?_,
      panelKept_conclude ?_, hsettings, hframer, conclude_reportsKept ?_, storeKept_conclude (by rw [hrest]),
      speakerKept_conclude (by rw [hrest]), statusLineKept_conclude (by rw [hrest])⟩
    all_goals rw [← hw]
    · rfl
    · exact ⟨rfl, rfl, rfl⟩
    · rfl
    · exact ⟨rfl, rfl, rfl⟩
  · intro t b s hready hb
    obtain ⟨p, d, hstirred, hexec⟩ := exec_quiet t hready hb
    refine ⟨_, hexec, ?_⟩
    generalize hw : quietTaken (decide (b.toNat = 1)) ((s.arrive t).stirred p d) = w
    have hrest : w.apart =
        { s.apart with
          rem := { s.rem with slots := (s.arrive t).restartedSlots }
          level := (s.level.ring, s.level.sampleDue, decide (b.toNat = 1)) } := by
      rw [← hw]
      exact congrArg (fun x : Apart => { x with level := (s.level.ring, s.level.sampleDue, decide (b.toNat = 1)) }) hstirred.apart
    have hlevel := congrArg Apart.level ((conclude_apart w).trans hrest)
    obtain ⟨hsettings, hframer⟩ := settings_framer_conclude (s := s) (by rw [hrest])
    refine ⟨congrArg (fun x => x.2.2) hlevel, congrArg Prod.fst hlevel, lineKept_conclude (by rw [hrest]),
      conclude_viewKept ?_, estimateKept_conclude ?_, panelKept_conclude ?_, hsettings, hframer, conclude_reportsKept ?_,
      conclude_queueKept ?_, storeKept_conclude (by rw [hrest]),
      speakerKept_conclude (by rw [hrest]), statusLineKept_conclude (by rw [hrest])⟩
    all_goals rw [← hw]
    · rfl
    · exact ⟨rfl, rfl, rfl⟩
    · rfl
    · exact ⟨rfl, rfl, rfl⟩
    · exact queueKept_of_seq rfl
  · intro t p s hready hlen hid hphrase hhelp
    obtain ⟨pw, d, hstirred, hexec⟩ := exec_phase t hready hlen (phaseFields_of_range hid hphrase hhelp)
    refine ⟨_, hexec, ?_⟩
    rw [phaseTaken_eq]
    generalize hlook : State.phaseLookup _ _ = look
    generalize hw : ({ (s.arrive t).stirred pw d with panel := _, store := _, display := _ } : State) = w
    have hrest : w.apart =
        { s.apart with
          rem := { s.rem with slots := (s.arrive t).restartedSlots }
          status := (some ⟨at1 p 0, at2 p 1⟩, look.1, s.display.timeShown, s.display.minutes, s.display.paused) } := by
      rw [← hw]
      have hstatus := hstirred.status
      have hsame := hstirred.apart
      simp only [State.apart, Apart.mk.injEq, Display.statusLine, Prod.mk.injEq] at hstatus hsame ⊢
      obtain ⟨-, -, hshown, hminutes, hpaused⟩ := hstatus
      refine ⟨hsame.1, hsame.2.1, rfl, rfl, rfl, rfl, hsame.2.2.2.2.2.2.1, rfl, rfl, hshown, hminutes, hpaused⟩
    have hstatus := congrArg Apart.status ((conclude_apart w).trans hrest)
    obtain ⟨hsettings, hframer⟩ := settings_framer_conclude (s := s) (by rw [hrest])
    refine ⟨congrArg Prod.fst hstatus, (conclude_panel w).trans ?_, congrArg (fun x => x.2.2.1) hstatus,
      congrArg (fun x => x.2.2.2.1) hstatus, fun hready => (congrArg (fun x => x.2.1) hstatus).trans ?_,
      lineKept_conclude (by rw [hrest]), conclude_viewKept ?_, estimateKept_conclude ?_, hsettings, hframer,
      conclude_reportsKept ?_, conclude_queueKept ?_, storeKept_conclude (by rw [hrest]), levelKept_conclude (by rw [hrest]),
      speakerKept_conclude (by rw [hrest])⟩
    case refine_2 =>
      have hword := phaseLookup_of_not_ready (s := (s.arrive t).stirred pw d) hready (phaseCueOf p).ids
      rw [hlook] at hword
      rw [hword]
      rfl
    all_goals rw [← hw]
    · rfl
    · rfl
    · exact ⟨rfl, rfl, rfl⟩
    · exact ⟨rfl, rfl, rfl⟩
    · exact queueKept_of_seq rfl

end Sys2Proof.Machine
end

section
/-! What follows a step, as one equation (R17, R20, R111): the selection on the state whose waiting attempt has started, and
beside it the sample hold and the hold of the mode timers, which touch nothing that a service shows. -/

namespace Sys2Proof.Machine
open Sys2Proof Host Safety

/-- A state without the sample hold and the mode timers, which a step's end may set. -/
def State.besideHolds (s : State) : State :=
  { s with
    level := { s.level with hold := .open_ }
    power := { s.power with dim := none, timersHeld := false, standby := none } }

theorem holdSampling_besideHolds (s : State) : (holdSampling s).besideHolds = s.besideHolds := by
  unfold holdSampling
  split
  · rfl
  · split <;> rfl

theorem holdTimers_besideHolds (s : State) : (holdTimers s).besideHolds = s.besideHolds := by
  unfold holdTimers
  split
  · rfl
  · split
    · split <;> rfl
    · rfl

theorem conclude_besideHolds {s : State} (hawake : s.power.mode ≠ .sleep) :
    (conclude s).besideHolds = (select (startWaitingRecovery s)).besideHolds := by
  rw [conclude_of_awake hawake, holdTimers_besideHolds, holdSampling_besideHolds]

theorem conclude_of_selected {s : State} (hawake : s.power.mode ≠ .sleep) (hr : s.hall.recovery ≠ .waiting) :
    (conclude s).besideHolds = (select s).besideHolds := by
  rw [conclude_besideHolds hawake, startWaitingRecovery_of_ne hr]

theorem conclude_of_served {s : State} (hawake : s.power.mode ≠ .sleep) (hslot : s.seq.slot.isSome = true)
    (hr : s.hall.recovery ≠ .waiting) : (conclude s).besideHolds = s.besideHolds := by
  rw [conclude_of_selected hawake hr, select_of_slot hslot]

/-- The fields of a state that the holds leave. -/
theorem besideHolds_fields {u w : State} (h : u.besideHolds = w.besideHolds) :
    u.now = w.now ∧ u.seq = w.seq ∧ u.store = w.store ∧ u.speech = w.speech ∧ u.tone = w.tone ∧ u.hall = w.hall
      ∧ u.floor = w.floor ∧ u.panel = w.panel ∧ u.display = w.display ∧ u.link = w.link := by
  simp only [State.besideHolds, State.mk.injEq] at h
  obtain ⟨hnow, -, -, hlink, hseq, hstore, hspeech, htone, -, hhall, hfloor, -, hpanel, -, hdisplay⟩ := h
  exact ⟨hnow, hseq, hstore, hspeech, htone, hhall, hfloor, hpanel, hdisplay, hlink⟩

theorem besideHolds_level {u w : State} (h : u.besideHolds = w.besideHolds) :
    u.level.lastG = w.level.lastG ∧ u.level.maskedPhrases = w.level.maskedPhrases ∧ u.level.ring = w.level.ring
      ∧ u.level.quiet = w.level.quiet := by
  have hlevel : u.besideHolds.level = w.besideHolds.level := congrArg State.level h
  exact ⟨(congrArg LevelUnit.lastG hlevel : _), (congrArg LevelUnit.maskedPhrases hlevel : _),
    (congrArg LevelUnit.ring hlevel : _), (congrArg LevelUnit.quiet hlevel : _)⟩

theorem besideHolds_power {u w : State} (h : u.besideHolds = w.besideHolds) :
    u.power.mode = w.power.mode ∧ u.power.amp = w.power.amp := by
  have hpower : u.besideHolds.power = w.besideHolds.power := congrArg State.power h
  exact ⟨(congrArg Power.mode hpower : _), (congrArg Power.amp hpower : _)⟩

/-! A waiting recovery attempt that starts. -/

/-- The start of a waiting attempt moves the hall port's list and recovery alone. -/
theorem startWaitingRecovery_onHall (s : State) :
    ∃ x l, startWaitingRecovery s = s.onHall (fun h => { h with recovery := x, txList := l }) ∧ x.open_ = s.hall.recovery.open_ := by
  unfold startWaitingRecovery
  split
  next h => exact ⟨.attempting s.now, _, rfl, by rw [h.1]; rfl⟩
  next => exact ⟨s.hall.recovery, s.hall.txList, rfl, rfl⟩

theorem eligible_onHall {s : State} {x : Recovery} {l : List TxEntry} (h : x.open_ = s.hall.recovery.open_) (e : Entry) :
    (s.onHall fun p => { p with recovery := x, txList := l }).eligible e = s.eligible e := by
  have hperm : (s.onHall fun p => { p with recovery := x, txList := l }).audiblePermitted e = s.audiblePermitted e := by
    unfold State.audiblePermitted
    rw [State.onHall_hall]
    dsimp only
    rw [h]
    rfl
  unfold State.eligible
  rw [hperm]
  rfl

/-! Whom the selection takes (R18). -/

theorem kindFor_silent_iff (s : State) (e : Entry) : s.kindFor e = .silent ↔ SilentNow s e := by
  have hvolume : effectiveVolume e.cls s.panel.volume = 0 ↔ e.cls.val ≤ 1 ∧ s.panel.volume = 0 := by
    unfold effectiveVolume Cls.val
    cases e.cls <;> simp
  unfold State.kindFor SilentNow
  rw [← hvolume]
  split
  next h => simp [h]
  next h =>
    split
    next hzero => simp [hzero]
    next hzero =>
      split
      next hfault => simp [hfault]
      next hfault =>
        refine ⟨fun hk => absurd hk nofun, ?_⟩
        rintro (hch | hz | ⟨hcls, hf⟩)
        · exact absurd hch h
        · exact absurd hz hzero
        · exact absurd ⟨hf, hcls⟩ hfault

theorem kindFor_audible {s : State} {e : Entry} (h : ¬ SilentNow s e) : s.kindFor e = .audible s.routeNow := by
  have hne := mt (kindFor_silent_iff s e).mp h
  unfold State.kindFor at hne ⊢
  (repeat' split) <;> simp_all

theorem routeNow_iff (s : State) : RouteNow s s.routeNow := by
  unfold RouteNow State.routeNow SpeakerResult.isFault
  (repeat' split) <;> simp_all

theorem outranked_eq_false_iff (s : State) (e : Entry) : s.outranked e.cls e.arrival = false ↔ FloorClear s e := by
  unfold State.outranked State.outrankedWith FloorClear
  rw [List.any_eq_false]
  simp only [Bool.and_eq_true, decide_eq_true_eq, not_and, Bool.not_eq_true]
  rfl

theorem Recovery.open_eq_false_iff (r : Recovery) : r.open_ = false ↔ r ≠ .waiting ∧ ∀ start, r ≠ .attempting start := by
  cases r <;> simp [Recovery.open_]

theorem audiblePermitted_iff (s : State) (e : Entry) : s.audiblePermitted e = true ↔ AudibleNow s e := by
  unfold State.audiblePermitted AudibleNow
  rw [← outranked_eq_false_iff, ← and_assoc, ← Recovery.open_eq_false_iff]
  cases hstate : s.hall.state <;> simp [HallState.isUp]

theorem lateAt_eq_false_iff (tm : Option Timer) (now : Nat) :
    lateAt tm now = false ↔ ∀ x, tm = some x → now ≤ x.due + (x.len + 99) / 100 := by
  cases tm with
  | none => simp [lateAt]
  | some x =>
    have hlate : lateAt (some x) now = false ↔ now ≤ x.due + (x.len + 99) / 100 :=
      decide_eq_false_iff_not.trans Nat.not_lt
    rw [hlate]
    exact ⟨fun h y hy => Option.some.inj hy ▸ h, fun h => h x rfl⟩

theorem eligible_iff (s : State) (e : Entry) : s.eligible e = true ↔ MaySelect s e := by
  have hgap : s.floor.own.state ≠ .gap ∨ e.cls = .safety ↔ (s.floor.own.state = .gap → e.cls = .safety) :=
    (imp_iff_not_or (a := s.floor.own.state = .gap)).symm
  unfold MaySelect
  rw [← hgap, ← lateAt_eq_false_iff]
  unfold State.eligible
  by_cases hsilent : SilentNow s e
  · rw [(kindFor_silent_iff s e).mpr hsilent]
    simp [hsilent]
    tauto
  · rw [kindFor_audible hsilent]
    simp [hsilent, audiblePermitted_iff]
    tauto

/-- The state on which the selection asks: the instant of the latest asking is now. -/
def State.asking (s : State) : State := s.onSeq fun q => { q with askedAt := s.now }

theorem select_of_some {s : State} {e : Entry} (hslot : s.seq.slot = none) (h : s.seq.queue.find? s.eligible = some e) :
    select s = takeEntry e s.asking := by
  unfold select
  rw [hslot]
  simp only [h]
  rfl

theorem find_of_nextTaken {s : State} {e : Entry} (h : NextTaken s e) : s.seq.queue.find? s.eligible = some e := by
  obtain ⟨-, l, r, hqueue, hbefore, he⟩ := h
  rw [hqueue, List.find?_append, List.find?_eq_none.mpr fun x hx => (mt (eligible_iff s x).mp (hbefore x hx)), Option.none_or,
    List.find?_cons_of_pos ((eligible_iff s e).mpr he)]

theorem nextTaken_mem {s : State} {e : Entry} (h : NextTaken s e) : e ∈ s.seq.queue := by
  obtain ⟨-, l, r, hqueue, -⟩ := h
  simp [hqueue]

/-! The slot that the selection fills. -/

/-- A service but for what its start sets of the level that waits and of the silent end. -/
def Service.chosen (v : Service) : Service := { v with pendingLevel := none, silentEnd := none }

theorem map_chosen {o : Option Service} {f : Service → Service} (h : ∀ v, (f v).chosen = v.chosen) :
    (o.map f).map Service.chosen = o.map Service.chosen := by
  cases o <;> simp [h]

theorem startAudible_chosen (tag : Nat) (route : Route) (script : Script) (s : State) :
    (startAudible tag route script s).seq.slot.map Service.chosen = s.seq.slot.map Service.chosen := by
  unfold startAudible
  split
  · rfl
  · dsimp only
    split
    · simp only [beginWarmUp_seq, postText_seq, activity_seq, changeEntry_slot]
      exact map_chosen fun _ => rfl
    · simp only [beginOutput_seq, postText_seq, activity_seq, changeEntry_slot]
      exact map_chosen fun _ => rfl

theorem startSilent_chosen (tag : Nat) (script : Script) (s : State) :
    (startSilent tag script s).seq.slot.map Service.chosen = s.seq.slot.map Service.chosen := by
  unfold startSilent
  split
  · rfl
  · simp only [changeService, State.onSeq_seq, postText_seq, activity_seq, changeEntry_slot]
    exact map_chosen fun _ => rfl

/-- The service of a kind with its script, as the selection puts it into the slot. -/
def chosenService (tag : Nat) (kind : Kind) (script : Script) : Service where
  tag := tag
  kind := kind
  script := script
  preempt := false
  overlap := false
  removal := none
  pendingLevel := none
  silentEnd := none

theorem takeEntry_chosen (e : Entry) (s : State) :
    (takeEntry e s).seq.slot.map Service.chosen =
      some (chosenService e.tag (s.kindFor e) (s.compose e (s.kindFor e)).script) := by
  unfold takeEntry
  dsimp only
  split
  next =>
    rw [startSilent_chosen]
    rfl
  next route =>
    split
    · rw [requestClaim_seq]
      rfl
    · rw [startAudible_chosen]
      rfl

theorem conclude_chosen_tag {s : State} (hslot : s.seq.slot = none) {v : Service} (h : (conclude s).seq.slot = some v) :
    ∃ e ∈ s.seq.queue, e.tag = v.tag := by
  by_cases hawake : s.power.mode = .sleep
  · rw [conclude, if_neg (by simp [State.awake, hawake]), hslot] at h
    exact absurd h nofun
  · rw [(besideHolds_fields (conclude_besideHolds hawake)).2.1] at h
    have hseq := startWaitingRecovery_seq s
    generalize startWaitingRecovery s = r at h hseq
    rw [← hseq] at hslot ⊢
    cases hfind : r.seq.queue.find? r.eligible with
    | none =>
      rw [select_of_none hslot hfind] at h
      exact absurd (hslot.symm.trans h) nofun
    | some e =>
      rw [select_of_some hslot hfind] at h
      have htaken := takeEntry_chosen e r.asking
      rw [h] at htaken
      exact ⟨e, List.mem_of_find?_eq_some hfind, (congrArg Service.tag (Option.some.inj htaken)).symm⟩

end Sys2Proof.Machine
end

section
/-! CANCEL and ACK (R29, R30, R177, R179). -/

namespace Sys2Proof.Machine
open Sys2Proof Host Safety

/-- What every cue leaves that touches the queue, the panel, the floor and the reports alone. -/
theorem besides_of_stirred {s w : State} {t : Nat} {p : Power} {d : Display} (hstirred : StirredFrom (s.arrive t) p d)
    (hw : w.apart = ((s.arrive t).stirred p d).apart) :
    LineKept s (conclude w) ∧ EstimateKept s (conclude w) ∧ SettingsKept s (conclude w) ∧ FramerKept s (conclude w)
      ∧ StoreKept s (conclude w) ∧ LevelKept s (conclude w) ∧ SpeakerKept s (conclude w) ∧ StatusLineKept s (conclude w) := by
  rw [hstirred.apart] at hw
  obtain ⟨hsettings, hframer⟩ := settings_framer_conclude (s := s) (by rw [hw]; rfl)
  refine ⟨lineKept_conclude (by rw [hw]; rfl), estimateKept_conclude ?_, hsettings, hframer, storeKept_conclude (by rw [hw]; rfl),
    levelKept_conclude (by rw [hw]; rfl), speakerKept_conclude (by rw [hw]; rfl), statusLineKept_conclude (by rw [hw]; rfl)⟩
  rw [show w.rem = _ from congrArg Apart.rem hw]
  exact ⟨rfl, rfl, rfl⟩

theorem tagField_of_range {b : Byte} (h1 : 1 ≤ b.toNat) (h63 : b.toNat ≤ 63) : tagField [b] = some b.toNat :=
  if_pos (by simp [tagOk, at1_singleton, h1, h63])

/-- A cue that answers a tag, CANCEL with its outcome or ACK with its own, where nothing awaits the answer. -/
def AnswersEntry (c : Instr) (o : DoneOutcome) (t : Nat) (b : Byte) (s : State) : Prop :=
  c = .cancel t [b] ∧ o = .cancelled
    ∨ c = .ack t [b] ∧ o = .acked ∧ s.awaitingRecord b.toNat = none ∧ ∃ r ∈ s.panel.repeats, r.tag = b.toNat

/-- What CANCEL does to a stirred state. -/
theorem exec_cancel {s : State} (t : Nat) {b : Byte} (hready : CueReady s) (h1 : 1 ≤ b.toNat) (h63 : b.toNat ≤ 63) :
    ∃ p d, StirredFrom (s.arrive t) p d
      ∧ (∀ w, cancelTag b.toNat ((s.arrive t).stirred p d) = .taken w → exec (.cancel t [b]) s = .next (conclude w))
      ∧ ∀ r, cancelTag b.toNat ((s.arrive t).stirred p d) = .refused r →
          exec (.cancel t [b]) s = .next (conclude (refuse 0x06#8 b.toNat r ((s.arrive t).stirred p d))) := by
  obtain ⟨p, d, hact, hstirred⟩ := cueActivity_cases (s := s.arrive t) 0x06#8 [b] hready.1
  have hcheck (st : State) : checkCue s.keysDown 0x06#8 [b] st = cancelTag b.toNat st := by
    rw [checkCue_of_length rfl]
    exact congrArg (withFields · fun c => cancelTag c st) (tagField_of_range h1 h63)
  refine ⟨p, d, hstirred, fun w hw => ?_, fun r hr => ?_⟩
  · exact hearCue_taken hready (by simp) (by rw [hact, hcheck, hw])
  · have hrefused := hearCue_refused (down := s.keysDown) (payload := [b]) (r := r) hready (by simp) (by rw [hact, hcheck, hr])
    rw [hact] at hrefused
    exact hrefused

/-- What ACK does to a stirred state. -/
theorem exec_ack {s : State} (t : Nat) {b : Byte} (hready : CueReady s) (h1 : 1 ≤ b.toNat) (h63 : b.toNat ≤ 63) :
    ∃ p d, StirredFrom (s.arrive t) p d
      ∧ (∀ w, ackTag b.toNat ((s.arrive t).stirred p d) = .taken w → exec (.ack t [b]) s = .next (conclude w))
      ∧ ∀ r, ackTag b.toNat ((s.arrive t).stirred p d) = .refused r →
          exec (.ack t [b]) s = .next (conclude (refuse 0x07#8 b.toNat r ((s.arrive t).stirred p d))) := by
  obtain ⟨p, d, hact, hstirred⟩ := cueActivity_cases (s := s.arrive t) 0x07#8 [b] hready.1
  have hcheck (st : State) : checkCue s.keysDown 0x07#8 [b] st = ackTag b.toNat st := by
    rw [checkCue_of_length rfl]
    exact congrArg (withFields · fun c => ackTag c st) (tagField_of_range h1 h63)
  refine ⟨p, d, hstirred, fun w hw => ?_, fun r hr => ?_⟩
  · exact hearCue_taken hready (by simp) (by rw [hact, hcheck, hw])
  · have hrefused := hearCue_refused (down := s.keysDown) (payload := [b]) (r := r) hready (by simp) (by rw [hact, hcheck, hr])
    rw [hact] at hrefused
    exact hrefused

theorem cancelTag_entry {s : State} {tag : Nat} {e : Entry} (he : s.entry tag = some e) :
    cancelTag tag s = .taken (removeEntry tag .cancelled s) := by
  unfold cancelTag
  rw [he]

theorem cancelTag_record {s : State} {tag : Nat} {a : Awaiting} (he : s.entry tag = none) (ha : s.awaitingRecord tag = some a) :
    cancelTag tag s = .taken (answerAwaiting tag .cancelled s) := by
  unfold cancelTag
  rw [he]
  dsimp only
  rw [ha]

theorem cancelTag_free {s : State} {tag : Nat} (he : s.entry tag = none) (ha : s.awaitingRecord tag = none) :
    cancelTag tag s = .refused .noSuchTag := by
  unfold cancelTag
  rw [he]
  dsimp only
  rw [ha]

theorem ackTag_record {s : State} {tag : Nat} {a : Awaiting} (ha : s.awaitingRecord tag = some a) :
    ackTag tag s = .taken (answerAwaiting tag .acked s) := by
  unfold ackTag acknowledge
  rw [if_pos (by simp [ha]), ha]

theorem ackTag_repeat {s : State} {tag : Nat} (ha : s.awaitingRecord tag = none) (hr : ∃ r ∈ s.panel.repeats, r.tag = tag) :
    ackTag tag s = .taken (removeEntry tag .acked s) := by
  unfold ackTag acknowledge
  rw [if_pos (by simpa [ha] using hr), ha]

theorem ackTag_free {s : State} {tag : Nat} (ha : s.awaitingRecord tag = none) (hr : ∀ r ∈ s.panel.repeats, r.tag ≠ tag) :
    ackTag tag s = .refused .noSuchTag := by
  unfold ackTag
  exact if_neg (by simpa [ha] using hr)

theorem exec_answersEntry {c : Instr} {o : DoneOutcome} {s : State} {t : Nat} {b : Byte} {e : Entry} (hready : CueReady s)
    (h1 : 1 ≤ b.toNat) (h63 : b.toNat ≤ 63) (hanswers : AnswersEntry c o t b s) (he : s.entry b.toNat = some e) :
    ∃ p d, StirredFrom (s.arrive t) p d
      ∧ exec c s = .next (conclude (removeEntry b.toNat o ((s.arrive t).stirred p d))) := by
  rcases hanswers with ⟨rfl, rfl⟩ | ⟨rfl, rfl, ha, hr⟩
  · obtain ⟨p, d, hstirred, htaken, -⟩ := exec_cancel t hready h1 h63
    exact ⟨p, d, hstirred, htaken _ (cancelTag_entry (s := (s.arrive t).stirred p d) he)⟩
  · obtain ⟨p, d, hstirred, htaken, -⟩ := exec_ack t hready h1 h63
    exact ⟨p, d, hstirred, htaken _ (ackTag_repeat (s := (s.arrive t).stirred p d) ha hr)⟩

/-! The removal by the entry's state (R29, R94). -/

theorem removeEntry_queued {s : State} {tag : Nat} {e : Entry} (he : s.entry tag = some e) (hstate : e.state = .queued)
    (o : DoneOutcome) : removeEntry tag o s = leaveWith e o s := by
  unfold removeEntry
  simp only [he, hstate]

theorem removeEntry_claiming {s : State} {tag : Nat} {e : Entry} (he : s.entry tag = some e) (hstate : e.state = .claiming)
    (o : DoneOutcome) : removeEntry tag o s = leaveWith e o (emptySlot (withdraw s)) := by
  unfold removeEntry
  simp only [he, hstate]

theorem removeEntry_showing {s : State} {tag : Nat} {e : Entry} (he : s.entry tag = some e) (hstate : e.state = .showing)
    (o : DoneOutcome) : removeEntry tag o s = leaveWith e o (emptySlot s) := by
  unfold removeEntry
  simp only [he, hstate]

theorem removeEntry_speaking {s : State} {tag : Nat} {e : Entry} {v : Service} (he : s.entry tag = some e)
    (hstate : e.state = .speaking) (hslot : s.seq.slot = some v) (o : DoneOutcome) :
    removeEntry tag o s = s.onSeq fun q => { q with slot := some { v with removal := some (v.removal.getD o) } } := by
  unfold removeEntry
  simp only [he, hstate]
  unfold changeService
  cases hremoval : v.removal <;> simp [State.onSeq, hslot, hremoval]

/-- A waiting entry of the machine controller answered: removed at once, its claim withdrawn. -/
theorem waitingEntry_answered {c : Instr} {o : DoneOutcome} {s : State} {t : Nat} {b : Byte} {e : Entry} (hready : CueReady s)
    (h1 : 1 ≤ b.toNat) (h63 : b.toNat ≤ 63) (hanswers : AnswersEntry c o t b s) (he : s.entry b.toNat = some e)
    (hwaits : e.state = .queued ∨ e.state = .claiming) (horigin : e.origin = .machine) (hfits : ReportFits s) :
    ∃ u, exec c s = .next u
      ∧ u.link.reports = s.link.reports ++ [.done b.toNat o] ∧ u.entry b.toNat = none
      ∧ u.panel = { s.panel with repeats := s.panel.repeats.filter fun r => r.tag ≠ b.toNat }
      ∧ (e.state = .queued → ViewKept s u) ∧ (e.state = .claiming → ClaimWithdrawn s u ∧ u.floor.peers = s.floor.peers)
      ∧ LineKept s u ∧ EstimateKept s u ∧ SettingsKept s u ∧ FramerKept s u ∧ StoreKept s u ∧ LevelKept s u
      ∧ SpeakerKept s u ∧ StatusLineKept s u := by
  obtain ⟨p, d, hstirred, hexec⟩ := exec_answersEntry hready h1 h63 hanswers he
  have htag := tag_of_entry he
  refine ⟨_, hexec, ?_⟩
  rcases hwaits with hstate | hstate
  · rw [removeEntry_queued (s := (s.arrive t).stirred p d) he hstate]
    refine ⟨?_, conclude_entry_none (htag ▸ leaveWith_entry e _ _), ?_, fun _ => ?_, ?_,
      besides_of_stirred hstirred (leaveWith_apart _ _ _)⟩
    · rw [conclude_reports, leaveWith_reports horigin _ (by exact hfits), htag]
      rfl
    · rw [conclude_panel, leaveWith_panel, htag]
      rfl
    · exact conclude_viewKept (by rw [leaveWith_floor]; rfl)
    · simp [hstate]
  · rw [removeEntry_claiming (s := (s.arrive t).stirred p d) he hstate]
    refine ⟨?_, conclude_entry_none (htag ▸ leaveWith_entry e _ _), ?_, ?_, fun _ => ⟨?_, ?_⟩,
      besides_of_stirred hstirred (by rw [leaveWith_apart, emptySlot_apart, withdraw_apart])⟩
    · rw [conclude_reports, leaveWith_reports horigin _ (reportFits_of_link (by rw [emptySlot_link, withdraw_link]; rfl) hfits), htag, emptySlot_link,
        withdraw_link]
      rfl
    · rw [conclude_panel, leaveWith_panel, htag, emptySlot_panel, withdraw_panel]
      rfl
    · simp [hstate]
    · exact claimWithdrawn_of_withdraw (s := (s.arrive t).stirred p d) (by
        rw [leaveWith_power, emptySlot_power, withdraw_power]
        exact fun h => absurd (hstirred.mode.symm.trans h) nofun) (by simp) (by simp)
    · have hpeers := congrArg Apart.peers (conclude_apart (leaveWith e o (emptySlot (withdraw ((s.arrive t).stirred p d)))))
      rw [leaveWith_apart, emptySlot_apart, withdraw_apart, hstirred.apart] at hpeers
      exact hpeers

@[simp] theorem leaveWith_display (e : Entry) (outcome : DoneOutcome) (s : State) :
    (leaveWith e outcome s).display = s.display := by
  unfold leaveWith reportDone
  split <;> rfl

theorem conclude_display_of_none {s : State} (hawake : s.power.mode ≠ .sleep) (hslot : s.seq.slot = none)
    (hqueue : s.seq.queue = []) : (conclude s).display = s.display := by
  obtain ⟨x, l, hwaiting, -⟩ := startWaitingRecovery_onHall s
  have hdisplay := (besideHolds_fields (conclude_besideHolds hawake)).2.2.2.2.2.2.2.2.1
  rw [hwaiting, select_of_none (s := s.onHall _) hslot (by simp [hqueue])] at hdisplay
  exact hdisplay

theorem answerAwaiting_reports {s : State} (h : ReportFits s) (tag : Nat) (o : DoneOutcome) :
    (answerAwaiting tag o s).link.reports = s.link.reports ++ [.done tag o] :=
  report_fits (s := dropAwaiting tag s) h _

/-- An awaiting record answered. -/
theorem record_answered {s : State} {t : Nat} {p : Power} {d : Display} (hstirred : StirredFrom (s.arrive t) p d) (tag : Nat)
    (o : DoneOutcome) (hfits : ReportFits s) :
    let u := conclude (answerAwaiting tag o ((s.arrive t).stirred p d))
    u.link.reports = s.link.reports ++ [.done tag o]
      ∧ u.panel = { s.panel with awaiting := s.panel.awaiting.filter fun x => x.tag ≠ tag }
      ∧ LineKept s u ∧ ViewKept s u ∧ EstimateKept s u ∧ SettingsKept s u ∧ FramerKept s u ∧ QueueKept s u ∧ StoreKept s u
      ∧ LevelKept s u ∧ SpeakerKept s u ∧ StatusLineKept s u := by
  obtain ⟨hline, hestimate, hsettings, hframer, hstore, hlevel, hspeaker, hstatus⟩ :=
    besides_of_stirred hstirred (answerAwaiting_apart tag o _)
  refine ⟨?_, ?_, hline, conclude_viewKept ?_, hestimate, hsettings, hframer, conclude_queueKept (queueKept_of_seq ?_), hstore,
    hlevel, hspeaker, hstatus⟩
  · rw [conclude_reports, answerAwaiting_reports (s := (s.arrive t).stirred p d) hfits]
    rfl
  · rw [conclude_panel, answerAwaiting_panel]
    rfl
  · rw [answerAwaiting_floor]
    rfl
  · rw [answerAwaiting_seq]
    rfl

theorem refuse_reports {s : State} (h : ReportFits s) (type : Byte) (tag : Nat) (r : Reason) :
    (refuse type tag r s).link.reports = s.link.reports ++ [.refused type tag r] :=
  report_fits (s := s.onLink fun l => { l with refusals := bump l.refusals }) h _

/-- Settles O24. -/
theorem cancelAndAckAnswer : Obligations.CancelAndAckAnswer := by
  refine ⟨?_, ?_, ?_, ?_, ?_, ?_, ?_, ?_⟩
  · intro t b s e hready h1 h63 he hwaits horigin hfits
    exact waitingEntry_answered hready h1 h63 (.inl ⟨rfl, rfl⟩) he hwaits horigin hfits
  · intro t b s a hready h1 h63 he ha hfits
    obtain ⟨p, d, hstirred, htaken, -⟩ := exec_cancel t hready h1 h63
    exact ⟨_, htaken _ (cancelTag_record (s := (s.arrive t).stirred p d) he ha), record_answered hstirred _ _ hfits⟩
  · intro t b s a hready h1 h63 ha hfits
    obtain ⟨p, d, hstirred, htaken, -⟩ := exec_ack t hready h1 h63
    exact ⟨_, htaken _ (ackTag_record (s := (s.arrive t).stirred p d) ha), record_answered hstirred _ _ hfits⟩
  · intro t b s e hready h1 h63 ha hr he hwaits horigin hfits
    exact waitingEntry_answered hready h1 h63 (.inr ⟨rfl, rfl, ha, hr⟩) he hwaits horigin hfits
  · intro c o t b s e hready h1 h63 hanswers he hstate horigin hfits
    obtain ⟨p, d, hstirred, hexec⟩ := exec_answersEntry hready h1 h63 hanswers he
    have htag := tag_of_entry he
    have hawake : p.mode ≠ .sleep := by
      rw [hstirred.mode]
      nofun
    refine ⟨_, hexec, ?_⟩
    rw [removeEntry_showing (s := (s.arrive t).stirred p d) he hstate]
    generalize hw : leaveWith e o (emptySlot ((s.arrive t).stirred p d)) = w
    have hslot : w.seq.slot = none := by rw [← hw, leaveWith_seq, emptySlot_seq]
    have hnone : w.entry b.toNat = none := by
      rw [← hw]
      exact htag ▸ leaveWith_entry e _ _
    have hmode : w.power.mode ≠ .sleep := by
      rw [← hw, leaveWith_power, emptySlot_power]
      exact hawake
    obtain ⟨hline, hestimate, hrest⟩ := besides_of_stirred hstirred (w := w)
      (by rw [← hw, leaveWith_apart, emptySlot_apart])
    refine ⟨?_, conclude_entry_none hnone, fun hqueue => ⟨?_, ?_⟩, fun v hv hvtag => ?_, ?_, hline, conclude_viewKept ?_, hestimate,
      hrest⟩
    · rw [conclude_reports, ← hw, leaveWith_reports horigin _ (by exact hfits), htag]
      rfl
    · refine (conclude_of_empty hmode hslot ?_).1
      rw [← hw, leaveWith_seq]
      exact List.filter_eq_nil_iff.mpr (by simp [State.stirred, hqueue])
    · rw [conclude_display_of_none hmode hslot]
      · rw [← hw, leaveWith_display]
        rfl
      · rw [← hw, leaveWith_seq]
        exact List.filter_eq_nil_iff.mpr (by simp [State.stirred, hqueue])
    · obtain ⟨x, hx, hxtag⟩ := conclude_chosen_tag hslot hv
      have hsome := (entry_isSome_iff w b.toNat).mpr ⟨x, hx, hxtag.trans hvtag⟩
      rw [hnone] at hsome
      exact absurd hsome nofun
    · rw [conclude_panel, ← hw, leaveWith_panel, htag]
      rfl
    · rw [← hw, leaveWith_floor]
      rfl
  · intro c o t b s e v hready h1 h63 hanswers he hstate hslot
    obtain ⟨p, d, hstirred, hexec⟩ := exec_answersEntry hready h1 h63 hanswers he
    refine ⟨_, hexec, ?_⟩
    rw [removeEntry_speaking (s := (s.arrive t).stirred p d) he hstate hslot]
    obtain ⟨hline, hestimate, hsettings, hframer, hrest⟩ := besides_of_stirred hstirred (State.onSeq_apart _ _)
    refine ⟨(conclude_of_slot rfl).1.trans rfl, conclude_reportsKept ⟨rfl, rfl, rfl⟩, panelKept_conclude rfl, hline,
      conclude_viewKept rfl, hestimate, hsettings, hframer, hrest⟩
  · intro t b s hready h1 h63 he ha hfits
    obtain ⟨p, d, hstirred, -, hrefused⟩ := exec_cancel t hready h1 h63
    refine ⟨_, hrefused _ (cancelTag_free (s := (s.arrive t).stirred p d) he ha), ?_⟩
    exact (conclude_reports _).trans (refuse_reports (s := (s.arrive t).stirred p d) hfits _ _ _)
  · intro t b s hready h1 h63 ha hr hfits
    obtain ⟨p, d, hstirred, -, hrefused⟩ := exec_ack t hready h1 h63
    refine ⟨_, hrefused _ (ackTag_free (s := (s.arrive t).stirred p d) ha hr), ?_, panelKept_conclude ?_,
      conclude_queueKept (queueKept_of_seq ?_)⟩
    · exact (conclude_reports _).trans (refuse_reports (s := (s.arrive t).stirred p d) hfits _ _ _)
    · exact report_panel _ _
    · exact report_seq _ _

end Sys2Proof.Machine
end

section
/-! PROMPT (R2, R6 to R12): an entry made, with or without a victim, an entry replaced in place, and the refusals. -/

namespace Sys2Proof.Machine
open Sys2Proof Host Safety

/-! The fields of a PROMPT in range. -/

/-- The prompt that a PROMPT payload carries. -/
def promptCueOf (p : List Byte) : PromptCue where
  tag := at1 p 0
  cls := Cls.ofCode (at1 p 1)
  template := at1 p 2
  param1 := at2 p 3
  param2 := at2 p 5
  channels := channelsOf (at1 p 7)
  ackRequired := at1 p 8 = 1
  repeatsLeft := at1 p 9
  repeatInterval := max 5 (min 60 (at1 p 10))
  deadline := at1 p 11

theorem Cls.val_ofCode {n : Nat} (h : n ≤ 3) : (Cls.ofCode n).val = n := by
  interval_cases n <;> rfl

theorem promptFields_of_range {p : List Byte} (h : PromptInRange p) : promptFields p = some (promptCueOf p) := by
  obtain ⟨-, htag, htag', hcls, hp1, hp2, hch, hch', hack, hleft⟩ := h
  unfold promptFields
  rw [if_neg (by simp only [tagOk, Config.paramLimit]; simp; omega)]
  rfl

/-- The tag of a PROMPT's entry, its fields and its deadline, where the entry of its cue stands as made or as selected. -/
theorem promptEntry_taken {p : List Byte} (h : PromptInRange p) {s : State} {arrival made : Nat} {e e' : Entry}
    (he : e = { s.promptEntry (promptCueOf p) arrival 0 with made := made }) (htaken : e.Taken e') :
    CarriesPrompt p e' ∧ e'.arrival = arrival ∧ e'.made = made ∧ HasPromptDeadline p s.now e' := by
  have hcls := Cls.val_ofCode h.2.2.2.1
  cases htaken <;> subst he
  case same => exact ⟨⟨rfl, hcls, rfl, rfl, rfl, rfl, rfl, rfl, rfl, rfl⟩, rfl, rfl, fun _ => rfl⟩
  all_goals exact ⟨⟨rfl, hcls, rfl, rfl, rfl, rfl, rfl, rfl, rfl, rfl⟩, rfl, rfl, nofun⟩

theorem unknownTemplate_eq_false_iff (s : State) (n : Nat) : s.unknownTemplate n = false ↔ TemplateKnown s n := by
  unfold State.unknownTemplate State.holdsTemplate TemplateKnown
  by_cases h : s.store.state = .ready <;> simp [h]

/-! The capacity check and the entry that joins. -/

theorem enqueuePrompt_made {c : PromptCue} {s : State} (hknown : TemplateKnown s c.template) (hfree : s.entry c.tag = none)
    (hcap : s.capacity c.cls ≠ .full) : enqueuePrompt c s = .taken (newPrompt c (s.capacity c.cls) s) := by
  unfold enqueuePrompt
  rw [if_neg (by simp [(unknownTemplate_eq_false_iff s _).mpr hknown]), hfree]
  dsimp only
  split
  next h => exact absurd h hcap
  next => rfl

/-- The report that supersedes an awaiting record of a tag (R10). -/
def supersededReports (s : State) (tag : Nat) : List Report :=
  if (s.awaitingRecord tag).isSome then [.done tag .superseded] else []

theorem supersedeAwaiting_seq (tag : Nat) (s : State) : (supersedeAwaiting tag s).seq = s.seq := supersedeAwaiting_queue tag s

theorem supersedeAwaiting_panel (tag : Nat) (s : State) :
    (supersedeAwaiting tag s).panel = { s.panel with awaiting := s.panel.awaiting.filter fun a => a.tag ≠ tag } := by
  unfold supersedeAwaiting
  split
  next => rfl
  next h =>
    have hall : s.panel.awaiting.filter (fun a => a.tag ≠ tag) = s.panel.awaiting :=
      List.filter_eq_self.mpr fun a ha => by simpa using List.find?_eq_none.mp h a ha
    rw [hall]

theorem supersedeAwaiting_floor (tag : Nat) (s : State) : (supersedeAwaiting tag s).floor = s.floor := by
  unfold supersedeAwaiting
  split <;> simp

theorem supersedeAwaiting_now (tag : Nat) (s : State) : (supersedeAwaiting tag s).now = s.now := by
  unfold supersedeAwaiting
  split <;> simp

theorem supersedeAwaiting_reports {s : State} (hlistening : s.link.listening = true) (hfits : s.link.reports.length + 1 ≤ 16)
    (tag : Nat) :
    (supersedeAwaiting tag s).link.reports = s.link.reports ++ supersededReports s tag
      ∧ (supersedeAwaiting tag s).link.listening = true := by
  unfold supersedeAwaiting supersededReports
  split
  next h =>
    rw [h]
    exact ⟨answerAwaiting_reports ⟨hlistening, hfits⟩ tag _, (report_listening _ _).trans hlistening⟩
  next h =>
    rw [h]
    exact ⟨(List.append_nil _).symm, hlistening⟩

theorem supersededReports_length (s : State) (tag : Nat) : (supersededReports s tag).length ≤ 1 := by
  unfold supersededReports
  split <;> simp

/-- The reports of the capacity check: its victim's. -/
def clearReports : Capacity → List Report
  | .evict v => victimReports v
  | _ => []

theorem clearReports_length (cap : Capacity) : (clearReports cap).length ≤ 1 := by
  cases cap with
  | evict v => exact victimReports_length v
  | _ => exact Nat.zero_le _

theorem clear_reports {cap : Capacity} {s : State} (hlistening : s.link.listening = true) (hfits : s.link.reports.length + 1 ≤ 16) :
    (cap.clear s).link.reports = s.link.reports ++ clearReports cap ∧ (cap.clear s).link.listening = true := by
  cases cap with
  | evict v => exact evict_reports hlistening hfits
  | room => exact ⟨(List.append_nil _).symm, hlistening⟩
  | full => exact ⟨(List.append_nil _).symm, hlistening⟩

theorem clear_now (cap : Capacity) (s : State) : (cap.clear s).now = s.now := by
  cases cap with
  | evict v => exact evict_now v s
  | _ => rfl

/-- The state in which a new prompt of a tag joins: its awaiting record answered, its victim gone. -/
def roomMade (tag : Nat) (cap : Capacity) (s : State) : State := cap.clear (supersedeAwaiting tag s)

theorem newPrompt_eq (c : PromptCue) (cap : Capacity) (s : State) :
    newPrompt c cap s =
      report (.queued c.tag) (joinQueue ((roomMade c.tag cap s).promptEntry c (roomMade c.tag cap s).now 0) (roomMade c.tag cap s)) :=
  rfl

theorem roomMade_now (tag : Nat) (cap : Capacity) (s : State) : (roomMade tag cap s).now = s.now :=
  (clear_now _ _).trans (supersedeAwaiting_now _ _)

theorem roomMade_reports {s : State} {tag : Nat} {cap : Capacity} (hlistening : s.link.listening = true)
    (hfits : s.link.reports.length + (supersededReports s tag).length + (clearReports cap).length + 1 ≤ 16) :
    (roomMade tag cap s).link.reports = s.link.reports ++ supersededReports s tag ++ clearReports cap
      ∧ ReportFits (roomMade tag cap s) := by
  have hsuperseded := supersededReports_length s tag
  have hcleared := clearReports_length cap
  obtain ⟨hfirst, hlistens⟩ := supersedeAwaiting_reports (tag := tag) hlistening (by omega)
  obtain ⟨hboth, hlistens'⟩ := clear_reports (cap := cap) hlistens (by rw [hfirst, List.length_append]; omega)
  rw [hfirst] at hboth
  refine ⟨hboth, hlistens', ?_⟩
  rw [roomMade, hboth, List.length_append, List.length_append]
  exact Nat.lt_of_succ_le hfits

theorem roomMade_entry {s : State} {tag : Nat} (hfree : s.entry tag = none) (cap : Capacity) :
    (roomMade tag cap s).entry tag = none := by
  have hseq := supersedeAwaiting_seq tag s
  cases cap with
  | evict v =>
    refine entry_none_of_filter hfree (p := fun e => e.tag ≠ v.tag) ?_
    rw [roomMade, Capacity.clear, evict_seq, hseq]
  | room =>
    show ((supersedeAwaiting tag s).seq.queue.find? _) = none
    rw [hseq]
    exact hfree
  | full =>
    show ((supersedeAwaiting tag s).seq.queue.find? _) = none
    rw [hseq]
    exact hfree

/-! The lock that a taken PROMPT closes (R192). -/

/-- The state with its configuration locked. -/
def State.lock (s : State) : State := s.onLink fun l => { l with locked := true }

theorem besides_of_locked {s w : State} {t : Nat} {p : Power} {d : Display} (hstirred : StirredFrom (s.arrive t) p d)
    (hw : w.apart = ((s.arrive t).stirred p d).apart) :
    LineKept s (conclude w.lock) ∧ EstimateKept s (conclude w.lock) ∧ StoreKept s (conclude w.lock) ∧ LevelKept s (conclude w.lock)
      ∧ SpeakerKept s (conclude w.lock) ∧ StatusLineKept s (conclude w.lock) := by
  have hlock : w.lock.apart = { w.apart with link := { w.apart.link with locked := true } } := rfl
  rw [hstirred.apart] at hw
  rw [hw] at hlock
  refine ⟨lineKept_conclude (by rw [hlock]; rfl), estimateKept_conclude ?_, storeKept_conclude (by rw [hlock]; rfl),
    levelKept_conclude (by rw [hlock]; rfl), speakerKept_conclude (by rw [hlock]; rfl), statusLineKept_conclude (by rw [hlock]; rfl)⟩
  rw [show w.lock.rem = _ from congrArg Apart.rem hlock]
  exact ⟨rfl, rfl, rfl⟩

theorem conclude_locked (w : State) : (conclude w.lock).link.locked = true := by
  have hlink := conclude_link w.lock
  exact (congrArg CueLink.locked hlink : (conclude w.lock).link.besideLatches.locked = _)

/-- What PROMPT does to a stirred state. -/
theorem exec_prompt {s : State} (t : Nat) {p : List Byte} (hready : CueReady s) (hrange : PromptInRange p) :
    ∃ pw d, StirredFrom (s.arrive t) pw d
      ∧ (∀ w, enqueuePrompt (promptCueOf p) ((s.arrive t).stirred pw d) = .taken w →
          exec (.prompt t p) s = .next (conclude w.lock))
      ∧ ∀ r, enqueuePrompt (promptCueOf p) ((s.arrive t).stirred pw d) = .refused r →
          exec (.prompt t p) s = .next (conclude (refuse 0x05#8 (at1 p 0) r ((s.arrive t).stirred pw d))) := by
  obtain ⟨pw, d, hact, hstirred⟩ := cueActivity_cases (s := s.arrive t) 0x05#8 p hready.1
  have hlength : cueLength 0x05#8 = some p.length := by
    rw [hrange.1]
    rfl
  have hcheck (st : State) : checkCue s.keysDown 0x05#8 p st = enqueuePrompt (promptCueOf p) st := by
    rw [checkCue_of_length hlength]
    exact congrArg (withFields · fun c => enqueuePrompt c st) (promptFields_of_range hrange)
  have hlen : p.length ≤ 24 := by rw [hrange.1]; decide
  refine ⟨pw, d, hstirred, fun w hw => ?_, fun r hr => ?_⟩
  · exact hearCue_taken (type := 0x05#8) hready hlen (by rw [hact, hcheck, hw])
  · have hrefused := hearCue_refused (type := 0x05#8) (down := s.keysDown) (r := r) hready hlen (by rw [hact, hcheck, hr])
    have htag : refusedTag 0x05#8 p = at1 p 0 := if_pos ⟨by decide, by decide, hlength⟩
    rw [hact, htag] at hrefused
    exact hrefused

/-- A PROMPT that makes an entry, by what the capacity check allows. -/
theorem prompt_made {s : State} {t : Nat} {p : List Byte} {cap : Capacity} (hready : CueReady s) (hrange : PromptInRange p)
    (hknown : TemplateKnown s (at1 p 2)) (hfree : s.entry (at1 p 0) = none) (hcap : s.capacity (Cls.ofCode (at1 p 1)) = cap)
    (hroom : cap ≠ .full)
    (hfits : s.link.reports.length + (supersededReports s (at1 p 0)).length + (clearReports cap).length + 1 ≤ 16) :
    ∃ (w st : State) (e : Entry), exec (.prompt t p) s = .next (conclude w.lock)
      ∧ st.seq = s.seq ∧ st.panel = s.panel ∧ st.floor = s.floor ∧ e.tag = at1 p 0
      ∧ w.seq.queue = insertEntry e (roomMade (at1 p 0) cap st).seq.queue
      ∧ w.seq.internalDrops = (roomMade (at1 p 0) cap st).seq.internalDrops
      ∧ w.panel = (roomMade (at1 p 0) cap st).panel ∧ w.floor = (roomMade (at1 p 0) cap st).floor
      ∧ (conclude w.lock).link.reports =
          s.link.reports ++ supersededReports s (at1 p 0) ++ clearReports cap ++ [.queued (at1 p 0)]
      ∧ (conclude w.lock).link.locked = true
      ∧ (∃ e, (conclude w.lock).entry (at1 p 0) = some e ∧ CarriesPrompt p e ∧ e.arrival = s.instant t
          ∧ HasPromptDeadline p (s.instant t) e)
      ∧ LineKept s (conclude w.lock) ∧ EstimateKept s (conclude w.lock) ∧ StoreKept s (conclude w.lock)
      ∧ LevelKept s (conclude w.lock) ∧ SpeakerKept s (conclude w.lock) ∧ StatusLineKept s (conclude w.lock) := by
  obtain ⟨pw, d, hstirred, htaken, -⟩ := exec_prompt t hready hrange
  generalize hst : (s.arrive t).stirred pw d = st at htaken
  have hseq : st.seq = s.seq := by rw [← hst]; rfl
  have hpanel : st.panel = s.panel := by rw [← hst]; rfl
  have hlink : st.link = s.link := by rw [← hst]; rfl
  have hnow : st.now = s.instant t := by rw [← hst]; rfl
  have hfree' : st.entry (at1 p 0) = none := by rw [State.entry, hseq]; exact hfree
  have hcap' : st.capacity (promptCueOf p).cls = cap := (capacity_congr (by rw [hseq]) _).trans hcap
  have hknown' : TemplateKnown st (at1 p 2) := by rw [← hst]; exact hknown
  have hreports : supersededReports st (at1 p 0) = supersededReports s (at1 p 0) := by
    unfold supersededReports State.awaitingRecord
    rw [hpanel]
  have htaken := htaken _ (enqueuePrompt_made (c := promptCueOf p) hknown' hfree' (by rw [hcap']; exact hroom))
  rw [hcap'] at htaken
  have hfree'' := roomMade_entry hfree' cap
  have hnow' := (roomMade_now (at1 p 0) cap st).trans hnow
  obtain ⟨hjoins, hfits'⟩ := roomMade_reports (s := st) (tag := at1 p 0) (cap := cap) (by rw [hlink]; exact hready.2.1)
    (by rw [hreports, hlink]; exact hfits)
  generalize hx : roomMade (at1 p 0) cap st = x at hfree'' hnow' hjoins hfits'
  have hw : newPrompt (promptCueOf p) cap st = report (.queued (at1 p 0)) (joinQueue (x.promptEntry (promptCueOf p) x.now 0) x) := by
    rw [← hx]
    rfl
  have hapart : x.apart = st.apart := by
    rw [← hx]
    simp [roomMade]
  refine ⟨newPrompt (promptCueOf p) cap st, st, { x.promptEntry (promptCueOf p) x.now 0 with made := x.seq.madeCount }, htaken,
    hseq, hpanel, by rw [← hst]; rfl, rfl, ?_, ?_, ?_, ?_, ?_, conclude_locked _, ?_,
    besides_of_locked hstirred (by rw [newPrompt_apart, hst])⟩
  · rw [hw, hx]
    rfl
  · rw [hw, hx]
    rfl
  · rw [hw, hx]
    rfl
  · rw [hw, hx]
    rfl
  · rw [conclude_reports, hw]
    show (report (.queued (at1 p 0)) (joinQueue _ x)).link.reports = _
    rw [report_fits (s := joinQueue _ x) hfits', joinQueue_link, hjoins, hreports, hlink]
  · have hjoined : (newPrompt (promptCueOf p) cap st).lock.entry (at1 p 0) =
        some { x.promptEntry (promptCueOf p) x.now 0 with made := x.seq.madeCount } := by
      rw [hw]
      exact entry_of_joined (s := x) (e := { x.promptEntry (promptCueOf p) x.now 0 with made := x.seq.madeCount }) hfree'' rfl
    obtain ⟨e', he', htaken'⟩ := conclude_entry_taken hjoined
    obtain ⟨hcarries, harrival, -, hdeadline⟩ := promptEntry_taken hrange rfl htaken'
    rw [hnow'] at harrival hdeadline
    exact ⟨e', he', hcarries, harrival, hdeadline⟩

/-! The replacement in place (R4, R8, R9). -/

theorem replaceEntry_reports {c : PromptCue} {old : Entry} {s : State} (hlistening : s.link.listening = true)
    (hfits : s.link.reports.length + 2 ≤ 16) :
    (replaceEntry c old s).link.reports = s.link.reports ++ [.done c.tag .superseded, .queued c.tag] := by
  unfold replaceEntry
  dsimp only
  generalize hx : (dropRepeat old.tag s).onSeq _ = x
  have hlink : x.link = s.link := by rw [← hx]; rfl
  have hfirst := report_fits (s := x) ⟨by rw [hlink]; exact hlistening, by rw [hlink]; exact Nat.lt_of_succ_lt hfits⟩
    (.done c.tag .superseded)
  have hroom : ReportFits (report (.done c.tag .superseded) x) := by
    refine ⟨by rw [report_listening, hlink]; exact hlistening, ?_⟩
    rw [hfirst, List.length_append, hlink]
    exact hfits
  rw [report_fits hroom, hfirst, hlink, List.append_assoc]
  rfl

theorem replaceEntry_fields (c : PromptCue) (old : Entry) (s : State) :
    (replaceEntry c old s).seq.queue =
        insertEntry (s.promptEntry c old.arrival old.made) (s.seq.queue.filter fun e => e.tag ≠ old.tag)
      ∧ (replaceEntry c old s).panel = { s.panel with repeats := s.panel.repeats.filter fun r => r.tag ≠ old.tag }
      ∧ (replaceEntry c old s).floor = s.floor ∧ (replaceEntry c old s).hall = s.hall
      ∧ (replaceEntry c old s).power = s.power := ⟨rfl, rfl, rfl, rfl, rfl⟩

theorem replaceEntry_entry {c : PromptCue} {old : Entry} {s : State} (htag : old.tag = c.tag) :
    (replaceEntry c old s).entry c.tag = some (s.promptEntry c old.arrival old.made) := by
  rw [State.entry, (replaceEntry_fields c old s).1]
  refine find_insertEntry_same (e := s.promptEntry c old.arrival old.made) (List.find?_eq_none.mpr fun x hx => ?_)
  have hne := (List.mem_filter.mp hx).2
  rw [htag] at hne
  show ¬ decide (x.tag = c.tag) = true
  simpa using hne

theorem enqueuePrompt_queued {c : PromptCue} {s : State} {old : Entry} (hknown : TemplateKnown s c.template)
    (he : s.entry c.tag = some old) (hstate : old.state = .queued) : enqueuePrompt c s = .taken (replaceEntry c old s) := by
  unfold enqueuePrompt
  rw [if_neg (by simp [(unknownTemplate_eq_false_iff s _).mpr hknown]), he]
  dsimp only
  rw [hstate]

theorem enqueuePrompt_claiming {c : PromptCue} {s : State} {old : Entry} (hknown : TemplateKnown s c.template)
    (he : s.entry c.tag = some old) (hstate : old.state = .claiming) :
    enqueuePrompt c s = .taken (replaceEntry c old (emptySlot (withdraw s))) := by
  unfold enqueuePrompt
  rw [if_neg (by simp [(unknownTemplate_eq_false_iff s _).mpr hknown]), he]
  dsimp only
  rw [hstate]

/-- What a replacement answers and keeps, where `x` is the state it finds: as it was, or with the claim withdrawn. -/
theorem prompt_replaced {s x : State} {t : Nat} {p : List Byte} {pw : Power} {d : Display} {old : Entry}
    (hready : CueReady s) (hrange : PromptInRange p) (hstirred : StirredFrom (s.arrive t) pw d) (htag : old.tag = at1 p 0)
    (hfits : s.link.reports.length + 2 ≤ 16) (hlink : x.link = s.link) (hpanel : x.panel = s.panel)
    (hnow : x.now = s.instant t) (hapart : x.apart = ((s.arrive t).stirred pw d).apart) :
    let u := conclude (replaceEntry (promptCueOf p) old x).lock
    u.link.reports = s.link.reports ++ [.done (at1 p 0) .superseded, .queued (at1 p 0)] ∧ u.link.locked = true
      ∧ u.panel = { s.panel with repeats := s.panel.repeats.filter fun r => r.tag ≠ at1 p 0 }
      ∧ (∃ e, u.entry (at1 p 0) = some e ∧ CarriesPrompt p e ∧ e.arrival = old.arrival ∧ e.made = old.made
          ∧ HasPromptDeadline p (s.instant t) e)
      ∧ u.floor.peers = s.floor.peers
      ∧ LineKept s u ∧ EstimateKept s u ∧ StoreKept s u ∧ LevelKept s u ∧ SpeakerKept s u ∧ StatusLineKept s u := by
  refine ⟨?_, conclude_locked _, ?_, ?_, ?_, besides_of_locked hstirred (by rw [replaceEntry_apart, hapart])⟩
  · rw [conclude_reports]
    show (replaceEntry (promptCueOf p) old x).link.reports = _
    rw [replaceEntry_reports (by rw [hlink]; exact hready.2.1) (by rw [hlink]; exact hfits), hlink]
    rfl
  · rw [conclude_panel]
    show (replaceEntry (promptCueOf p) old x).panel = _
    rw [(replaceEntry_fields _ old x).2.1, hpanel, htag]
  · obtain ⟨e', he', htaken⟩ := conclude_entry_taken (s := (replaceEntry (promptCueOf p) old x).lock)
      (replaceEntry_entry (c := promptCueOf p) htag)
    obtain ⟨hcarries, harrival, hmade, hdeadline⟩ := promptEntry_taken (made := old.made) hrange rfl htaken
    rw [hnow] at hdeadline
    exact ⟨e', he', hcarries, harrival, hmade, hdeadline⟩
  · have hpeers := congrArg Apart.peers (conclude_apart (replaceEntry (promptCueOf p) old x).lock)
    have hkept := congrArg Apart.peers ((replaceEntry_apart (promptCueOf p) old x).trans hapart)
    exact hpeers.trans (hkept.trans rfl)

theorem claimWithdrawn_of_replaced {st : State} {c : PromptCue} {old : Entry} (hawake : st.power.mode ≠ .sleep) :
    ClaimWithdrawn st (conclude (replaceEntry c old (emptySlot (withdraw st))).lock) := by
  obtain ⟨-, -, hfloor, hhall, hpower⟩ := replaceEntry_fields c old (emptySlot (withdraw st))
  refine claimWithdrawn_of_withdraw (w := (replaceEntry c old (emptySlot (withdraw st))).lock) ?_ (hfloor.trans (emptySlot_floor _))
    (hhall.trans (emptySlot_hall _))
  have hmode : (replaceEntry c old (emptySlot (withdraw st))).power.mode = st.power.mode := by
    rw [hpower, emptySlot_power, withdraw_power]
  exact fun h => hawake (hmode.symm.trans h)

/-! The refusals (R7, R8, R11). -/

theorem enqueuePrompt_refused {c : PromptCue} {s : State} {r : Reason}
    (h : r = .unknownTemplate ∧ ¬ TemplateKnown s c.template
      ∨ r = .tagBusy ∧ TemplateKnown s c.template
        ∧ (∃ e, s.entry c.tag = some e ∧ (e.state = .speaking ∨ e.state = .showing))
      ∨ r = .queueFull ∧ TemplateKnown s c.template ∧ s.entry c.tag = none ∧ s.capacity c.cls = .full) :
    enqueuePrompt c s = .refused r := by
  have hunknown := unknownTemplate_eq_false_iff s c.template
  unfold enqueuePrompt
  rcases h with ⟨rfl, hnot⟩ | ⟨rfl, hknown, e, he, hserved⟩ | ⟨rfl, hknown, hfree, hfull⟩
  · exact if_pos (by simpa using mt hunknown.mp hnot)
  · rw [if_neg (by simp [hunknown.mpr hknown]), he]
    dsimp only
    rcases hserved with hstate | hstate <;> rw [hstate]
  · rw [if_neg (by simp [hunknown.mpr hknown]), hfree]
    dsimp only
    rw [hfull]

theorem conclude_refusals (w : State) : (conclude w).link.refusals = w.link.refusals :=
  (congrArg CueLink.refusals (conclude_link w) : (conclude w).link.besideLatches.refusals = _)

theorem report_refusals (r : Report) (s : State) : (report r s).link.refusals = s.link.refusals :=
  (congrArg (fun a => a.link.refusals) (report_apart r s) : (report r s).apart.link.refusals = _)

/-- What a refused cue counts, answers and keeps (R192). -/
theorem cue_refused {s : State} {t : Nat} {p : Power} {d : Display} (hstirred : StirredFrom (s.arrive t) p d)
    (hfits : ReportFits s) (type : Byte) (tag : Nat) (r : Reason) :
    let u := conclude (refuse type tag r ((s.arrive t).stirred p d))
    u.link.reports = s.link.reports ++ [.refused type tag r]
      ∧ u.link.refusals = min 65535 (s.link.refusals + 1)
      ∧ LineKept s u ∧ ViewKept s u ∧ EstimateKept s u ∧ PanelKept s u ∧ SettingsKept s u ∧ QueueKept s u ∧ StoreKept s u
      ∧ LevelKept s u ∧ SpeakerKept s u ∧ StatusLineKept s u := by
  generalize hw : refuse type tag r ((s.arrive t).stirred p d) = w
  have hcount : w.apart = { s.apart with
      rem := { s.rem with slots := (s.arrive t).restartedSlots }
      link := { s.link.settled with refusals := min 65535 (s.link.refusals + 1) } } := by
    rw [← hw]
    unfold refuse
    rw [report_apart]
    exact congrArg (fun a : Apart => { a with link := { a.link with refusals := min 65535 (a.link.refusals + 1) } }) hstirred.apart
  have hlink := congrArg Apart.link ((conclude_apart w).trans hcount)
  have hsettings : SettingsKept s (conclude w) :=
    ⟨(congrArg CueLink.config hlink : (conclude w).link.settled.config = _), (congrArg CueLink.locked hlink : _),
      (congrArg CueLink.listening hlink : _)⟩
  refine ⟨?_, ?_, lineKept_conclude (by rw [hcount]), conclude_viewKept ?_, estimateKept_conclude ?_, panelKept_conclude ?_,
    hsettings, conclude_queueKept (queueKept_of_seq ?_), storeKept_conclude (by rw [hcount]),
    levelKept_conclude (by rw [hcount]), speakerKept_conclude (by rw [hcount]),
    statusLineKept_conclude (by rw [hcount])⟩
  · rw [conclude_reports, ← hw]
    exact refuse_reports (s := (s.arrive t).stirred p d) hfits type tag r
  · exact (congrArg CueLink.refusals hlink : (conclude w).link.settled.refusals = _)
  · rw [← hw]
    exact congrArg FloorUnit.view (report_floor _ _)
  · rw [show w.rem = _ from congrArg Apart.rem hcount]
    exact ⟨rfl, rfl, rfl⟩
  · rw [← hw]
    exact report_panel _ _
  · rw [← hw]
    exact report_seq _ _

/-! The statement. -/

theorem filter_awaiting_of_none {s : State} {tag : Nat} (h : s.awaitingRecord tag = none) :
    s.panel.awaiting.filter (fun x => x.tag ≠ tag) = s.panel.awaiting :=
  List.filter_eq_self.mpr fun a ha => by simpa using List.find?_eq_none.mp h a ha

theorem roomMade_room_panel (tag : Nat) (s : State) :
    (roomMade tag .room s).panel = { s.panel with awaiting := s.panel.awaiting.filter fun a => a.tag ≠ tag } :=
  supersedeAwaiting_panel tag s

theorem roomMade_room_seq (tag : Nat) (s : State) : (roomMade tag .room s).seq = s.seq := supersedeAwaiting_seq tag s

theorem roomMade_evict_panel (tag : Nat) (v : Entry) (s : State) :
    (roomMade tag (.evict v) s).panel =
      { s.panel with
        awaiting := s.panel.awaiting.filter fun a => a.tag ≠ tag
        repeats := s.panel.repeats.filter fun r => r.tag ≠ v.tag } := by
  unfold roomMade Capacity.clear
  rw [evict_panel, supersedeAwaiting_panel]

theorem roomMade_evict_seq (tag : Nat) (v : Entry) (s : State) :
    (roomMade tag (.evict v) s).seq =
      { s.seq with
        queue := s.seq.queue.filter fun e => e.tag ≠ v.tag
        internalDrops := if v.origin = .machine then s.seq.internalDrops else min 65535 (s.seq.internalDrops + 1) } := by
  unfold roomMade Capacity.clear
  rw [evict_seq, supersedeAwaiting_seq]

theorem roomMade_floor (tag : Nat) (cap : Capacity) (s : State) : (roomMade tag cap s).floor = s.floor :=
  (Capacity.clear_floor _ _).trans (supersedeAwaiting_floor _ _)

theorem conclude_queue_length (s : State) : (conclude s).seq.queue.length = s.seq.queue.length := by
  have htags := congrArg List.length (conclude_tags s)
  rwa [List.length_map, List.length_map] at htags

/-- Settles O23. -/
theorem promptMakesOrReplacesAnEntry : Obligations.PromptMakesOrReplacesAnEntry := by
  refine ⟨?_, ?_, ?_, ?_, ?_⟩
  · intro t p s hready hrange hknown hfree hnone hroom hfits
    have hsup : supersededReports s (at1 p 0) = [] := by simp [supersededReports, hnone]
    obtain ⟨w, st, e, hexec, hseq, hpanel, hfloor, htag, hqueue, -, hwpanel, hwfloor, hreports, hlocked, hentry, hline, hestimate,
      hrest⟩ := prompt_made (cap := .room) (t := t) hready hrange hknown hfree (capacity_of_room _ hroom) nofun
        (by rw [hsup]; exact hfits.2)
    rw [roomMade_room_seq, hseq] at hqueue
    rw [roomMade_room_panel, hpanel, filter_awaiting_of_none hnone] at hwpanel
    rw [roomMade_floor, hfloor] at hwfloor
    refine ⟨_, hexec, ?_, hlocked, ?_, hentry, hline, conclude_viewKept (congrArg FloorUnit.view hwfloor), hestimate,
      panelKept_conclude hwpanel, hrest⟩
    · rw [hreports, hsup]
      simp [clearReports]
    · rw [conclude_queue_length]
      show w.seq.queue.length = _
      rw [hqueue, insertEntry_length]
  · intro t p s a hready hrange hknown hfree ha hroom hfits
    have hsup : supersededReports s (at1 p 0) = [.done (at1 p 0) .superseded] := by simp [supersededReports, ha]
    obtain ⟨w, st, e, hexec, hseq, hpanel, hfloor, htag, hqueue, -, hwpanel, hwfloor, hreports, hlocked, hentry, hline, hestimate,
      hrest⟩ := prompt_made (cap := .room) (t := t) hready hrange hknown hfree (capacity_of_room _ hroom) nofun
        (by rw [hsup]; exact hfits)
    rw [roomMade_room_seq, hseq] at hqueue
    rw [roomMade_room_panel, hpanel] at hwpanel
    rw [roomMade_floor, hfloor] at hwfloor
    refine ⟨_, hexec, ?_, hlocked, ?_, (conclude_panel _).trans hwpanel, hentry, hline,
      conclude_viewKept (congrArg FloorUnit.view hwfloor), hestimate, hrest⟩
    · rw [hreports, hsup]
      simp [clearReports]
    · rw [conclude_queue_length]
      show w.seq.queue.length = _
      rw [hqueue, insertEntry_length]
  · intro t p s v hready hrange hknown hfree hevicts hfits
    have hcap : s.capacity (Cls.ofCode (at1 p 1)) = .evict v :=
      capacity_of_evicts (by rw [Cls.val_ofCode hrange.2.2.2.1]; exact hevicts)
    have hsup := supersededReports_length s (at1 p 0)
    have hcleared := victimReports_length v
    obtain ⟨w, st, e, hexec, hseq, hpanel, hfloor, htag, hqueue, hdrops, hwpanel, hwfloor, hreports, hlocked, hentry, hline,
      hestimate, hrest⟩ := prompt_made (cap := .evict v) (t := t) hready hrange hknown hfree hcap nofun
        (by show _ + _ + (victimReports v).length + 1 ≤ 16; omega)
    rw [roomMade_evict_seq, hseq] at hqueue hdrops
    rw [roomMade_evict_panel, hpanel] at hwpanel
    rw [roomMade_floor, hfloor] at hwfloor
    refine ⟨_, hexec, fun hnone => ?_, fun a ha => ?_, hlocked, ?_, (conclude_panel _).trans hwpanel, hentry, hline,
      conclude_viewKept (congrArg FloorUnit.view hwfloor), hestimate, hrest⟩
    · rw [hreports, supersededReports, hnone]
      simp [clearReports]
    · rw [hreports, supersededReports, ha]
      rfl
    · rw [← htag] at hfree ⊢
      refine victimMakesRoom_of_joined (w := w.lock) (isVictim_mem hevicts.2.2.1) hfree hqueue hdrops ?_ rfl
      show ∀ r ∈ w.panel.repeats, _
      rw [hwpanel]
      intro r hr
      simpa using (List.mem_filter.mp hr).2
  · intro t p s old hready hrange hknown he hwaits hfits
    obtain ⟨pw, d, hstirred, htaken, -⟩ := exec_prompt t hready hrange
    have htag := tag_of_entry he
    rcases hwaits with hstate | hstate
    · obtain ⟨hreports, hlocked, hpanel, hentry, -, hrest⟩ := prompt_replaced (x := (s.arrive t).stirred pw d) hready hrange
        hstirred htag hfits rfl rfl rfl rfl
      exact ⟨_, htaken _ (enqueuePrompt_queued (c := promptCueOf p) (s := (s.arrive t).stirred pw d) hknown he hstate), hreports,
        hlocked, hpanel, hentry, fun _ => conclude_viewKept rfl, fun h => absurd (hstate.symm.trans h) nofun, hrest⟩
    · obtain ⟨hreports, hlocked, hpanel, hentry, hpeers, hrest⟩ := prompt_replaced
        (x := emptySlot (withdraw ((s.arrive t).stirred pw d))) hready hrange hstirred htag hfits
        (by rw [emptySlot_link, withdraw_link]; rfl) (by rw [emptySlot_panel, withdraw_panel]; rfl)
        (by rw [emptySlot_now, withdraw_now]; rfl) (by rw [emptySlot_apart, withdraw_apart])
      refine ⟨_, htaken _ (enqueuePrompt_claiming (c := promptCueOf p) (s := (s.arrive t).stirred pw d) hknown he hstate), hreports,
        hlocked, hpanel, hentry, fun h => absurd (hstate.symm.trans h) nofun, fun _ => ⟨?_, hpeers⟩, hrest⟩
      exact claimWithdrawn_of_replaced (st := (s.arrive t).stirred pw d) (fun h => absurd (hstirred.mode.symm.trans h) nofun)
  · intro t p s r hready hrange hfits hcause
    obtain ⟨pw, d, hstirred, -, hrefused⟩ := exec_prompt t hready hrange
    refine ⟨_, hrefused _ (enqueuePrompt_refused ?_), cue_refused hstirred hfits _ _ _⟩
    rcases hcause with h | h | ⟨hr, hknown, hfree, hfull⟩
    · exact .inl h
    · exact .inr (.inl h)
    · exact .inr (.inr ⟨hr, hknown, hfree,
        capacity_of_full (s := (s.arrive t).stirred pw d) (by
          rw [show (promptCueOf p).cls.val = at1 p 1 from Cls.val_ofCode hrange.2.2.2.1]
          exact hfull)⟩)

end Sys2Proof.Machine
end

section
/-! What gives the floor up (R95), and the boundaries of a service: where it is cut, where a pending removal takes effect (R23 to
R25, R29). -/

namespace Sys2Proof.Machine
open Sys2Proof Host Safety

/-! The release of a held floor. -/

theorem releaseFloor_of_other {s : State} (h : s.floor.own.state ≠ .holding) (outcome : ReleaseOutcome) :
    releaseFloor outcome s = s := if_pos h

/-- The own record once the floor is given up. -/
def OwnFloor.givenUp (o : OwnFloor) (outcome : ReleaseOutcome) (gap : Timer) : OwnFloor :=
  { o with
    released := o.claim.isSome
    state := if outcome = .complete then .gap else .free
    gapEnd := if outcome = .complete then some gap else none }

theorem releaseFloor_of_holding {s : State} (h : s.floor.own.state = .holding) (outcome : ReleaseOutcome) :
    releaseFloor outcome s =
      (handFrame (.release s.floor.own.releaseSeq outcome) s).onOwn fun o => o.givenUp outcome (s.after 250) :=
  if_neg (not_not_intro h)

theorem releaseFloor_own {s : State} (h : s.floor.own.state = .holding) (outcome : ReleaseOutcome) :
    (releaseFloor outcome s).floor = { s.floor with own := s.floor.own.givenUp outcome (s.after 250) } := by
  rw [releaseFloor_of_holding h, State.onOwn_floor, handFrame_floor]

theorem releaseFloor_hall {s : State} (h : s.floor.own.state = .holding) (outcome : ReleaseOutcome) :
    (releaseFloor outcome s).hall = (handFrame (.release s.floor.own.releaseSeq outcome) s).hall := by
  rw [releaseFloor_of_holding h]
  rfl

theorem releaseFloor_rest (outcome : ReleaseOutcome) (s : State) :
    (releaseFloor outcome s).seq = s.seq ∧ (releaseFloor outcome s).power = s.power
      ∧ (releaseFloor outcome s).panel = s.panel ∧ (releaseFloor outcome s).link = s.link
      ∧ (releaseFloor outcome s).now = s.now := by
  unfold releaseFloor
  split
  · exact ⟨rfl, rfl, rfl, rfl, rfl⟩
  · simp

@[simp] theorem releaseFloor_seq (outcome : ReleaseOutcome) (s : State) : (releaseFloor outcome s).seq = s.seq :=
  (releaseFloor_rest outcome s).1
@[simp] theorem releaseFloor_power (outcome : ReleaseOutcome) (s : State) : (releaseFloor outcome s).power = s.power :=
  (releaseFloor_rest outcome s).2.1
@[simp] theorem releaseFloor_panel (outcome : ReleaseOutcome) (s : State) : (releaseFloor outcome s).panel = s.panel :=
  (releaseFloor_rest outcome s).2.2.1
@[simp] theorem releaseFloor_link (outcome : ReleaseOutcome) (s : State) : (releaseFloor outcome s).link = s.link :=
  (releaseFloor_rest outcome s).2.2.2.1
@[simp] theorem releaseFloor_now (outcome : ReleaseOutcome) (s : State) : (releaseFloor outcome s).now = s.now :=
  (releaseFloor_rest outcome s).2.2.2.2

theorem releaseFloor_nextSeq (outcome : ReleaseOutcome) (s : State) :
    (releaseFloor outcome s).floor.own.nextSeq = s.floor.own.nextSeq := by
  by_cases h : s.floor.own.state = .holding
  · rw [releaseFloor_own h]
    rfl
  · rw [releaseFloor_of_other h]

theorem releaseFloor_recovery (outcome : ReleaseOutcome) (s : State) :
    (releaseFloor outcome s).hall.recovery = s.hall.recovery := by
  by_cases h : s.floor.own.state = .holding
  · rw [releaseFloor_hall h, handFrame_recovery]
  · rw [releaseFloor_of_other h]

theorem releaseSeq_eq {o : OwnFloor} {seq : Nat} (h : ReleaseSeq o seq) : o.releaseSeq = seq := by
  unfold ReleaseSeq at h
  unfold OwnFloor.releaseSeq
  cases hclaim : o.claim with
  | none =>
    rw [hclaim] at h
    exact h.symm
  | some c =>
    rw [hclaim] at h
    dsimp only at h ⊢
    rw [h]
    rfl

/-- The clauses of a floor given up with CUT hold of whatever follows, once nothing else has changed the floor and the line. -/
theorem cutReleased_of_releaseFloor {s w : State} (hawake : w.power.mode ≠ .sleep)
    (hfloor : w.floor = (releaseFloor .cut s).floor) (hhall : w.hall = (releaseFloor .cut s).hall) :
    CutReleased s (conclude w) := by
  intro hfault hrecovery
  have hrec : w.hall.recovery ≠ .waiting := by
    rw [hhall, releaseFloor_recovery]
    exact hrecovery
  have hlist : ListIs w.hall.txList s (conclude w) :=
    listIs_of_nextSeq (by rw [hfloor, releaseFloor_nextSeq]) (conclude_txList hawake hrec)
  rw [hhall] at hlist
  refine ⟨fun seq hholding hseq => ?_, fun hother => ?_⟩
  · obtain ⟨-, -, hreleased, -⟩ := viewKept_of_view (conclude_view w)
    rw [releaseFloor_hall hholding, handFrame_txList hfault, releaseSeq_eq hseq] at hlist
    rw [releaseFloor_own hholding] at hfloor
    refine ⟨hlist, ?_, ?_⟩
    · rw [hreleased, hfloor]
      rfl
    · exact (conclude_floorState hawake).imp (fun h => h.trans (by rw [hfloor]; rfl)) id
  · rwa [releaseFloor_of_other hother] at hlist

/-! The two ways a boundary can be reached. -/

theorem served_eq_entry {s : State} {v : Service} (hslot : s.seq.slot = some v) : s.served = s.entry v.tag := by
  unfold State.served
  rw [hslot]
  rfl

theorem speaking_of_served {s : State} {e : Entry} {v : Service} (hslot : s.seq.slot = some v) (hserved : s.served = some e)
    (hstate : e.state = .speaking) : s.speaking = some (e, v) := by
  unfold State.speaking
  rw [hserved, hslot]
  exact if_pos hstate

theorem chimeEnds_of_due {s : State} {ch : Chime} {e : Entry} {v : Service} (hchime : s.tone.chime = .playing ch)
    (hdue : ch.start + 400 ≤ s.now) (hspeaking : s.speaking = some (e, v)) :
    chimeEnds s =
      if v.script.items = [] then endService e v (stopChime s)
      else atBoundary e v (fun r st => startItem v.script.items 0 (applyLevel r st)) (stopChime s) := by
  have hspeaking' : (stopChime s).speaking = some (e, v) := hspeaking
  unfold chimeEnds
  rw [hchime]
  dsimp only
  rw [if_pos (Timer.reached_of_due (tm := ch.endTimer) hdue), hspeaking']

theorem itemTimer_of_playing {s : State} {i : Nat} {ph : Option (Nat × Nat)} {start : Nat} {stop : Option Nat} {v : Service}
    {x : ScriptItem} (hspeech : s.speech = .playing i ph start stop) (hslot : s.seq.slot = some v)
    (hitem : v.script.items[i]? = some x) : s.itemTimer = some ⟨start + x.ms, x.ms⟩ := by
  unfold State.itemTimer State.playedItem
  rw [hspeech, hslot]
  dsimp only
  rw [hitem]
  rfl

theorem itemEnds_of_due {s : State} {i : Nat} {ph : Option (Nat × Nat)} {start : Nat} {stop : Option Nat} {e : Entry}
    {v : Service} {x : ScriptItem} (hspeech : s.speech = .playing i ph start stop) (hslot : s.seq.slot = some v)
    (hitem : v.script.items[i]? = some x) (hdue : start + x.ms ≤ s.now) (hspeaking : s.speaking = some (e, v)) :
    itemEnds s =
      if v.script.items.length ≤ i + 1 then endService e v (s.setSpeech .idle)
      else atBoundary e v (fun r st => (applyLevel r st).setSpeech (.gap (i + 1) (st.after 40))) s := by
  unfold itemEnds
  rw [hspeech]
  dsimp only
  rw [if_pos (reachedAt_of_due (itemTimer_of_playing hspeech hslot hitem) hdue), hspeaking]
  rfl

/-- What a boundary does at its instant: the chime stops where it has ended; then the cut causes are tested, and `goOn` follows
where there is none. -/
theorem boundary_reached {c : Instr} {t : Nat} {s : State} {v : Service} {e : Entry} (hboundary : IsBoundary c t s v)
    (hawake : s.power.mode ≠ .sleep) (hslot : s.seq.slot = some v) (hserved : s.served = some e)
    (hstate : e.state = .speaking) :
    ∃ x goOn, exec c s = .next (conclude (atBoundary e v goOn x))
      ∧ (c = .chimeEnd t ∧ x = stopChime (s.arrive t) ∧ goOn = (fun r st => startItem v.script.items 0 (applyLevel r st))
        ∨ c = .itemEnd t ∧ x = s.arrive t
          ∧ ∃ i ph start stop, s.speech = .playing i ph start stop
            ∧ goOn = fun r st => (applyLevel r st).setSpeech (.gap (i + 1) (st.after 40))) := by
  have hspeaking : (s.arrive t).speaking = some (e, v) := speaking_of_served (s := s.arrive t) hslot hserved hstate
  rcases hboundary with ⟨rfl, hitems, ch, hchime, hdue⟩ | ⟨rfl, i, ph, start, stop, x, hspeech, hitem, hlen, hdue⟩
  · refine ⟨_, _, ?_, .inl ⟨rfl, rfl, rfl⟩⟩
    have hends := chimeEnds_of_due (s := s.arrive t) hchime hdue hspeaking
    rw [if_neg hitems] at hends
    exact (concluding_of_awake hawake t chimeEnds).trans (by rw [hends])
  · have hends := itemEnds_of_due (s := s.arrive t) hspeech hslot hitem hdue hspeaking
    rw [if_neg (by omega)] at hends
    exact ⟨_, _, (concluding_of_awake hawake t itemEnds).trans (by rw [hends]), .inr ⟨rfl, rfl, i, ph, start, stop, hspeech, rfl⟩⟩

/-! The cut causes (R23 to R25). -/

theorem atBoundary_removal {e : Entry} {v : Service} {o : DoneOutcome} (h : v.removal = some o)
    (goOn : LevelResult → State → State) (s : State) : atBoundary e v goOn s = stopRemoved e o s := by
  unfold atBoundary
  rw [h]

theorem atBoundary_cut {e : Entry} {v : Service} {s : State} (h : v.removal = none)
    (hcause : v.preempt = true ∨ v.overlap = true ∨ s.higherWaits e = true) (goOn : LevelResult → State → State) :
    atBoundary e v goOn s = cutEntry e s := by
  unfold atBoundary
  rw [h]
  exact if_pos (by simpa [or_assoc] using hcause)

theorem atBoundary_goesOn {e : Entry} {v : Service} {s : State} (h : v.removal = none) (hpreempt : v.preempt = false)
    (hoverlap : v.overlap = false) (hhigher : s.higherWaits e = false) (goOn : LevelResult → State → State) :
    atBoundary e v goOn s = goOn (s.computeLevel e.cls) s := by
  unfold atBoundary
  rw [h]
  exact if_neg (by simp [hpreempt, hoverlap, hhigher])

/-- A state whose service has been cut: the floor given up, the slot empty, the cut counted. -/
def cutCounted (s : State) : State :=
  (emptySlot (releaseFloor .cut s)).onSeq fun q => { q with cuts := min 65535 (q.cuts + 1) }

theorem cutEntry_queued {e : Entry} (h : 2 ≤ e.cls.val ∨ e.cutCount < 2) (s : State) :
    cutEntry e s =
      changeEntry e.tag (fun x => { x with state := .queued, cutCount := min 3 (e.cutCount + 1), deadline := none })
        (cutCounted s) := by
  unfold cutEntry
  exact if_neg (by omega)

theorem cutEntry_out {e : Entry} (hcls : e.cls.val ≤ 1) (hcount : 2 ≤ e.cutCount) (s : State) :
    cutEntry e s = leaveWith e .cutOut (cutCounted s) := by
  unfold cutEntry
  exact if_pos ⟨hcls, by omega⟩

theorem cutCounted_fields (s : State) :
    (cutCounted s).floor = (releaseFloor .cut s).floor ∧ (cutCounted s).hall = (releaseFloor .cut s).hall
      ∧ (cutCounted s).power = s.power ∧ (cutCounted s).panel = s.panel ∧ (cutCounted s).link = s.link
      ∧ (cutCounted s).seq = { s.seq with slot := none, cuts := min 65535 (s.seq.cuts + 1) } := by
  unfold cutCounted
  rw [State.onSeq_floor, emptySlot_floor, State.onSeq_hall, emptySlot_hall, State.onSeq_power, emptySlot_power,
    releaseFloor_power, State.onSeq_panel, emptySlot_panel, releaseFloor_panel, State.onSeq_link, emptySlot_link,
    releaseFloor_link, State.onSeq_seq, emptySlot_seq, releaseFloor_seq]
  exact ⟨rfl, rfl, rfl, rfl, rfl, rfl⟩

theorem cutCounted_apart (s : State) : (cutCounted s).apart = s.apart := by
  unfold cutCounted
  rw [State.onSeq_apart, emptySlot_apart, releaseFloor_apart]

theorem changeEntry_entry {s : State} {tag : Nat} {e : Entry} {f : Entry → Entry} (hf : ∀ x, (f x).tag = x.tag)
    (he : s.entry tag = some e) : (changeEntry tag f s).entry tag = some (f e) := by
  rw [State.entry_of_map (atTag_tag hf tag) (changeEntry_queue tag f s), he]
  exact congrArg some (if_pos (tag_of_entry he))

/-- The boundary's state agrees with the state before it, but for its instant and its chime. -/
def AtBoundaryOf (s x : State) : Prop :=
  x.seq = s.seq ∧ x.floor = s.floor ∧ x.hall = s.hall ∧ x.panel = s.panel ∧ x.link = s.link ∧ x.power = s.power
    ∧ x.apart = s.apart

theorem boundary_state {c : Instr} {t : Nat} {s : State} {v : Service} {e : Entry} (hboundary : IsBoundary c t s v)
    (hawake : s.power.mode ≠ .sleep) (hslot : s.seq.slot = some v) (hserved : s.served = some e)
    (hstate : e.state = .speaking) :
    ∃ x goOn, exec c s = .next (conclude (atBoundary e v goOn x)) ∧ AtBoundaryOf s x := by
  obtain ⟨x, goOn, hexec, ⟨-, rfl, -⟩ | ⟨-, rfl, -⟩⟩ := boundary_reached hboundary hawake hslot hserved hstate
  · exact ⟨_, goOn, hexec, rfl, rfl, rfl, rfl, rfl, rfl, rfl⟩
  · exact ⟨_, goOn, hexec, rfl, rfl, rfl, rfl, rfl, rfl, rfl⟩

theorem cutReleased_congr {s x u : State} (h : AtBoundaryOf s x) (hcut : CutReleased x u) : CutReleased s u := by
  obtain ⟨-, hfloor, hhall, -⟩ := h
  unfold CutReleased ListIs NextClaim at *
  rwa [hfloor, hhall] at hcut

theorem besidesServiceKept_conclude {s w : State} (h : w.apart = s.apart) : BesidesServiceKept s (conclude w) :=
  besidesServiceKept_of_apart ((conclude_apart w).trans h)

theorem stopRemoved_fields (e : Entry) (o : DoneOutcome) (s : State) :
    (stopRemoved e o s).floor = (releaseFloor .cut s).floor ∧ (stopRemoved e o s).hall = (releaseFloor .cut s).hall
      ∧ (stopRemoved e o s).power = s.power
      ∧ (stopRemoved e o s).panel = { s.panel with repeats := s.panel.repeats.filter fun r => r.tag ≠ e.tag }
      ∧ (stopRemoved e o s).seq = { s.seq with slot := none, queue := s.seq.queue.filter fun x => x.tag ≠ e.tag } := by
  unfold stopRemoved
  refine ⟨?_, ?_, ?_, ?_, ?_⟩
  · rw [leaveWith_floor, emptySlot_floor]
  · rw [leaveWith_hall, emptySlot_hall]
  · rw [leaveWith_power, emptySlot_power, releaseFloor_power]
  · rw [leaveWith_panel, emptySlot_panel, releaseFloor_panel]
  · rw [leaveWith_seq, emptySlot_seq, releaseFloor_seq]

theorem stopRemoved_reports {e : Entry} (h : e.origin = .machine) (o : DoneOutcome) {s : State} (hs : ReportFits s) :
    (stopRemoved e o s).link.reports = s.link.reports ++ [.done e.tag o] := by
  unfold stopRemoved
  rw [leaveWith_reports h o (reportFits_of_link (by rw [emptySlot_link, releaseFloor_link]) hs), emptySlot_link,
    releaseFloor_link]

theorem stopRemoved_entry (e : Entry) (o : DoneOutcome) (s : State) : (stopRemoved e o s).entry e.tag = none :=
  leaveWith_entry e o _

theorem sessionKept_conclude {s w : State} {rs : List RepeatItem} (h : w.panel = { s.panel with repeats := rs }) :
    SessionKept s (conclude w) := by
  unfold SessionKept
  rw [conclude_panel, h]
  exact ⟨rfl, rfl, rfl, rfl, rfl, rfl, rfl, rfl⟩

/-- Settles O47: a pending removal takes effect before a cut, and a third cut removes the entry. -/
theorem boundaryCutsOrRemoves : Obligations.BoundaryCutsOrRemoves := by
  refine ⟨?_, ?_, ?_⟩
  · intro c t s v e o hboundary hawake hslot hserved hstate hremoval horigin hfits
    obtain ⟨x, goOn, hexec, hat⟩ := boundary_state hboundary hawake hslot hserved hstate
    obtain ⟨hseq, -, -, hpanel, hlink, hpower, hapart⟩ := id hat
    rw [atBoundary_removal hremoval] at hexec
    obtain ⟨hfloor, hhall, hpower', hpanel', hseq'⟩ := stopRemoved_fields e o x
    refine ⟨_, hexec, ?_, conclude_entry_none (stopRemoved_entry e o x), ?_, cutReleased_congr hat ?_,
      sessionKept_conclude (hpanel'.trans (by rw [hpanel])), besidesServiceKept_conclude ((stopRemoved_apart e o x).trans hapart)⟩
    · rw [conclude_reports, stopRemoved_reports horigin o (reportFits_of_link hlink hfits), hlink]
    · rw [conclude_cuts, hseq', hseq]
    · exact cutReleased_of_releaseFloor (by rw [hpower', hpower]; exact hawake) hfloor hhall
  · intro c t s v e hboundary hawake hslot hserved hstate hremoval hcause hfew
    obtain ⟨x, goOn, hexec, hat⟩ := boundary_state hboundary hawake hslot hserved hstate
    obtain ⟨hseq, -, -, hpanel, hlink, hpower, hapart⟩ := id hat
    have hhigher : x.higherWaits e = s.higherWaits e := by
      unfold State.higherWaits
      rw [hseq]
    rw [atBoundary_cut hremoval (by rw [hhigher]; exact hcause), cutEntry_queued hfew] at hexec
    obtain ⟨hfloor, hhall, hpower', hpanel', hlink', hseq'⟩ := cutCounted_fields x
    have htag := tag_of_entry ((served_eq_entry hslot).symm.trans hserved)
    have hentry : (cutCounted x).entry e.tag = some e := by
      rw [State.entry, hseq', hseq, htag]
      exact (served_eq_entry hslot).symm.trans hserved
    generalize hw : changeEntry e.tag _ (cutCounted x) = w at hexec
    have hcut : w.entry e.tag = some { e with state := .queued, cutCount := min 3 (e.cutCount + 1), deadline := none } := by
      rw [← hw]
      exact changeEntry_entry (fun _ => rfl) hentry
    obtain ⟨e', he', htaken⟩ := conclude_entry_taken hcut
    refine ⟨_, e', hexec, ?_, he', htaken.standing_eq.2, ?_, htaken.deadline_none rfl, cutReleased_congr hat ?_,
      conclude_reportsKept ?_, panelKept_conclude ?_, besidesServiceKept_conclude ?_⟩
    · rw [conclude_cuts, ← hw]
      show (cutCounted x).seq.cuts = _
      rw [hseq', hseq]
    · cases htaken <;> rfl
    · rw [← hw]
      exact cutReleased_of_releaseFloor (w := changeEntry e.tag _ (cutCounted x)) (by
        rw [changeEntry_power, hpower', hpower]
        exact hawake) hfloor hhall
    · rw [← hw]
      unfold ReportsKept
      rw [changeEntry_link, hlink', hlink]
      exact ⟨rfl, rfl, rfl⟩
    · rw [← hw, changeEntry_panel, hpanel', hpanel]
    · rw [← hw, changeEntry_apart, cutCounted_apart, hapart]
  · intro c t s v e hboundary hawake hslot hserved hstate hremoval hcause hcls hcount horigin hfits
    obtain ⟨x, goOn, hexec, hat⟩ := boundary_state hboundary hawake hslot hserved hstate
    obtain ⟨hseq, -, -, hpanel, hlink, hpower, hapart⟩ := id hat
    have hhigher : x.higherWaits e = s.higherWaits e := by
      unfold State.higherWaits
      rw [hseq]
    rw [atBoundary_cut hremoval (by rw [hhigher]; exact hcause), cutEntry_out hcls hcount] at hexec
    obtain ⟨hfloor, hhall, hpower', hpanel', hlink', hseq'⟩ := cutCounted_fields x
    refine ⟨_, hexec, ?_, conclude_entry_none (leaveWith_entry e _ _), ?_, cutReleased_congr hat ?_,
      sessionKept_conclude (rs := s.panel.repeats.filter fun r => r.tag ≠ e.tag) (by rw [leaveWith_panel, hpanel', hpanel]),
      besidesServiceKept_conclude (by rw [leaveWith_apart, cutCounted_apart, hapart])⟩
    · rw [conclude_cuts, leaveWith_seq, hseq', hseq]
    · rw [conclude_reports, leaveWith_reports horigin _ (reportFits_of_link (hlink'.trans hlink) hfits), hlink', hlink]
    · refine cutReleased_of_releaseFloor ?_ ?_ ?_
      · rw [leaveWith_power, hpower', hpower]
        exact hawake
      · rw [leaveWith_floor, hfloor]
      · rw [leaveWith_hall, hhall]

end Sys2Proof.Machine
end

section
/-! SPEAKER_FAULT (R26, R189): the service stops, and the selection that follows has the piezo alone. -/

namespace Sys2Proof.Machine
open Sys2Proof Host Safety

/-! What the start of a service moves of the amplifier and of the latches. -/

@[simp] theorem applyLevel_power (r : LevelResult) (s : State) : (applyLevel r s).power = s.power := by
  unfold applyLevel
  split <;> rfl

theorem applyLevel_latches (r : LevelResult) (s : State) :
    (applyLevel r s).link.latches = if r.masked then { s.link.latches with masked := true } else s.link.latches := by
  unfold applyLevel
  split <;> rfl

@[simp] theorem startItem_power (items : List ScriptItem) (i : Nat) (s : State) : (startItem items i s).power = s.power := by
  unfold startItem
  split <;> rfl

@[simp] theorem startItem_link (items : List ScriptItem) (i : Nat) (s : State) : (startItem items i s).link = s.link := by
  unfold startItem
  split <;> rfl

@[simp] theorem postText_power (text : Option (List Byte)) (cls : Cls) (s : State) : (postText text cls s).power = s.power := by
  unfold postText
  split <;> rfl

@[simp] theorem postText_link (text : Option (List Byte)) (cls : Cls) (s : State) : (postText text cls s).link = s.link := by
  unfold postText
  split <;> rfl

theorem setMode_amp_link (m : PowerMode) (s : State) :
    (setMode m s).power.amp = s.power.amp ∧ (setMode m s).link = s.link := by
  unfold setMode
  split <;> exact ⟨rfl, rfl⟩

@[simp] theorem activity_link (s : State) : (activity s).link = s.link := by
  unfold activity
  split
  · rfl
  · exact (setMode_amp_link .active s).2

@[simp] theorem activity_amp (s : State) : (activity s).power.amp = s.power.amp := by
  unfold activity
  split
  · rfl
  · exact (setMode_amp_link .active s).1

@[simp] theorem beginOutput_power (e : Entry) (route : Route) (script : Script) (r : LevelResult) (s : State) :
    (beginOutput e route script r s).power = s.power := by
  have hlevel : (changeService (fun v => { v with pendingLevel := none }) (applyLevel r s)).power = s.power := applyLevel_power r s
  unfold beginOutput
  dsimp only
  split
  · exact hlevel
  · rw [startItem_power, hlevel]

theorem beginOutput_latches (e : Entry) (route : Route) (script : Script) (r : LevelResult) (s : State) :
    (beginOutput e route script r s).link.latches =
      if r.masked then { s.link.latches with masked := true } else s.link.latches := by
  have hlevel : (changeService (fun v => { v with pendingLevel := none }) (applyLevel r s)).link.latches =
      if r.masked then { s.link.latches with masked := true } else s.link.latches := applyLevel_latches r s
  unfold beginOutput
  dsimp only
  split
  · exact hlevel
  · rw [startItem_link, hlevel]

@[simp] theorem beginWarmUp_link (e : Entry) (route : Route) (script : Script) (r : LevelResult) (s : State) :
    (beginWarmUp e route script r s).link = s.link := by
  unfold beginWarmUp
  dsimp only
  split <;> rfl

/-- The latches but that of masked speech, which a service that starts may set. -/
def Latches.besideMasked (l : Latches) : Latches := { l with masked := false }

theorem startAudible_latches (tag : Nat) (route : Route) (script : Script) (s : State) :
    (startAudible tag route script s).link.latches.besideMasked = s.link.latches.besideMasked := by
  unfold startAudible
  split
  · rfl
  · dsimp only
    split
    · simp
    · rw [beginOutput_latches]
      split <;> simp [Latches.besideMasked]

theorem startAudible_piezo_amp (tag : Nat) (script : Script) (s : State) :
    (startAudible tag .piezo script s).power.amp = s.power.amp := by
  unfold startAudible
  split
  · rfl
  · dsimp only
    rw [if_neg (by simp [State.needsWarmUp])]
    simp

theorem startSilent_amp_link (tag : Nat) (script : Script) (s : State) :
    (startSilent tag script s).power.amp = s.power.amp ∧ (startSilent tag script s).link = s.link := by
  unfold startSilent
  split
  · exact ⟨rfl, rfl⟩
  · simp

theorem requestClaim_power_link (cls : Cls) (arrival length : Nat) (s : State) :
    (requestClaim cls arrival length s).power = s.power ∧ (requestClaim cls arrival length s).link = s.link := by
  unfold requestClaim
  dsimp only
  split
  · exact ⟨rfl, rfl⟩
  · exact ⟨handFrame_power _ _, handFrame_link _ _⟩

/-- The selection leaves the latches but that of masked speech, and, where the piezo alone is left, the amplifier. -/
theorem takeEntry_amp_latch (e : Entry) (s : State) :
    (s.power.result.isFault = true → (takeEntry e s).power.amp = s.power.amp)
      ∧ (takeEntry e s).link.latches.besideMasked = s.link.latches.besideMasked := by
  have hroute : s.power.result.isFault = true → s.routeNow = .piezo := fun h => if_pos h
  by_cases hsilent : SilentNow s e
  · unfold takeEntry
    rw [(kindFor_silent_iff s e).mpr hsilent]
    dsimp only
    obtain ⟨hamp, hlink⟩ := startSilent_amp_link e.tag (s.compose e .silent).script (fillSlot e.tag .silent (s.compose e .silent) s)
    rw [hamp, hlink]
    exact ⟨fun _ => rfl, rfl⟩
  · unfold takeEntry
    rw [kindFor_audible hsilent]
    dsimp only
    split
    · obtain ⟨hpower, hlink⟩ := requestClaim_power_link e.cls e.arrival (s.compose e (.audible s.routeNow)).script.estimate
        (changeEntry e.tag (fun x => { x with state := .claiming })
          (fillSlot e.tag (.audible s.routeNow) (s.compose e (.audible s.routeNow)) s))
      rw [hpower, hlink]
      exact ⟨fun _ => rfl, rfl⟩
    · refine ⟨fun hfault => ?_, startAudible_latches ..⟩
      rw [hroute hfault, startAudible_piezo_amp]
      rfl

theorem conclude_amp_latch {s : State} :
    (s.power.result.isFault = true → (conclude s).power.amp = s.power.amp)
      ∧ (conclude s).link.latches.besideMasked = s.link.latches.besideMasked := by
  by_cases hawake : s.power.mode = .sleep
  · rw [conclude, if_neg (by simp [State.awake, hawake])]
    exact ⟨fun _ => rfl, rfl⟩
  · have hbeside := conclude_besideHolds hawake
    rw [(besideHolds_power hbeside).2, (besideHolds_fields hbeside).2.2.2.2.2.2.2.2.2]
    obtain ⟨x, l, hstart, -⟩ := startWaitingRecovery_onHall s
    rw [hstart]
    generalize hr : s.onHall _ = r
    have hpower : r.power = s.power := by rw [← hr]; rfl
    have hlink : r.link = s.link := by rw [← hr]; rfl
    rw [← hpower, ← hlink]
    unfold select
    split
    · exact ⟨fun _ => rfl, rfl⟩
    · dsimp only
      split
      · exact takeEntry_amp_latch _ (r.onSeq fun q => { q with askedAt := r.now })
      · exact ⟨fun _ => rfl, rfl⟩

/-! The fault itself. -/

/-- The speaker unit once a fault has been found. -/
def State.faulted (s : State) (kind : SpeakerFaultKind) : State :=
  s.onPower fun p => { p with amp := .off, result := (faultResult kind).1, impedance := (faultResult kind).2 }

theorem faultResult_isFault (kind : SpeakerFaultKind) : (faultResult kind).1.isFault = true := by
  cases kind <;> rfl

/-- The state after the fault, once `w` is what the stop of the service has left. -/
def faultTold (w : State) : State := report (.event .speakerFault) (latch (fun l => { l with speakerFault := true }) w)

theorem speakerFails_of_speaking {s : State} {kind : SpeakerFaultKind} {e : Entry} {v : Service}
    (hsenses : s.senses kind = true) (hspeaking : s.speaking = some (e, v)) :
    (v.removal = none → speakerFails kind s = faultTold (returnToQueue (releaseFloor .cut (s.faulted kind))))
      ∧ ∀ o, v.removal = some o → speakerFails kind s = faultTold (stopRemoved e o (s.faulted kind)) := by
  have hspeaking' : (s.faulted kind).speaking = some (e, v) := hspeaking
  have hstop : speakerFails kind s = faultTold (stopForFault (s.faulted kind)) := by
    unfold speakerFails
    exact if_pos hsenses
  rw [hstop]
  unfold stopForFault
  rw [hspeaking']
  dsimp only
  refine ⟨fun h => ?_, fun o h => ?_⟩ <;> rw [h]

theorem served_of_speaking {s : State} {e : Entry} {v : Service} (h : s.speaking = some (e, v)) :
    s.seq.slot = some v ∧ s.served = some e ∧ e.state = .speaking := by
  unfold State.speaking at h
  split at h
  next x y hserved hslot =>
    split at h
    next hstate =>
      obtain ⟨rfl, rfl⟩ := Prod.mk.inj (Option.some.inj h)
      exact ⟨hslot, hserved, hstate⟩
    next => exact absurd h nofun
  next => exact absurd h nofun

theorem changeEntry_seq (tag : Nat) (f : Entry → Entry) (s : State) :
    (changeEntry tag f s).seq = { s.seq with queue := s.seq.queue.map (atTag tag f) } := rfl

theorem returnToQueue_of_slot {s : State} {v : Service} (h : s.seq.slot = some v) :
    returnToQueue s = emptySlot (changeEntry v.tag (fun e => { e with state := .queued }) s) := by
  unfold returnToQueue
  rw [h]

/-- What telling a fault adds to the state that the stop has left. -/
theorem faultTold_fields (w : State) :
    (faultTold w).seq = w.seq ∧ (faultTold w).speech = w.speech ∧ (faultTold w).tone = w.tone ∧ (faultTold w).hall = w.hall
      ∧ (faultTold w).floor = w.floor ∧ (faultTold w).display = w.display ∧ (faultTold w).power = w.power
      ∧ (faultTold w).panel = w.panel ∧ (faultTold w).apart = w.apart :=
  ⟨rfl, rfl, rfl, rfl, rfl, rfl, rfl, rfl, (report_apart _ _).trans (latch_apart _ _)⟩

theorem report_latches_fault (r : Report) (s : State) (h : s.link.latches.speakerFault = true) :
    (report r s).link.latches.speakerFault = true := by
  unfold report
  simp only [State.onLink_link, CueLink.join, CueLink.hold, CueLink.lose]
  (repeat' split) <;> exact h

theorem faultTold_latch (w : State) : (faultTold w).link.latches.speakerFault = true :=
  report_latches_fault _ _ rfl

theorem faultTold_reports {w : State} (h : ReportFits w) : (faultTold w).link.reports = w.link.reports ++ [.event .speakerFault] :=
  report_fits (s := latch (fun l => { l with speakerFault := true }) w) h _

theorem faulted_apart (s : State) (kind : SpeakerFaultKind) :
    (s.faulted kind).apart =
      { s.apart with speaker := (s.power.check, (faultResult kind).1, (faultResult kind).2, s.power.weakSpeaker) } := rfl

/-- The clauses of the fault that do not depend on what becomes of the entry: `w` is what the stop has left. -/
theorem fault_clauses {s w : State} {t : Nat} {kind : SpeakerFaultKind} (hawake : s.power.mode ≠ .sleep)
    (hfloor : w.floor = (releaseFloor .cut ((s.arrive t).faulted kind)).floor)
    (hhall : w.hall = (releaseFloor .cut ((s.arrive t).faulted kind)).hall)
    (hpower : w.power = ((s.arrive t).faulted kind).power) (hapart : w.apart = ((s.arrive t).faulted kind).apart) :
    let u := conclude (faultTold w)
    CutReleased s u ∧ u.power.amp = .off
      ∧ u.power.result = (if kind = .overcurrent then .short else .open_)
      ∧ u.power.impedance = (if kind = .overcurrent then 0 else 63) ∧ u.link.latches.speakerFault = true
      ∧ LineKept s u ∧ u.floor.peers = s.floor.peers ∧ RemindersKept s u ∧ SettingsKept s u ∧ FramerKept s u
      ∧ StoreKept s u ∧ LevelKept s u ∧ StatusLineKept s u := by
  obtain ⟨-, -, -, hhall', hfloor', -, hpower', -, hapart'⟩ := faultTold_fields w
  have hmode : (faultTold w).power.mode ≠ .sleep := by
    rw [hpower', hpower]
    exact hawake
  have hsame : (faultTold w).apart = _ := hapart'.trans (hapart.trans (faulted_apart _ kind))
  have hresult : (faultTold w).power.result.isFault = true := by
    rw [hpower', hpower]
    exact faultResult_isFault kind
  have hspeaker := congrArg Apart.speaker ((conclude_apart _).trans hsame)
  have hcut := cutReleased_of_releaseFloor (s := (s.arrive t).faulted kind) hmode (hfloor'.trans hfloor) (hhall'.trans hhall)
  obtain ⟨hsettings, hframer⟩ := settings_framer_conclude (s := s) (w := faultTold w) (by rw [hsame]; rfl)
  refine ⟨hcut, ?_, ?_, ?_, (congrArg Latches.speakerFault conclude_amp_latch.2).trans (faultTold_latch w), lineKept_conclude (by rw [hsame]; rfl),
    congrArg Apart.peers ((conclude_apart _).trans hsame), (conclude_rem _).trans (congrArg Apart.rem hsame), hsettings, hframer,
    storeKept_conclude (by rw [hsame]; rfl), levelKept_conclude (by rw [hsame]; rfl), statusLineKept_conclude (by rw [hsame]; rfl)⟩
  · rw [conclude_amp_latch.1 hresult, hpower', hpower]
    rfl
  · refine (congrArg (fun x => x.2.1) hspeaker).trans ?_
    cases kind <;> rfl
  · refine (congrArg (fun x => x.2.2.1) hspeaker).trans ?_
    cases kind <;> rfl

/-- Settles O14: the service stops, uncut, or its pending removal takes effect. -/
theorem speakerFaultStopsOutput : Obligations.SpeakerFaultStopsOutput := by
  refine ⟨?_, ?_⟩
  · intro t kind s e v hawake hsenses hspeaking hremoval hfits
    obtain ⟨hslot, hserved, -⟩ := served_of_speaking hspeaking
    have hentry := (served_eq_entry hslot).symm.trans hserved
    have htag := tag_of_entry hentry
    have hfails := (speakerFails_of_speaking (s := s.arrive t) hsenses hspeaking).1 hremoval
    generalize hx : releaseFloor .cut ((s.arrive t).faulted kind) = x at hfails
    have hseq : x.seq = s.seq := by
      rw [← hx, releaseFloor_seq]
      rfl
    have hlink : x.link = s.link := by
      rw [← hx, releaseFloor_link]
      rfl
    rw [returnToQueue_of_slot (by rw [hseq]; exact hslot)] at hfails
    generalize hw : emptySlot (changeEntry v.tag _ x) = w at hfails
    have hwseq : w.seq = { s.seq with slot := none, queue := s.seq.queue.map (atTag v.tag fun e => { e with state := .queued }) } := by
      rw [← hw, emptySlot_seq, changeEntry_seq, hseq]
    have hback : w.entry e.tag = some { e with state := .queued } := by
      have hat : atTag v.tag (fun e => { e with state := .queued }) e = { e with state := .queued } := if_pos htag
      rw [← hat, htag, State.entry_of_map (atTag_tag (f := fun e => { e with state := .queued }) (fun _ => rfl) v.tag)
        (congrArg Sequencer.queue hwseq), hentry]
      rfl
    obtain ⟨hcut, hamp, hresult, himpedance, hlatch, hline, hpeers, hrem, hsettings, hframer, hstore, hlevel, hstatus⟩ :=
      fault_clauses (s := s) (w := w) (t := t) (kind := kind) hawake (by rw [hx, ← hw, emptySlot_floor, changeEntry_floor])
        (by rw [hx, ← hw, emptySlot_hall, changeEntry_hall])
        (by rw [← hw, emptySlot_power, changeEntry_power, ← hx, releaseFloor_power])
        (by rw [← hw, emptySlot_apart, changeEntry_apart, ← hx, releaseFloor_apart])
    obtain ⟨hseq', hspeech', htone', -, -, hdisplay', -, hpanel', -⟩ := faultTold_fields w
    have hback' : (faultTold w).entry e.tag = some { e with state := .queued } := by
      rw [State.entry, hseq']
      exact hback
    obtain ⟨e', he', htaken⟩ := conclude_entry_taken hback'
    refine ⟨faultTold w, conclude (faultTold w), (concluding_of_awake hawake t (speakerFails kind)).trans (by rw [hfails]), rfl,
      ?_, ?_, ?_, ?_, hback', ?_, hcut, ⟨e', he', htaken.standing_eq.2, ?_⟩, hamp, hresult, himpedance, hlatch, ?_, hline, hpeers,
      hrem, panelKept_conclude ?_, hsettings, hframer, conclude_queueKept ?_, hstore, hlevel, hstatus⟩
    · rw [hseq', hwseq]
    · rw [hspeech', ← hw]
      rfl
    · rw [htone', ← hw]
      rfl
    · rw [hdisplay', ← hw]
      rfl
    · rw [hseq', hwseq]
    · cases htaken <;> rfl
    · have hwlink : w.link = s.link := by rw [← hw, emptySlot_link, changeEntry_link, hlink]
      rw [conclude_reports, faultTold_reports (reportFits_of_link hwlink hfits), hwlink]
    · rw [hpanel', ← hw, emptySlot_panel, changeEntry_panel, ← hx, releaseFloor_panel]
      rfl
    · unfold QueueKept
      rw [hseq', hwseq]
      refine ⟨?_, rfl, rfl, rfl, rfl⟩
      rw [List.map_map]
      exact List.map_congr_left fun y _ => atTag_tag (f := fun e => { e with state := .queued }) (fun _ => rfl) v.tag y
  · intro t kind s e v o hawake hsenses hspeaking hremoval horigin hlistening hlen
    have hfails := (speakerFails_of_speaking (s := s.arrive t) hsenses hspeaking).2 o hremoval
    obtain ⟨hfloor, hhall, hpower, hpanel, hseq⟩ := stopRemoved_fields e o ((s.arrive t).faulted kind)
    have hreports := stopRemoved_reports (s := (s.arrive t).faulted kind) horigin o ⟨hlistening, Nat.lt_of_succ_lt hlen⟩
    have hlistening' : (stopRemoved e o ((s.arrive t).faulted kind)).link.listening = true := by
      have hlink := congrArg (fun a => a.link.listening) (stopRemoved_apart e o ((s.arrive t).faulted kind))
      exact hlink.trans hlistening
    have hnone := stopRemoved_entry e o ((s.arrive t).faulted kind)
    have hstopped : (stopRemoved e o ((s.arrive t).faulted kind)).speech = .idle
        ∧ (stopRemoved e o ((s.arrive t).faulted kind)).tone.chime = .idle := by
      unfold stopRemoved leaveWith reportDone
      split <;> exact ⟨rfl, rfl⟩
    have hapart := stopRemoved_apart e o ((s.arrive t).faulted kind)
    generalize stopRemoved e o ((s.arrive t).faulted kind) = w at *
    obtain ⟨hcut, hamp, hresult, -, hlatch, hline, hpeers, hrem, hsettings, hframer, hstore, hlevel, hstatus⟩ :=
      fault_clauses (s := s) (w := w) (t := t) (kind := kind) hawake hfloor hhall hpower hapart
    obtain ⟨hseq', hspeech', htone', -, -, -, -, hpanel', -⟩ := faultTold_fields w
    refine ⟨faultTold w, conclude (faultTold w), (concluding_of_awake hawake t (speakerFails kind)).trans (by rw [hfails]), rfl,
      ?_, ?_, ?_, hcut, conclude_entry_none ?_, ?_, hamp, hresult, hlatch, ?_, hline, hpeers, hrem,
      sessionKept_conclude (rs := s.panel.repeats.filter fun r => r.tag ≠ e.tag) ?_, hsettings, hframer, hstore, hlevel, hstatus⟩
    · rw [hseq', hseq]
    · rw [hspeech', hstopped.1]
    · rw [htone', hstopped.2]
    · rw [State.entry, hseq']
      exact hnone
    · rw [conclude_cuts, hseq', hseq]
      rfl
    · have hfits : ReportFits w := by
        refine ⟨hlistening', ?_⟩
        rw [hreports, List.length_append]
        exact hlen
      rw [conclude_reports, faultTold_reports hfits, hreports, List.append_assoc]
      rfl
    · rw [hpanel', hpanel]
      rfl

end Sys2Proof.Machine
end

section
/-! A service that goes on after a boundary, and the end of the gap between items (R22, R49, R118, R128). -/

namespace Sys2Proof.Machine
open Sys2Proof Host Safety

/-! What follows a step while the slot is held. -/

theorem conclude_of_speaks {s : State} (hawake : s.power.mode ≠ .sleep) (h : s.slotSpeaks = true) :
    (conclude s).besideHolds = s.besideHolds := by
  have hwait : startWaitingRecovery s = s := if_neg (by simp [h])
  rw [conclude_besideHolds hawake, hwait, select_of_slot (slot_of_speaks h)]

/-- A held slot: nothing is selected, and a waiting recovery attempt moves the hall port alone. -/
theorem conclude_of_held {s : State} (hawake : s.power.mode ≠ .sleep) (h : s.seq.slot.isSome = true) :
    ∃ x l, (conclude s).besideHolds = (s.onHall fun p => { p with recovery := x, txList := l }).besideHolds := by
  obtain ⟨x, l, hstart, -⟩ := startWaitingRecovery_onHall s
  refine ⟨x, l, ?_⟩
  rw [conclude_besideHolds hawake, hstart, select_of_slot (s := s.onHall _) h]

theorem slotSpeaks_of_served {s : State} {e : Entry} (h : s.served = some e) (hstate : e.state = .speaking) :
    s.slotSpeaks = true := by
  unfold State.slotSpeaks
  rw [h]
  exact decide_eq_true hstate

/-! The level applied at a boundary. -/

theorem askMaskedBlink_display (s : State) (r : LevelResult) (h : r.masked = true) :
    (askMaskedBlink s).display = { s.display with blink := blinkAfter s.now r s.display.text s.display.blink } := by
  unfold askMaskedBlink blinkAfter
  rw [State.onDisplay_display, if_pos h]
  obtain ⟨text, scroll, blink, _, _, _, _, _, _, _, _⟩ := s.display
  dsimp only
  cases text <;> cases blink <;> rfl

theorem applyLevel_display (r : LevelResult) (s : State) :
    (applyLevel r s).display = { s.display with blink := blinkAfter s.now r s.display.text s.display.blink } := by
  unfold applyLevel
  split
  next h => exact askMaskedBlink_display _ r h
  next h =>
    unfold blinkAfter
    rw [if_neg h]
    rfl

theorem applyLevel_level (r : LevelResult) (s : State) :
    (applyLevel r s).level.lastG = r.gain
      ∧ (applyLevel r s).level.maskedPhrases =
          (if r.masked then min 65535 (s.level.maskedPhrases + 1) else s.level.maskedPhrases) := by
  unfold applyLevel
  split <;> exact ⟨rfl, rfl⟩

theorem applyLevel_link (r : LevelResult) (s : State) : (applyLevel r s).link = { s.link with latches := (applyLevel r s).link.latches } := by
  unfold applyLevel
  split <;> rfl

theorem applyLevel_rest (r : LevelResult) (s : State) :
    (applyLevel r s).panel = s.panel ∧ (applyLevel r s).floor = s.floor ∧ (applyLevel r s).tone = s.tone
      ∧ (applyLevel r s).now = s.now := by
  unfold applyLevel
  split <;> exact ⟨rfl, rfl, rfl, rfl⟩

theorem startItem_of_some {items : List ScriptItem} {i : Nat} {x : ScriptItem} (h : items[i]? = some x) (s : State) :
    startItem items i s = s.setSpeech (.playing i x.phraseOf s.now none) := by
  unfold startItem
  rw [h]

theorem startItem_cases (items : List ScriptItem) (i : Nat) (s : State) : ∃ x, startItem items i s = s.setSpeech x := by
  unfold startItem
  split
  · exact ⟨_, rfl⟩
  · exact ⟨s.speech, rfl⟩

/-- What a boundary that goes on leaves and sets, where `w` differs from the state with its level applied in the speech alone. -/
theorem goesOn_clauses {s st w : State} {t : Nat} {e : Entry} {x : Speech} (hawake : s.power.mode ≠ .sleep)
    (hserved : s.served = some e) (hstate : e.state = .speaking) (hst : AtBoundaryOf s st)
    (hnow : st.now = s.instant t) (hlevel : st.level = s.level) (hdisplay : st.display = s.display)
    (hw : w = (applyLevel (levelNow s e.cls) st).setSpeech x) :
    (conclude w).besideHolds = w.besideHolds ∧ LevelApplied (levelNow s e.cls) s (conclude w)
      ∧ (conclude w).display.text = s.display.text
      ∧ (conclude w).display.blink = blinkAfter (s.instant t) (levelNow s e.cls) s.display.text s.display.blink
      ∧ (conclude w).seq = s.seq
      ∧ ReportsKept s (conclude w) ∧ PanelKept s (conclude w) ∧ ViewKept s (conclude w) ∧ BesidesServiceKept s (conclude w) := by
  obtain ⟨hseq, hfloor, hhall, hpanel, hlink, hpower, hapart⟩ := hst
  generalize hr : levelNow s e.cls = r at hw ⊢
  obtain ⟨hgain, hmasked⟩ := applyLevel_level r st
  obtain ⟨hpanel', hfloor', htone', hnow'⟩ := applyLevel_rest r st
  have hwseq : w.seq = s.seq := by
    rw [hw]
    exact (applyLevel_seq r st).trans hseq
  have hwlink : w.link = { s.link with latches := (applyLevel r st).link.latches } := by
    rw [hw]
    exact (applyLevel_link r st).trans (by rw [hlink])
  have hheld : (conclude w).besideHolds = w.besideHolds := by
    refine conclude_of_speaks ?_ (slotSpeaks_of_served (e := e) ?_ hstate)
    · rw [hw]
      show (applyLevel r st).power.mode ≠ _
      rw [applyLevel_power, hpower]
      exact hawake
    · unfold State.served
      rw [hwseq]
      exact hserved
  obtain ⟨-, hcseq, -, -, -, -, -, -, hcdisplay, hclink⟩ := besideHolds_fields hheld
  obtain ⟨hclast, hcmasked, -⟩ := besideHolds_level hheld
  have hwdisplay : w.display = { s.display with blink := blinkAfter (s.instant t) r s.display.text s.display.blink } := by
    rw [hw, ← hnow, ← hdisplay]
    exact applyLevel_display r st
  refine ⟨hheld, ⟨?_, ?_, ?_⟩, ?_, ?_, hcseq.trans hwseq, conclude_reportsKept ?_, panelKept_conclude ?_, conclude_viewKept ?_,
    besidesServiceKept_conclude ?_⟩
  · rw [hclast, hw]
    exact hgain
  · rw [hcmasked, hw, ← hlevel]
    exact hmasked
  · rw [hclink, hwlink, ← hlink]
    exact applyLevel_latches r st
  · rw [hcdisplay, hwdisplay]
  · rw [hcdisplay, hwdisplay]
  · unfold ReportsKept
    rw [hwlink]
    exact ⟨rfl, rfl, rfl⟩
  · rw [hw]
    exact hpanel'.trans hpanel
  · rw [hw]
    exact congrArg FloorUnit.view (hfloor'.trans hfloor)
  · rw [hw, State.setSpeech_apart, applyLevel_apart, hapart]

theorem itemGapEnds_of_due {s : State} {n : Nat} {tm : Timer} {v : Service} (hspeech : s.speech = .gap n tm)
    (hdue : tm.due ≤ s.now) (hslot : s.seq.slot = some v) : itemGapEnds s = startItem v.script.items n s := by
  unfold itemGapEnds
  rw [hspeech, hslot]
  exact if_pos (Timer.reached_of_due hdue)

/-- The samples that drive the loudspeaker in the first millisecond of a phrase. -/
theorem speakerDrive_of_phrase {u : State} {n : Nat} {ph : Option (Nat × Nat)} {p : PhraseItem} {v : Service}
    (hspeech : u.speech = .playing n ph u.now none) (hslot : u.seq.slot = some v) (hitem : v.script.items[n]? = some (.phrase p))
    (hamp : u.power.amp = .on) (hcheck : u.power.check = .idle) (hchime : u.tone.chime = .idle) :
    u.speakerDrive =
      .samples ((List.range 16).map fun k => if u.byteSounds p u.now none (k / 2) then p.sample u.store.flash k else 0) := by
  have hphrase : u.playedPhrase = some (p, u.now, none) := by
    unfold State.playedPhrase State.playedItem
    rw [hspeech, hslot]
    dsimp only
    rw [hitem]
  have hsamples : u.speechSamples p u.now none =
      (List.range 16).map fun k => if u.byteSounds p u.now none (k / 2) then p.sample u.store.flash k else 0 := by
    unfold State.speechSamples State.drivenSample
    rw [Nat.sub_self, Nat.mul_zero]
    exact List.map_congr_left fun k _ => by rw [Nat.zero_add]
  unfold State.speakerDrive
  rw [if_neg (by simp [State.ampOff, hamp]), hcheck, hchime]
  dsimp only
  unfold State.speechDrive
  rw [hphrase]
  exact congrArg Drive.samples hsamples

/-- Settles O46. -/
theorem boundaryGoesOn : Obligations.BoundaryGoesOn := by
  refine ⟨?_, ?_⟩
  · intro c t s v e hboundary hawake hslot hserved hstate hremoval hpreempt hoverlap hhigher
    obtain ⟨st, goOn, hexec, hway⟩ := boundary_reached hboundary hawake hslot hserved hstate
    rcases hway with ⟨rfl, hst, hgo⟩ | ⟨rfl, hst, i, ph, start, stop, hspeech, hgo⟩
    · rw [atBoundary_goesOn hremoval hpreempt hoverlap (by rw [hst]; exact hhigher), hgo,
        show st.computeLevel e.cls = levelNow s e.cls by rw [hst]; rfl] at hexec
      obtain ⟨x, hx⟩ := startItem_cases v.script.items 0 (applyLevel (levelNow s e.cls) st)
      obtain ⟨hheld, happlied, htext, hblink, hseq, hreports, hpanel, hview, hrest⟩ :=
        goesOn_clauses (w := startItem v.script.items 0 (applyLevel (levelNow s e.cls) st)) (st := st) (t := t) hawake hserved
          hstate (by rw [hst]; exact ⟨rfl, rfl, rfl, rfl, rfl, rfl, rfl⟩) (by rw [hst]; rfl) (by rw [hst]; rfl)
          (by rw [hst]; rfl) hx
      refine ⟨_, hexec, happlied, htext, hblink, hseq, fun _ y hy => ?_, nofun, hreports, hpanel, hview, hrest⟩
      obtain ⟨-, -, -, hspeech, htone, -⟩ := besideHolds_fields hheld
      rw [hspeech, htone, startItem_of_some hy]
      obtain ⟨-, -, htone', hnow'⟩ := applyLevel_rest (levelNow s e.cls) st
      refine ⟨?_, ?_⟩
      · show (applyLevel _ st).tone.chime = _
        rw [htone', hst]
        rfl
      · show Speech.playing 0 y.phraseOf (applyLevel _ st).now none = _
        rw [hnow', hst]
        rfl
    · rw [atBoundary_goesOn hremoval hpreempt hoverlap (by rw [hst]; exact hhigher), hgo,
        show st.computeLevel e.cls = levelNow s e.cls by rw [hst]; rfl] at hexec
      obtain ⟨hheld, happlied, htext, hblink, hseq, hreports, hpanel, hview, hrest⟩ :=
        goesOn_clauses (st := st) (t := t) hawake hserved hstate (by rw [hst]; exact ⟨rfl, rfl, rfl, rfl, rfl, rfl, rfl⟩)
          (by rw [hst]; rfl) (by rw [hst]; rfl) (by rw [hst]; rfl)
          (rfl : (applyLevel (levelNow s e.cls) st).setSpeech (.gap (i + 1) (st.after 40)) = _)
      refine ⟨_, hexec, happlied, htext, hblink, hseq, nofun, fun _ i' ph' start' stop' hspeech' => ?_, hreports, hpanel, hview,
        hrest⟩
      obtain ⟨-, -, -, hu, -⟩ := besideHolds_fields hheld
      rw [hspeech] at hspeech'
      obtain ⟨rfl, -⟩ := Speech.playing.inj hspeech'
      rw [hu, hst]
      rfl
  · intro t n s tm v x hawake hspeech hdue hslot hitem
    have hends : itemGapEnds (s.arrive t) = (s.arrive t).setSpeech (.playing n x.phraseOf (s.instant t) none) := by
      rw [itemGapEnds_of_due (s := s.arrive t) hspeech hdue hslot, startItem_of_some hitem]
      rfl
    generalize hw : (s.arrive t).setSpeech (.playing n x.phraseOf (s.instant t) none) = w at hends
    obtain ⟨y, l, hheld⟩ := conclude_of_held (s := w) (by rw [← hw]; exact hawake) (by rw [← hw]; exact hslot ▸ rfl)
    obtain ⟨hnow, hseq, hstore, hspeech', htone, -⟩ := besideHolds_fields hheld
    obtain ⟨hlast, -⟩ := besideHolds_level hheld
    have hwapart : w.apart = s.apart := by rw [← hw]; rfl
    have hrest : BesidesServiceKept s (conclude w) := besidesServiceKept_conclude hwapart
    refine ⟨_, (concluding_of_awake hawake t itemGapEnds).trans (by rw [hends]), hspeech'.trans ?_, hseq.trans ?_, hlast.trans ?_,
      fun p hp hamp hcheck hchime => ?_, htone.trans ?_, conclude_reportsKept ?_, panelKept_conclude ?_, conclude_viewKept ?_, hrest⟩
    case refine_4 =>
      have hunow : (conclude w).now = s.instant t := by
        rw [hnow, ← hw]
        rfl
      have hflash : (conclude w).store.flash = s.store.flash := by
        rw [hstore, ← hw]
        rfl
      have hdrive := speakerDrive_of_phrase (u := conclude w) (n := n) (ph := x.phraseOf) (p := p) (v := v)
        (by rw [hspeech', hunow, ← hw]; rfl) (by rw [hseq, ← hw]; exact hslot) (by rw [hitem, hp])
        (by rw [(besideHolds_power hheld).2, ← hw]; exact hamp)
        ((congrArg (fun a => a.speaker.1) ((conclude_apart w).trans hwapart)).trans hcheck) (by rw [htone, ← hw]; exact hchime)
      rw [hunow, hflash] at hdrive
      exact hdrive
    all_goals rw [← hw]
    · rfl
    · rfl
    · rfl
    · rfl
    · exact ⟨rfl, rfl, rfl⟩
    · rfl
    · rfl

end Sys2Proof.Machine
end

section
/-! The end of a service (R27, R28, R95, R141, R175): what it does before its entry is answered, and the answers. -/

namespace Sys2Proof.Machine
open Sys2Proof Host Safety

/-! The answers of an entry touch the queue, the panel and the reports alone. -/

/-- A state without the blocks that an answer may touch. -/
def State.besideAnswers (s : State) : State :=
  { s with link := CueLink.reset, seq := Sequencer.reset, panel := Panel.reset }

theorem reportDone_besideAnswers (origin : Origin) (tag : Nat) (o : DoneOutcome) (s : State) :
    (reportDone origin tag o s).besideAnswers = s.besideAnswers := by
  unfold reportDone
  split <;> rfl

theorem leaveWith_besideAnswers (e : Entry) (o : DoneOutcome) (s : State) :
    (leaveWith e o s).besideAnswers = s.besideAnswers := by
  unfold leaveWith
  rw [reportDone_besideAnswers]
  rfl

theorem makeAwaiting_besideAnswers (e : Entry) (s : State) : (makeAwaiting e s).besideAnswers = s.besideAnswers := by
  unfold makeAwaiting
  dsimp only
  (repeat' split) <;> rfl

/-- The state whose last completed prompt is that of an entry, but for one of a key. -/
def State.completed (s : State) (e : Entry) : State :=
  if e.origin = .key then s
  else s.onPanel fun p => { p with lastCompleted := some ⟨e.template, e.param1, e.param2, e.cls, e.channels⟩ }

theorem completeEntry_eq (e : Entry) (s : State) :
    completeEntry e s =
      if e.ackRequired then makeAwaiting e (dropEntry e.tag (s.completed e)) else leaveWith e .completed (s.completed e) := rfl

theorem completed_fields (e : Entry) (s : State) :
    (s.completed e).besideAnswers = s.besideAnswers ∧ (s.completed e).seq = s.seq ∧ (s.completed e).link = s.link
      ∧ (s.completed e).panel =
          { s.panel with
            lastCompleted :=
              if e.origin = .key then s.panel.lastCompleted
              else some ⟨e.template, e.param1, e.param2, e.cls, e.channels⟩ } := by
  unfold State.completed
  split <;> exact ⟨rfl, rfl, rfl, rfl⟩

theorem completeEntry_besideAnswers (e : Entry) (s : State) : (completeEntry e s).besideAnswers = s.besideAnswers := by
  rw [completeEntry_eq]
  split
  · rw [makeAwaiting_besideAnswers]
    exact (completed_fields e s).1
  · rw [leaveWith_besideAnswers]
    exact (completed_fields e s).1

theorem makeAwaiting_seq (e : Entry) (s : State) : (makeAwaiting e s).seq = s.seq := by
  unfold makeAwaiting
  dsimp only
  (repeat' split) <;> rfl

theorem completeEntry_seq (e : Entry) (s : State) :
    (completeEntry e s).seq = { s.seq with queue := s.seq.queue.filter fun x => x.tag ≠ e.tag } := by
  have hseq := (completed_fields e s).2.1
  rw [completeEntry_eq]
  split
  · rw [makeAwaiting_seq, dropEntry_seq, hseq]
  · rw [leaveWith_seq, hseq]

/-! A service that has ended. -/

/-- The state of a service that has ended, before its entry is answered: the floor and the hall port are those of `f`. -/
structure Ended (t : Nat) (s f y : State) : Prop where
  seq : y.seq = { s.seq with slot := none }
  panel : y.panel = s.panel
  link : y.link = s.link
  speech : y.speech = .idle
  chime : y.tone.chime = .idle
  text : y.display.text = none
  mode : y.power.mode = .active
  apart : y.apart = s.apart
  now : y.now = s.instant t
  floor : y.floor = f.floor
  hall : y.hall = f.hall

theorem activity_fields (s : State) :
    (activity s).seq = s.seq ∧ (activity s).panel = s.panel ∧ (activity s).link = s.link ∧ (activity s).now = s.now
      ∧ (activity s).floor = s.floor ∧ (activity s).hall = s.hall ∧ (activity s).apart = s.apart :=
  have hkept := activity_besideOutput s
  ⟨activity_seq s, congrArg (fun x => x.2.2.1) (State.outside_eq_of_besideOutput hkept), activity_link s,
    congrArg Prod.fst (activity_env s), State.floor_eq_of_besideOutput hkept, State.hall_eq_of_besideOutput hkept,
    activity_apart s⟩

theorem activity_mode {s : State} (hawake : s.power.mode ≠ .sleep) : (activity s).power.mode = .active := by
  obtain ⟨p, d, hact, hmode, -⟩ := activity_cases hawake
  rw [hact]
  exact hmode

theorem emptySlot_activity_ended {t : Nat} {s f : State} (hawake : f.power.mode ≠ .sleep) (hseq : f.seq = s.seq)
    (hpanel : f.panel = s.panel) (hlink : f.link = s.link) (hnow : f.now = s.instant t) (hapart : f.apart = s.apart) :
    Ended t s f (emptySlot (activity f)) := by
  obtain ⟨hseq', hpanel', hlink', hnow', hfloor', hhall', hapart'⟩ := activity_fields f
  exact
    { seq := by rw [emptySlot_seq, hseq', hseq]
      panel := by rw [emptySlot_panel, hpanel', hpanel]
      link := by rw [emptySlot_link, hlink', hlink]
      speech := rfl
      chime := rfl
      text := rfl
      mode := by rw [emptySlot_power, activity_mode hawake]
      apart := by rw [emptySlot_apart, hapart', hapart]
      now := by rw [emptySlot_now, hnow', hnow]
      floor := by rw [emptySlot_floor, hfloor']
      hall := by rw [emptySlot_hall, hhall'] }

/-- What the end of a service gives up: a spoken one its floor, with COMPLETE; a silent one nothing. -/
def givesUp (e : Entry) (s : State) : State := if e.state = .speaking then releaseFloor .complete s else s

theorem releaseFloor_congr {s x : State} (hfloor : x.floor = s.floor) (hhall : x.hall = s.hall) (hnow : x.now = s.now)
    (o : ReleaseOutcome) : (releaseFloor o x).floor = (releaseFloor o s).floor ∧ (releaseFloor o x).hall = (releaseFloor o s).hall := by
  have hframe (f : TxFrame) : (handFrame f x).hall = (handFrame f s).hall := by
    unfold handFrame
    rw [hhall]
    split
    · exact hhall
    · rw [State.onHall_hall, State.onHall_hall, hhall]
  by_cases h : s.floor.own.state = .holding
  · have hx : x.floor.own.state = .holding := by rw [hfloor, h]
    have hafter : x.after 250 = s.after 250 := by unfold State.after; rw [hnow]
    rw [releaseFloor_own h, releaseFloor_own hx, releaseFloor_hall h, releaseFloor_hall hx, hframe, hfloor, hafter]
    exact ⟨rfl, rfl⟩
  · rw [releaseFloor_of_other h, releaseFloor_of_other (by rw [hfloor]; exact h)]
    exact ⟨hfloor, hhall⟩

theorem endService_eq (e : Entry) (v : Service) (s : State) :
    (v.removal = none → endService e v s = completeEntry e (emptySlot (activity (releaseFloor .complete s))))
      ∧ ∀ o, v.removal = some o → endService e v s = leaveWith e o (emptySlot (activity (releaseFloor .complete s))) := by
  unfold endService
  dsimp only
  refine ⟨fun h => ?_, fun o h => ?_⟩ <;> rw [h]

/-- The end of a spoken service, from a state `x` that differs from `s` in its instant, its speech and its tone. -/
theorem spoken_ended {t : Nat} {s x : State} (hawake : s.power.mode ≠ .sleep) (hseq : x.seq = s.seq) (hpanel : x.panel = s.panel)
    (hlink : x.link = s.link) (hpower : x.power = s.power) (hnow : x.now = s.instant t) (hapart : x.apart = s.apart)
    (hfloor : x.floor = s.floor) (hhall : x.hall = s.hall) :
    Ended t s (releaseFloor .complete (s.arrive t)) (emptySlot (activity (releaseFloor .complete x))) := by
  have hended : Ended t s (releaseFloor .complete x) (emptySlot (activity (releaseFloor .complete x))) :=
    emptySlot_activity_ended (by rw [releaseFloor_power, hpower]; exact hawake) (by rw [releaseFloor_seq, hseq])
      (by rw [releaseFloor_panel, hpanel]) (by rw [releaseFloor_link, hlink]) (by rw [releaseFloor_now, hnow])
      (by rw [releaseFloor_apart, hapart])
  obtain ⟨hf, hh⟩ := releaseFloor_congr (s := s.arrive t) hfloor hhall hnow .complete
  exact { hended with floor := hended.floor.trans hf, hall := hended.hall.trans hh }

theorem served_of_only {s : State} {v : Service} {e : Entry} (hslot : s.seq.slot = some v) (hqueue : s.seq.queue = [e])
    (htag : e.tag = v.tag) : s.served = some e := by
  rw [served_eq_entry hslot, State.entry, hqueue]
  exact List.find?_cons_of_pos (by simpa using htag)

/-- The end of a service: its entry is completed, or leaves with the outcome of a pending removal. -/
theorem endsService_reached {c : Instr} {t : Nat} {s : State} {v : Service} {e : Entry} (h : EndsService c t s v e)
    (hawake : s.power.mode ≠ .sleep) (hslot : s.seq.slot = some v) (hqueue : s.seq.queue = [e]) (htag : e.tag = v.tag) :
    ∃ y, Ended t s (givesUp e (s.arrive t)) y
      ∧ (v.removal = none → exec c s = .next (conclude (completeEntry e y)))
      ∧ ∀ o, v.removal = some o → e.state = .speaking → exec c s = .next (conclude (leaveWith e o y)) := by
  have hserved := served_of_only hslot hqueue htag
  rcases h with ⟨rfl, hstate, hitems, ch, hchime, hdue⟩ | ⟨rfl, hstate, i, ph, start, stop, x, hspeech, hitem, hlen, hdue⟩
    | ⟨rfl, hstate, tm, hsilent, hdue⟩
  · have hends := chimeEnds_of_due (s := s.arrive t) hchime hdue (speaking_of_served (s := s.arrive t) hslot hserved hstate)
    rw [if_pos hitems] at hends
    obtain ⟨hnone, hsome⟩ := endService_eq e v (stopChime (s.arrive t))
    rw [givesUp, if_pos hstate]
    exact ⟨_, spoken_ended (x := stopChime (s.arrive t)) hawake rfl rfl rfl rfl rfl rfl rfl rfl,
      fun h => (concluding_of_awake hawake t chimeEnds).trans (by rw [hends, hnone h]),
      fun o h _ => (concluding_of_awake hawake t chimeEnds).trans (by rw [hends, hsome o h])⟩
  · have hends := itemEnds_of_due (s := s.arrive t) hspeech hslot hitem hdue
      (speaking_of_served (s := s.arrive t) hslot hserved hstate)
    rw [if_pos (Nat.le_of_eq hlen)] at hends
    obtain ⟨hnone, hsome⟩ := endService_eq e v ((s.arrive t).setSpeech .idle)
    rw [givesUp, if_pos hstate]
    exact ⟨_, spoken_ended (x := (s.arrive t).setSpeech .idle) hawake rfl rfl rfl rfl rfl rfl rfl rfl,
      fun h => (concluding_of_awake hawake t itemEnds).trans (by rw [hends, hnone h]),
      fun o h _ => (concluding_of_awake hawake t itemEnds).trans (by rw [hends, hsome o h])⟩
  · have hends : silentServiceEnds (s.arrive t) = completeEntry e (emptySlot (activity (s.arrive t))) := by
      unfold silentServiceEnds
      rw [show (s.arrive t).served = some e from hserved, show (s.arrive t).seq.slot = some v from hslot]
      exact if_pos ⟨hstate, reachedAt_of_due hsilent hdue⟩
    rw [givesUp, if_neg (by rw [hstate]; nofun)]
    exact ⟨_, emptySlot_activity_ended (f := s.arrive t) hawake rfl rfl rfl rfl rfl,
      fun _ => (concluding_of_awake hawake t silentServiceEnds).trans (by rw [hends]),
      fun o _ h => absurd (hstate.symm.trans h) nofun⟩

/-- What `conclude` leaves where the queue is empty. -/
theorem conclude_of_empty_fields {w : State} (hawake : w.power.mode ≠ .sleep) (hslot : w.seq.slot = none)
    (hqueue : w.seq.queue = []) :
    (conclude w).speech = w.speech ∧ (conclude w).tone = w.tone ∧ (conclude w).display = w.display
      ∧ (conclude w).power.mode = w.power.mode := by
  obtain ⟨x, l, hwaiting, -⟩ := startWaitingRecovery_onHall w
  have hbeside := conclude_besideHolds hawake
  rw [hwaiting, select_of_none (s := w.onHall _) hslot (by simp [hqueue])] at hbeside
  obtain ⟨-, -, -, hspeech, htone, -, -, -, hdisplay, -⟩ := besideHolds_fields hbeside
  exact ⟨hspeech, htone, hdisplay, (besideHolds_power hbeside).1⟩

theorem serviceEnded_of_ended {t : Nat} {s y w : State} {e : Entry} (hqueue : s.seq.queue = [e])
    (h : Ended t s (givesUp e (s.arrive t)) y) (hbeside : w.besideAnswers = y.besideAnswers)
    (hseq : w.seq = { y.seq with queue := y.seq.queue.filter fun x => x.tag ≠ e.tag })
    (hrepeats : w.panel.repeats = y.panel.repeats.filter fun x => x.tag ≠ e.tag)
    (hkeys : w.panel.keys = y.panel.keys) (hsession : w.panel.inSession = y.panel.inSession) (hapart : w.apart = y.apart) :
    ServiceEnded t e s (conclude w) := by
  have hspeech : w.speech = y.speech := (congrArg State.speech hbeside : w.besideAnswers.speech = _)
  have htone : w.tone = y.tone := (congrArg State.tone hbeside : w.besideAnswers.tone = _)
  have hdisplay : w.display = y.display := (congrArg State.display hbeside : w.besideAnswers.display = _)
  have hpower : w.power = y.power := (congrArg State.power hbeside : w.besideAnswers.power = _)
  have hfloor : w.floor = y.floor := (congrArg State.floor hbeside : w.besideAnswers.floor = _)
  have hhall : w.hall = y.hall := (congrArg State.hall hbeside : w.besideAnswers.hall = _)
  have hmode : w.power.mode ≠ .sleep := by
    rw [hpower, h.mode]
    nofun
  have hslot : w.seq.slot = none := by rw [hseq, h.seq]
  have hempty : w.seq.queue = [] := by
    rw [hseq, h.seq]
    exact List.filter_eq_nil_iff.mpr (by simp [hqueue])
  obtain ⟨hcslot, hcqueue, hcfloor, hchall⟩ := conclude_of_empty hmode hslot hempty
  obtain ⟨hcspeech, hctone, hcdisplay, hcmode⟩ := conclude_of_empty_fields hmode hslot hempty
  have hgives : e.state = .speaking → givesUp e (s.arrive t) = releaseFloor .complete (s.arrive t) := fun hs => if_pos hs
  have hwrec (f : State) (hf : y.hall = f.hall) (hr : f.hall.recovery ≠ .waiting) : w.hall.recovery ≠ .waiting := by
    rw [hhall, hf]
    exact hr
  refine ⟨hcslot, hcqueue, hcspeech.trans (hspeech.trans h.speech), ?_, ?_, ?_, ?_, ?_, ?_, ?_, ?_, ?_,
    besidesServiceKept_conclude (hapart.trans h.apart)⟩
  · rw [hctone, htone, h.chime]
  · rw [hcdisplay, hdisplay, h.text]
  · rw [conclude_panel, hrepeats, h.panel]
  · intro seq hstate hholding hrelease hfault hrecovery
    have hyhall := h.hall
    rw [hgives hstate] at hyhall
    have hrec : (releaseFloor .complete (s.arrive t)).hall.recovery ≠ .waiting := by
      rw [releaseFloor_recovery]
      exact hrecovery
    rw [hchall (hwrec _ hyhall hrec), hcfloor, hhall, hyhall, releaseFloor_hall (s := s.arrive t) hholding,
      handFrame_txList (s := s.arrive t) hfault, releaseSeq_eq (o := (s.arrive t).floor.own) hrelease, hfloor, h.floor,
      hgives hstate, releaseFloor_own (s := s.arrive t) hholding]
    exact ⟨rfl, rfl⟩
  · intro hstate hholding
    rw [hcfloor, hfloor, h.floor, hgives hstate, releaseFloor_own (s := s.arrive t) hholding]
    exact ⟨rfl, rfl⟩
  · intro hother
    have hsame : givesUp e (s.arrive t) = s.arrive t := by
      unfold givesUp
      rcases hother with hstate | hnot
      · exact if_neg (by rw [hstate]; nofun)
      · rw [releaseFloor_of_other (s := s.arrive t) hnot]
        exact ite_self _
    rw [hcfloor, hfloor, h.floor, hsame]
    refine ⟨rfl, fun hrecovery => ?_⟩
    have hyhall := h.hall
    rw [hsame] at hyhall
    rw [hchall (hwrec _ hyhall hrecovery), hhall, hyhall]
    rfl
  · rw [hcmode, hpower, h.mode]
  · rw [conclude_panel, hkeys, h.panel]
  · rw [conclude_panel, hsession, h.panel]

theorem completeEntry_panel_kept (e : Entry) (y : State) :
    (completeEntry e y).panel.repeats = y.panel.repeats.filter (fun x => x.tag ≠ e.tag)
      ∧ (completeEntry e y).panel.keys = y.panel.keys ∧ (completeEntry e y).panel.inSession = y.panel.inSession
      ∧ (completeEntry e y).panel.lastCompleted = (y.completed e).panel.lastCompleted := by
  obtain ⟨-, -, -, hpanel⟩ := completed_fields e y
  have hawaiting (st : State) : (makeAwaiting e st).panel.repeats = st.panel.repeats
      ∧ (makeAwaiting e st).panel.keys = st.panel.keys ∧ (makeAwaiting e st).panel.inSession = st.panel.inSession
      ∧ (makeAwaiting e st).panel.lastCompleted = st.panel.lastCompleted := by
    unfold makeAwaiting
    dsimp only
    (repeat' split) <;> exact ⟨rfl, rfl, rfl, rfl⟩
  rw [completeEntry_eq]
  split
  · obtain ⟨hr, hk, hs, hl⟩ := hawaiting (dropEntry e.tag (y.completed e))
    rw [hr, hk, hs, hl, dropEntry_panel, hpanel]
    exact ⟨rfl, rfl, rfl, rfl⟩
  · rw [leaveWith_panel, hpanel]
    exact ⟨rfl, rfl, rfl, rfl⟩

/-- The end of a service without a pending removal. -/
theorem service_completes {c : Instr} {t : Nat} {s : State} {v : Service} {e : Entry} (h : EndsService c t s v e)
    (hawake : s.power.mode ≠ .sleep) (hslot : s.seq.slot = some v) (hremoval : v.removal = none) (hqueue : s.seq.queue = [e])
    (htag : e.tag = v.tag) :
    ∃ y, exec c s = .next (conclude (completeEntry e y)) ∧ ServiceEnded t e s (conclude (completeEntry e y))
      ∧ y.panel = s.panel ∧ y.link = s.link ∧ y.now = s.instant t
      ∧ (conclude (completeEntry e y)).panel.lastCompleted =
          if e.origin = .key then s.panel.lastCompleted else some ⟨e.template, e.param1, e.param2, e.cls, e.channels⟩ := by
  obtain ⟨y, hended, hexec, -⟩ := endsService_reached h hawake hslot hqueue htag
  obtain ⟨hrepeats, hkeys, hsession, hlast⟩ := completeEntry_panel_kept e y
  refine ⟨y, hexec hremoval, serviceEnded_of_ended hqueue hended (completeEntry_besideAnswers e y) (completeEntry_seq e y)
    hrepeats hkeys hsession (completeEntry_apart e y), hended.panel, hended.link, hended.now, ?_⟩
  rw [conclude_panel, hlast, (completed_fields e y).2.2.2, hended.panel]

theorem recordFor_eq {s : State} {n : Nat} (h : s.now = n) (e : Entry) :
    s.recordFor e =
      ⟨e.tag, e.cls, e.template, e.param1, e.param2, e.channels, e.repeatsLeft, e.repeatInterval, n,
        ⟨n + e.repeatInterval * 1000, e.repeatInterval * 1000⟩⟩ := by
  rw [← h]
  rfl

/-- Settles O45: the end of a service, then the answer of its entry. -/
theorem serviceEndsComplete : Obligations.ServiceEndsComplete := by
  refine ⟨?_, ?_, ?_⟩
  · intro c t s v e h hawake hslot hremoval hqueue htag horigin hfits
    obtain ⟨y, hexec, hended, hpanel, hlink, hnow, hlast⟩ := service_completes h hawake hslot hremoval hqueue htag
    obtain ⟨-, -, hclink, hcpanel⟩ := completed_fields e y
    rw [hlink] at hclink
    rw [hpanel] at hcpanel
    rw [if_neg (by rw [horigin]; nofun)] at hlast
    have hcnow : (y.completed e).now = s.instant t :=
      ((congrArg State.now (completed_fields e y).1 : (y.completed e).besideAnswers.now = _)).trans hnow
    refine ⟨_, hexec, hended, hlast, fun hack => ?_, fun hack hroom => ?_, fun a rest hack hawaiting hfull => ?_⟩
    · rw [conclude_reports, conclude_panel, completeEntry_eq, if_neg (by simp [hack]),
        leaveWith_reports horigin _ (reportFits_of_link hclink hfits), leaveWith_panel, hclink, hcpanel]
      exact ⟨rfl, rfl⟩
    · rw [conclude_reports, conclude_panel, completeEntry_eq, if_pos hack,
        makeAwaiting_of_room (by rw [dropEntry_panel, hcpanel]; exact hroom)]
      show (y.completed e).link.reports = _ ∧ (y.completed e).panel.awaiting ++ [State.recordFor _ e] = _
      rw [hclink, hcpanel, recordFor_eq (s := dropEntry e.tag (y.completed e)) hcnow]
      exact ⟨rfl, rfl⟩
    · have hawaits : (dropEntry e.tag (y.completed e)).panel.awaiting = a :: rest := by
        rw [dropEntry_panel, hcpanel]
        exact hawaiting
      rw [conclude_reports, conclude_panel, completeEntry_eq, if_pos hack,
        makeAwaiting_of_full hawaits (by rw [hawaits, List.length_cons]; omega),
        recordFor_eq (s := dropEntry e.tag (y.completed e)) hcnow, State.onPanel_link, State.onPanel_panel,
        answerAwaiting_reports (reportFits_of_link (by rw [dropEntry_link, hclink]) hfits), answerAwaiting_panel, hawaits,
        dropEntry_link, hclink, List.filter_cons_of_neg (by simp)]
      exact ⟨rfl, rfl⟩
  · intro c t s v e h hawake hslot hremoval hqueue htag horigin hack
    obtain ⟨y, hexec, hended, hpanel, hlink, hnow, hlast⟩ := service_completes h hawake hslot hremoval hqueue htag
    obtain ⟨-, -, hclink, hcpanel⟩ := completed_fields e y
    refine ⟨_, hexec, hended, conclude_reportsKept ?_, ?_, hlast⟩
    · rw [completeEntry_eq, if_neg (by simp [hack])]
      unfold ReportsKept
      rw [leaveWith_link_internal horigin, hclink, hlink]
      exact ⟨rfl, rfl, rfl⟩
    · rw [conclude_panel, completeEntry_eq, if_neg (by simp [hack]), leaveWith_panel, hcpanel, hpanel]
  · intro c t s v e o h hstate hawake hslot hremoval hqueue htag
    obtain ⟨y, hended, -, hexec⟩ := endsService_reached h hawake hslot hqueue htag
    have hpanel := leaveWith_panel e o y
    refine ⟨_, hexec o hremoval hstate, serviceEnded_of_ended hqueue hended (leaveWith_besideAnswers e o y)
      (leaveWith_seq e o y) (by rw [hpanel]) (by rw [hpanel]) (by rw [hpanel]) (leaveWith_apart e o y), ?_, ?_,
      fun horigin hfits => ?_, fun horigin => conclude_reportsKept ?_⟩
    · rw [conclude_panel, hpanel, hended.panel]
    · rw [conclude_panel, hpanel, hended.panel]
    · rw [conclude_reports, leaveWith_reports horigin o (reportFits_of_link hended.link hfits), hended.link]
    · unfold ReportsKept
      rw [leaveWith_link_internal horigin, hended.link]
      exact ⟨rfl, rfl, rfl⟩

end Sys2Proof.Machine
end

section
/-! A prompt that the unit asks for itself (R13): dropped, merged with the entry that holds its tag, or made, in a full queue in
its victim's place; and the slots that fire (R159, R160). -/

namespace Sys2Proof.Machine
open Sys2Proof Host Safety

/-! The three outcomes. -/

theorem internalPrompt_dropped {p : InternalPrompt} {s : State}
    (h : ¬ TemplateKnown s p.template ∨ s.entry p.tag = none ∧ s.capacity p.cls = .full) : internalPrompt p s = countDrop s := by
  have hunknown := unknownTemplate_eq_false_iff s p.template
  unfold internalPrompt
  by_cases hknown : TemplateKnown s p.template
  · obtain ⟨hfree, hfull⟩ := h.resolve_left (not_not_intro hknown)
    rw [if_neg (by simp [hunknown.mpr hknown]), if_neg (by simp [hfree]), hfull]
  · exact if_pos (by simpa using mt hunknown.mp hknown)

theorem internalPrompt_merged {p : InternalPrompt} {s : State} {e : Entry} (hknown : TemplateKnown s p.template)
    (he : s.entry p.tag = some e) : internalPrompt p s = s := by
  unfold internalPrompt
  rw [if_neg (by simp [(unknownTemplate_eq_false_iff s _).mpr hknown]), if_pos (by simp [he])]

theorem internalPrompt_made {p : InternalPrompt} {s : State} (hknown : TemplateKnown s p.template)
    (hfree : s.entry p.tag = none) (hcap : s.capacity p.cls ≠ .full) :
    internalPrompt p s = joinQueue (s.internalEntry p) ((s.capacity p.cls).clear s) := by
  unfold internalPrompt
  rw [if_neg (by simp [(unknownTemplate_eq_false_iff s _).mpr hknown]), if_neg (by simp [hfree])]
  split
  next h => exact absurd h hcap
  next => rfl

/-! What a prompt asked for leaves. -/

theorem clear_panel (cap : Capacity) (s : State) : ∃ rs, (cap.clear s).panel = { s.panel with repeats := rs } := by
  cases cap with
  | evict v => exact ⟨_, evict_panel v s⟩
  | room => exact ⟨_, rfl⟩
  | full => exact ⟨_, rfl⟩

theorem internalPrompt_panel (p : InternalPrompt) (s : State) :
    ∃ rs, (internalPrompt p s).panel = { s.panel with repeats := rs } := by
  unfold internalPrompt
  (repeat' split)
  · exact ⟨_, rfl⟩
  · exact ⟨_, rfl⟩
  · exact ⟨_, rfl⟩
  · exact clear_panel _ s

theorem clear_fields (cap : Capacity) (s : State) :
    (cap.clear s).floor = s.floor ∧ (cap.clear s).hall = s.hall ∧ (cap.clear s).now = s.now
      ∧ (cap.clear s).power = s.power := by
  cases cap with
  | evict v => exact ⟨evict_floor v s, evict_hall v s, evict_now v s, evict_power v s⟩
  | room => exact ⟨rfl, rfl, rfl, rfl⟩
  | full => exact ⟨rfl, rfl, rfl, rfl⟩

theorem internalPrompt_fields (p : InternalPrompt) (s : State) :
    (internalPrompt p s).floor = s.floor ∧ (internalPrompt p s).hall = s.hall ∧ (internalPrompt p s).now = s.now
      ∧ (internalPrompt p s).power.mode = s.power.mode := by
  unfold internalPrompt
  (repeat' split)
  · exact ⟨rfl, rfl, rfl, rfl⟩
  · exact ⟨rfl, rfl, rfl, rfl⟩
  · exact ⟨rfl, rfl, rfl, rfl⟩
  · obtain ⟨hfloor, hhall, hnow, hpower⟩ := clear_fields (s.capacity p.cls) s
    refine ⟨hfloor, hhall, hnow, ?_⟩
    rw [joinQueue_mode, hpower]

/-- A prompt asked for on `x` and what has followed it, in the queue, the repeat list and the reports: `tail` joins last. -/
structure Asked (p : InternalPrompt) (tail : List Report) (s x w : State) : Prop where
  queue : x.seq = s.seq
  store : x.store = s.store
  repeats : x.panel.repeats = s.panel.repeats
  reports : x.link.reports = s.link.reports ∧ x.link.listening = s.link.listening
  seq : w.seq = (internalPrompt p x).seq
  list : w.panel.repeats = (internalPrompt p x).panel.repeats
  told : s.link.listening = true → (internalPrompt p x).link.reports.length + tail.length ≤ 16 →
    w.link.reports = (internalPrompt p x).link.reports ++ tail

section
variable {p : InternalPrompt} {tail : List Report} {s x w : State}

theorem Asked.entry (h : Asked p tail s x w) (tag : Nat) : x.entry tag = s.entry tag := by
  unfold State.entry
  rw [h.queue]

theorem Asked.known (h : Asked p tail s x w) (n : Nat) : TemplateKnown x n ↔ TemplateKnown s n := by
  unfold TemplateKnown
  rw [h.store]

theorem Asked.merged (h : Asked p tail s x w) {e : Entry} (hknown : TemplateKnown s p.template)
    (he : s.entry p.tag = some e) : QueueKept s (conclude w) ∧ ∃ e', (conclude w).entry p.tag = some e' ∧ e.Taken e' := by
  have hsame := internalPrompt_merged ((h.known _).mpr hknown) ((h.entry _).trans he)
  have hseq : w.seq = s.seq := by rw [h.seq, hsame, h.queue]
  refine ⟨conclude_queueKept (queueKept_of_seq hseq), conclude_entry_taken ?_⟩
  unfold State.entry
  rw [hseq]
  exact he

/-- The entry that the prompt makes where the queue has or gets room. -/
theorem Asked.made (h : Asked p tail s x w) (hknown : TemplateKnown s p.template) (hroom : HasRoom s p.cls.val)
    (hfree : s.entry p.tag = none) :
    ∃ m e', (conclude w).entry p.tag = some e' ∧ Entry.Taken { x.internalEntry p with made := m } e' := by
  have hcap : x.capacity p.cls = s.capacity p.cls := capacity_congr (by rw [h.queue]) _
  have hmade := internalPrompt_made ((h.known _).mpr hknown) ((h.entry _).trans hfree) (by
    rw [hcap]
    exact capacity_of_hasRoom hroom)
  have hfree' : ((x.capacity p.cls).clear x).entry p.tag = none := by
    have hx : x.entry p.tag = none := (h.entry _).trans hfree
    cases x.capacity p.cls with
    | evict v => exact entry_none_of_filter hx (p := fun e => e.tag ≠ v.tag) (by rw [Capacity.clear, evict_seq])
    | room => exact hx
    | full => exact hx
  have hjoined : w.entry p.tag = some { x.internalEntry p with made := ((x.capacity p.cls).clear x).seq.madeCount } := by
    refine entry_of_joined (e := { x.internalEntry p with made := ((x.capacity p.cls).clear x).seq.madeCount }) hfree' ?_
    rw [h.seq, hmade]
    rfl
  obtain ⟨e', he', htaken⟩ := conclude_entry_taken hjoined
  exact ⟨_, e', he', htaken⟩

/-- Dropped, or made in its victim's place (R11, R13). -/
theorem Asked.droppedOrRoomMade (h : Asked p tail s x w) : DroppedOrRoomMade p.tag p.template p.cls tail s (conclude w) := by
  refine ⟨fun hdrop => ?_, fun v hknown hfree hevicts => ?_⟩
  · have hcount := internalPrompt_dropped (p := p) (s := x) (hdrop.imp (mt (h.known _).mp) fun hfull =>
      ⟨(h.entry _).trans hfull.1, (capacity_congr (by rw [h.queue]) _).trans (capacity_of_full hfull.2)⟩)
    refine ⟨⟨?_, ?_⟩, fun hlistening hfits => ?_⟩
    · rw [conclude_tags, h.seq, hcount]
      exact congrArg (fun q => q.queue.map Entry.tag) h.queue
    · rw [conclude_internalDrops, h.seq, hcount]
      exact congrArg (fun q => min 65535 (q.internalDrops + 1)) h.queue
    · have hreports : (internalPrompt p x).link.reports = s.link.reports := by
        rw [hcount]
        exact h.reports.1
      rw [conclude_reports, h.told hlistening (by rw [hreports]; exact hfits), hreports]
  · have hcap : x.capacity p.cls = .evict v :=
      (capacity_congr (by rw [h.queue]) _).trans (capacity_of_evicts hevicts)
    have hmade := internalPrompt_made ((h.known _).mpr hknown) ((h.entry _).trans hfree) (by
      rw [hcap]
      nofun)
    rw [hcap] at hmade
    refine ⟨?_, fun hlistening hfits => ?_⟩
    · refine victimMakesRoom_of_joined (w := w) (e := { x.internalEntry p with made := (evict v x).seq.madeCount })
        (isVictim_mem hevicts.2.2.1) hfree ?_ ?_ ?_ rfl
      · rw [h.seq, hmade, ← h.queue]
        show insertEntry _ (evict v x).seq.queue = _
        have hqueue : (evict v x).seq.queue = x.seq.queue.filter fun e => e.tag ≠ v.tag := by rw [evict_seq]
        rw [hqueue]
        rfl
      · rw [h.seq, hmade, ← h.queue]
        show (evict v x).seq.internalDrops = _
        rw [evict_seq]
      · rw [h.list, hmade]
        show ∀ r ∈ (evict v x).panel.repeats, _
        rw [evict_panel]
        intro r hr
        simpa using (List.mem_filter.mp hr).2
    · have hreports : (internalPrompt p x).link.reports = s.link.reports ++ victimReports v := by
        rw [hmade, ← h.reports.1]
        exact (evict_reports (h.reports.2.trans hlistening) (by rw [h.reports.1]; omega)).1
      have hlength := victimReports_length v
      rw [conclude_reports, h.told hlistening (by rw [hreports, List.length_append]; omega), hreports]

end

/-! The slots that fire (R159, R160). -/

theorem Four.get_set_same {α : Type} {f : Four α} {n : Nat} (h : n ≤ 3) (x : α) : (f.set n x).get n = x := by
  interval_cases n <;> rfl

theorem Four.get_set_other {α : Type} {f : Four α} {n m : Nat} (hn : n ≤ 3) (hm : m ≤ 3) (h : m ≠ n) (x : α) :
    (f.set n x).get m = f.get m := by
  interval_cases n <;> interval_cases m <;> simp_all [Four.get, Four.set]

theorem fire_fields (p : InternalPrompt) (s : State) :
    (fire p s).seq = (internalPrompt p s).seq ∧ (fire p s).panel = (internalPrompt p s).panel
      ∧ (fire p s).link = (internalPrompt p s).link ∧ (fire p s).floor = s.floor ∧ (fire p s).hall = s.hall
      ∧ (fire p s).now = s.now ∧ (fire p s).rem = s.rem := by
  obtain ⟨hseq, hpanel, hlink, hnow, hfloor, hhall, -⟩ := activity_fields (internalPrompt p s)
  obtain ⟨hfloor', hhall', hnow', -⟩ := internalPrompt_fields p s
  exact ⟨hseq, hpanel, hlink, hfloor.trans hfloor', hhall.trans hhall', hnow.trans hnow', congrArg Apart.rem (fire_apart p s)⟩

theorem fire_mode {p : InternalPrompt} {s : State} (hawake : s.power.mode ≠ .sleep) : (fire p s).power.mode = .active := by
  have hmode := (internalPrompt_fields p s).2.2.2
  exact activity_mode (s := internalPrompt p s) (by rw [hmode]; exact hawake)

theorem slotFires_of_due {s : State} {n : Nat} {r : SlotRecord} {tm : Timer} (hn : n ≤ 3) (hr : s.rem.slots.get n = some r)
    (hfiring : r.nextFiring = some tm) (hdue : tm.due ≤ s.now) :
    slotFires n s = setSlot n (r.fired s.now) (fire (slotPrompt n r) s) := by
  unfold slotFires
  rw [if_pos hn, hr]
  exact if_pos (reachedAt_of_due hfiring hdue)

theorem fired_periodic {r : SlotRecord} (h : r.mode = .periodic) (now : Nat) :
    (r.remaining = none → r.fired now = some (r.reloaded now))
      ∧ (r.remaining = some 1 → r.fired now = none)
      ∧ ∀ k, r.remaining = some (k + 2) → r.fired now = some ({ r with remaining := some (k + 1) }.reloaded now) := by
  unfold SlotRecord.fired
  rw [h]
  dsimp only
  refine ⟨fun hr => ?_, fun hr => ?_, fun k hr => ?_⟩ <;> rw [hr] <;> rfl

theorem reloaded_of_none {r : SlotRecord} (h : r.nextPeriod = none) (now : Nat) :
    r.reloaded now = { r with nextFiring := some ⟨now + r.period * 1000, r.period * 1000⟩ } := by
  unfold SlotRecord.reloaded
  rw [h]

theorem reloaded_of_some {r : SlotRecord} {p : Nat} (h : r.nextPeriod = some p) (now : Nat) :
    r.reloaded now = { r with period := p, nextPeriod := none, nextFiring := some ⟨now + p * 1000, p * 1000⟩ } := by
  unfold SlotRecord.reloaded
  rw [h]

theorem asked_of_fire {p : InternalPrompt} {s x w : State} (hseq : x.seq = s.seq) (hstore : x.store = s.store)
    (hpanel : x.panel = s.panel) (hlink : x.link = s.link) (hw : w.seq = (fire p x).seq) (hwpanel : w.panel = (fire p x).panel)
    (hwlink : w.link = (fire p x).link) : Asked p [] s x w := by
  obtain ⟨hfseq, hfpanel, hflink, -⟩ := fire_fields p x
  exact
    { queue := hseq
      store := hstore
      repeats := by rw [hpanel]
      reports := by rw [hlink]; exact ⟨rfl, rfl⟩
      seq := hw.trans hfseq
      list := by rw [hwpanel, hfpanel]
      told := fun _ _ => by rw [hwlink, hflink, List.append_nil] }

/-- Settles O52: the prompt is asked for, and the record goes on by its mode. -/
theorem slotFiringGoesOnByMode : Obligations.SlotFiringGoesOnByMode := by
  intro t n s r tm hawake hn hr hfiring hdue
  have hfires := slotFires_of_due (s := s.arrive t) hn hr hfiring hdue
  obtain ⟨hseq, hpanel, hlink, hfloor, hhall, hnow, hrem⟩ := fire_fields (slotPrompt n r) (s.arrive t)
  have hasked : Asked (slotPrompt n r) [] s (s.arrive t) (setSlot n (r.fired (s.instant t)) (fire (slotPrompt n r) (s.arrive t))) :=
    asked_of_fire rfl rfl rfl rfl rfl rfl rfl
  have hslots : (setSlot n (r.fired (s.instant t)) (fire (slotPrompt n r) (s.arrive t))).rem =
      { s.rem with slots := s.rem.slots.set n (r.fired (s.instant t)) } := by
    show ({ (fire (slotPrompt n r) (s.arrive t)).rem with slots := _ } : ReminderUnit) = _
    rw [hrem]
    rfl
  have happ : (setSlot n (r.fired (s.instant t)) (fire (slotPrompt n r) (s.arrive t))).apart =
      { s.apart with rem := { s.rem with slots := s.rem.slots.set n (r.fired (s.instant t)) } } := by
    unfold setSlot
    rw [State.onRem_apart, fire_apart, hrem]
    rfl
  obtain ⟨rs, hrs⟩ := internalPrompt_panel (slotPrompt n r) (s.arrive t)
  generalize hw : setSlot n (r.fired (s.instant t)) (fire (slotPrompt n r) (s.arrive t)) = w at *
  have hwlink : w.link = (internalPrompt (slotPrompt n r) (s.arrive t)).link := by
    rw [← hw]
    exact hlink
  have hget : (conclude w).rem.slots.get n = r.fired (s.instant t) := by
    rw [conclude_rem, hslots]
    exact Four.get_set_same hn _
  obtain ⟨hsettings, hframer⟩ := settings_framer_conclude (s := s) (w := w) (by rw [happ])
  refine ⟨_, (concluding_of_awake hawake t (slotFires n)).trans (by rw [hfires, ← hw]; rfl), fun hmode => hget.trans ?_,
    fun hmode hleft => hget.trans ((fired_periodic hmode _).2.1 hleft), fun k hmode hleft hnext => hget.trans ?_,
    fun k p hmode hleft hnext => hget.trans ?_, fun hmode hleft hnext => hget.trans ?_, fun p hmode hleft hnext => hget.trans ?_,
    fun hmode => hget.trans ?_, fun m hm hne => ?_, fun hknown hroom hfree => ?_, fun e he hknown => ?_,
    hasked.droppedOrRoomMade, estimateKept_conclude (by rw [hslots]; exact ⟨rfl, rfl, rfl⟩), lineKept_conclude (by rw [happ]),
    conclude_viewKept ?_, sessionKept_conclude (rs := rs) ?_, hsettings, hframer, storeKept_conclude (by rw [happ]),
    levelKept_conclude (by rw [happ]), speakerKept_conclude (by rw [happ]), statusLineKept_conclude (by rw [happ])⟩
  · unfold SlotRecord.fired
    rw [hmode]
  · rw [(fired_periodic hmode _).2.2 k hleft]
    exact congrArg some (reloaded_of_none (r := { r with remaining := some (k + 1) }) hnext _)
  · rw [(fired_periodic hmode _).2.2 k hleft]
    exact congrArg some (reloaded_of_some (r := { r with remaining := some (k + 1) }) hnext _)
  · rw [(fired_periodic hmode _).1 hleft]
    exact congrArg some (reloaded_of_none hnext _)
  · rw [(fired_periodic hmode _).1 hleft]
    exact congrArg some (reloaded_of_some hnext _)
  · unfold SlotRecord.fired
    rw [hmode]
  · rw [conclude_rem, hslots]
    exact Four.get_set_other hn hm hne _
  · obtain ⟨m, e', he', htaken⟩ := hasked.made hknown hroom hfree
    refine ⟨e', he', ?_⟩
    cases htaken <;> exact ⟨rfl, rfl, rfl, rfl, rfl, rfl⟩
  · refine ⟨(hasked.merged hknown he).1, conclude_reportsKept ?_⟩
    unfold ReportsKept
    rw [hwlink, internalPrompt_merged (p := slotPrompt n r) (s := s.arrive t) hknown he]
    exact ⟨rfl, rfl, rfl⟩
  · rw [← hw]
    exact congrArg FloorUnit.view hfloor
  · rw [← hw]
    exact hpanel.trans hrs

end Sys2Proof.Machine
end

section
/-! The estimate and its marks (R145, R149 to R154): which mark fires, and what its prompt asks for. -/

namespace Sys2Proof.Machine
open Sys2Proof Host Safety

/-! The mark that fires: of those crossed, the one of the lowest value, among equal values of the lowest index. -/

/-- A numbered mark comes before another: a lower value, or the same value and no higher index. -/
def MarkFirst (a b : Nat × Mark) : Prop := a.2.value < b.2.value ∨ a.2.value = b.2.value ∧ a.1 ≤ b.1

theorem foldl_lowerMark {l : List (Nat × Mark)} {a x : Nat × Mark} (hsorted : (a :: l).Pairwise fun y z => y.1 < z.1)
    (hx : x ∈ a :: l) (hfirst : ∀ y ∈ a :: l, MarkFirst x y) : l.foldl lowerMark (some a) = some x := by
  induction l generalizing a with
  | nil => rw [List.mem_singleton.mp hx, List.foldl_nil]
  | cons b l ih =>
    obtain ⟨ha, hrest⟩ := List.pairwise_cons.mp hsorted
    obtain ⟨hb, hl⟩ := List.pairwise_cons.mp hrest
    have hab := ha b List.mem_cons_self
    have hxa := hfirst a List.mem_cons_self
    have hxb := hfirst b (List.mem_cons_of_mem _ List.mem_cons_self)
    rw [List.foldl_cons]
    unfold lowerMark
    dsimp only
    unfold MarkFirst at hxa hxb
    split
    next hlower =>
      refine ih hrest ((List.mem_cons.mp hx).resolve_left ?_) fun y hy => hfirst y (List.mem_cons_of_mem _ hy)
      rintro rfl
      omega
    next hnot =>
      have hxne : x ≠ b := by
        rintro rfl
        omega
      refine ih (List.pairwise_cons.mpr ⟨fun y hy => ha y (List.mem_cons_of_mem _ hy), hl⟩) ?_ fun y hy => hfirst y ?_
      · rcases List.mem_cons.mp hx with rfl | hx
        · exact List.mem_cons_self
        · exact List.mem_cons_of_mem _ ((List.mem_cons.mp hx).resolve_left hxne)
      · rcases List.mem_cons.mp hy with rfl | hy
        · exact List.mem_cons_self
        · exact List.mem_cons_of_mem _ (List.mem_cons_of_mem _ hy)

/-- The marks with their numbers, in order. -/
def numbered (marks : Four Mark) : List (Nat × Mark) := [(0, marks.a0), (1, marks.a1), (2, marks.a2), (3, marks.a3)]

theorem mem_numbered {marks : Four Mark} {x : Nat × Mark} : x ∈ numbered marks ↔ x.1 ≤ 3 ∧ x.2 = marks.get x.1 := by
  obtain ⟨n, m⟩ := x
  simp only [numbered, List.mem_cons, List.not_mem_nil, or_false, Prod.mk.injEq]
  constructor
  · rintro (⟨rfl, rfl⟩ | ⟨rfl, rfl⟩ | ⟨rfl, rfl⟩ | ⟨rfl, rfl⟩) <;> exact ⟨by decide, rfl⟩
  · rintro ⟨hn, rfl⟩
    interval_cases n <;> simp [Four.get]

theorem numbered_sorted (marks : Four Mark) : (numbered marks).Pairwise fun y z => y.1 < z.1 := by
  simp [numbered]

theorem crossed_iff {s : State} {new n : Nat} (hn : n ≤ 3) :
    (s.rem.marks.get n).crossed s.rem.estimate new = true ↔ MarkCrossed s new n := by
  simp [Mark.crossed, MarkCrossed, hn, and_assoc]

theorem firingMark_of_none {s : State} {new : Nat} (h : ∀ n, ¬ MarkCrossed s new n) :
    firingMark s.rem.marks s.rem.estimate new = none := by
  have hnone : (numbered s.rem.marks).filter (fun x => x.2.crossed s.rem.estimate new) = [] := by
    refine List.filter_eq_nil_iff.mpr fun x hx => ?_
    obtain ⟨hn, hmark⟩ := mem_numbered.mp hx
    rw [hmark]
    exact mt (crossed_iff hn).mp (h x.1)
  show Option.map Prod.fst (((numbered s.rem.marks).filter _).foldl lowerMark none) = none
  rw [hnone]
  rfl

theorem firingMark_of_fires {s : State} {new n : Nat} (h : MarkFires s new n) :
    firingMark s.rem.marks s.rem.estimate new = some n := by
  obtain ⟨hcrossed, hlowest⟩ := h
  have hn := hcrossed.1
  generalize hl : (numbered s.rem.marks).filter (fun x => x.2.crossed s.rem.estimate new) = l
  have hmem (x : Nat × Mark) : x ∈ l ↔ x.2 = s.rem.marks.get x.1 ∧ MarkCrossed s new x.1 := by
    rw [← hl, List.mem_filter, mem_numbered]
    constructor
    · rintro ⟨⟨hx, hmark⟩, hc⟩
      rw [hmark] at hc
      exact ⟨hmark, (crossed_iff hx).mp hc⟩
    · rintro ⟨hmark, hc⟩
      refine ⟨⟨hc.1, hmark⟩, ?_⟩
      rw [hmark]
      exact (crossed_iff hc.1).mpr hc
  have hx : (n, s.rem.marks.get n) ∈ l := (hmem _).mpr ⟨rfl, hcrossed⟩
  have hfirst : ∀ y ∈ l, MarkFirst (n, s.rem.marks.get n) y := by
    intro y hy
    obtain ⟨hmark, hc⟩ := (hmem y).mp hy
    unfold MarkFirst
    rw [hmark]
    exact hlowest y.1 hc
  have hsorted : l.Pairwise fun y z => y.1 < z.1 := by
    rw [← hl]
    exact (numbered_sorted _).filter _
  show Option.map Prod.fst (((numbered s.rem.marks).filter _).foldl lowerMark none) = some n
  rw [hl]
  cases l with
  | nil => exact absurd hx List.not_mem_nil
  | cons a l =>
    rw [List.foldl_cons, show lowerMark none a = some a from rfl, foldl_lowerMark hsorted hx hfirst]
    rfl

/-! The crossing of the marks. -/

/-- The marks with those crossed spent. -/
def spentMarks (old new : Nat) (s : State) : State :=
  s.onRem fun u => { u with marks := u.marks.map (Mark.spendIfCrossed old new) }

theorem crossMarks_of_none {s : State} {old new : Nat} (h : firingMark s.rem.marks old new = none) :
    crossMarks old new s = spentMarks old new s := by
  unfold crossMarks
  rw [h]
  rfl

theorem crossMarks_of_some {s : State} {old new n : Nat} (h : firingMark s.rem.marks old new = some n) :
    crossMarks old new s = fire (s.markPrompt n new) (spentMarks old new s) := by
  unfold crossMarks
  rw [h]
  rfl

theorem Four.get_map {α β : Type} (g : α → β) (f : Four α) (n : Nat) : (f.map g).get n = g (f.get n) := by
  unfold Four.get
  split <;> rfl

theorem spendIfCrossed_eq (old new : Nat) (m : Mark) :
    m.spendIfCrossed old new = ⟨m.value, if m.state = .armed ∧ m.value ≤ old ∧ new < m.value then .spent else m.state⟩ := by
  unfold Mark.spendIfCrossed Mark.crossed
  split
  next h => rw [if_pos (by simpa [and_assoc] using h)]
  next h => rw [if_neg (by simpa [and_assoc] using h)]

theorem crossMarks_apart (old new : Nat) (s : State) : (crossMarks old new s).apart = (spentMarks old new s).apart := by
  unfold crossMarks
  dsimp only
  split
  · rw [fire_apart]
    rfl
  · rfl

theorem crossMarks_fields (old new : Nat) (s : State) :
    (crossMarks old new s).floor = s.floor ∧ (crossMarks old new s).now = s.now
      ∧ (∃ rs, (crossMarks old new s).panel = { s.panel with repeats := rs }) := by
  unfold crossMarks
  dsimp only
  split
  next n hn =>
    obtain ⟨-, hpanel, -, hfloor, -, hnow, -⟩ := fire_fields (s.markPrompt n new) (spentMarks old new s)
    obtain ⟨rs, hrs⟩ := internalPrompt_panel (s.markPrompt n new) (spentMarks old new s)
    exact ⟨hfloor, hnow, rs, hpanel.trans hrs⟩
  next => exact ⟨rfl, rfl, s.panel.repeats, rfl⟩

/-! The mode that an activity has set stands. -/

theorem startAudible_mode {s : State} (h : s.power.mode = .active) (tag : Nat) (route : Route) (script : Script) :
    (startAudible tag route script s).power.mode = .active := by
  unfold startAudible
  split
  · exact h
  · dsimp only
    have hmode (st : State) (hst : st.power.mode = .active) : (activity st).power.mode = .active :=
      activity_mode (by rw [hst]; nofun)
    split
    · unfold beginWarmUp
      dsimp only
      split <;> exact (congrArg Power.mode (postText_power ..)).trans (hmode _ h)
    · rw [beginOutput_power, postText_power]
      exact hmode _ h

theorem startSilent_mode {s : State} (h : s.power.mode = .active) (tag : Nat) (script : Script) :
    (startSilent tag script s).power.mode = .active := by
  unfold startSilent
  split
  · exact h
  · dsimp only
    rw [changeService_power, postText_power]
    exact activity_mode (by
      rw [changeEntry_power, h]
      nofun)

theorem takeEntry_mode {s : State} (h : s.power.mode = .active) (e : Entry) : (takeEntry e s).power.mode = .active := by
  have hfill (kind : Kind) (c : Composed) : (fillSlot e.tag kind c s).power.mode = .active := h
  unfold takeEntry
  dsimp only
  split
  · exact startSilent_mode (hfill _ _) _ _
  · split
    · rw [(requestClaim_power_link ..).1]
      exact h
    · exact startAudible_mode (hfill _ _) _ _ _

theorem conclude_mode_active {s : State} (h : s.power.mode = .active) : (conclude s).power.mode = .active := by
  rw [(besideHolds_power (conclude_besideHolds (by rw [h]; nofun))).1]
  have hr : (startWaitingRecovery s).power.mode = .active := by rw [startWaitingRecovery_power, h]
  generalize startWaitingRecovery s = r at hr
  unfold select
  split
  · exact hr
  · dsimp only
    split
    · exact takeEntry_mode (s := r.onSeq fun q => { q with askedAt := r.now }) hr _
    · exact hr

/-! The prompt of a mark that fires. -/

/-- A mark's prompt asked for on `x`, and what has followed it, where `w` has the queue, panel and reports that it left. -/
theorem markPromptAsked_of_fire {s x w : State} {t n new : Nat} (hseq : x.seq = s.seq) (hstore : x.store = s.store)
    (hpanel : x.panel = s.panel) (hlink : x.link = s.link) (hnow : x.now = s.instant t)
    (hw : w.seq = (fire (s.markPrompt n new) x).seq) (hwpanel : w.panel = (fire (s.markPrompt n new) x).panel)
    (hwlink : w.link = (fire (s.markPrompt n new) x).link) (hmode : w.power.mode = .active) :
    MarkPromptAsked t n new s (conclude w) := by
  have hasked : Asked (s.markPrompt n new) [] s x w := asked_of_fire hseq hstore hpanel hlink hw hwpanel hwlink
  refine ⟨fun hknown hroom hfree => ?_, fun e he hknown => ?_, hasked.droppedOrRoomMade, conclude_mode_active hmode⟩
  · obtain ⟨m, e', he', htaken⟩ := hasked.made hknown hroom hfree
    have hentry : x.internalEntry (s.markPrompt n new) =
        { tag := 68 + n, origin := .mark, cls := .status, template := s.link.config.countdownTemplate, param1 := new, param2 := 0
          channels := ⟨true, true, true⟩, ackRequired := false, repeatsLeft := 0, repeatInterval := 5
          deadline := some ⟨s.instant t + 30000, 30000⟩, arrival := s.instant t, cutCount := 0, state := .queued, made := 0 } := by
      unfold State.internalEntry State.markPrompt
      dsimp only
      rw [hnow, ← hnow]
      rfl
    rw [hentry] at htaken
    refine ⟨e', he', ?_⟩
    cases htaken
    case same | claiming => exact ⟨rfl, rfl, rfl, rfl, rfl, rfl, rfl, rfl, fun _ => rfl⟩
    all_goals exact ⟨rfl, rfl, rfl, rfl, rfl, rfl, rfl, rfl, by simp⟩
  · obtain ⟨hqueue, e', he', htaken⟩ := hasked.merged hknown he
    have hsame : (internalPrompt (s.markPrompt n new) x).link = s.link := by
      rw [internalPrompt_merged ((hasked.known _).mpr hknown) ((hasked.entry _).trans he), hlink]
    refine ⟨hqueue, conclude_reportsKept ?_, e', he', ?_⟩
    · unfold ReportsKept
      rw [hwlink, (fire_fields _ x).2.2.1, hsame]
      exact ⟨rfl, rfl, rfl⟩
    · exact ⟨by cases htaken <;> rfl, by cases htaken <;> rfl, by cases htaken <;> rfl, htaken.deadline_waiting⟩

/-! The clauses that a change of the estimate leaves. -/

/-- What a change of the estimate leaves, where `w` has the blocks of `s` but for the reminders and the status line. -/
theorem estimateChange_kept {s w : State} {rem : ReminderUnit} {status : Option PhaseIds × List Byte × Bool × Nat × Bool}
    {rs : List RepeatItem} (happ : w.apart = { s.apart with rem := rem, status := status }) (hfloor : w.floor = s.floor)
    (hpanel : w.panel = { s.panel with repeats := rs }) :
    LineKept s (conclude w) ∧ ViewKept s (conclude w) ∧ SessionKept s (conclude w) ∧ SettingsKept s (conclude w)
      ∧ FramerKept s (conclude w) ∧ StoreKept s (conclude w) ∧ LevelKept s (conclude w) ∧ SpeakerKept s (conclude w) := by
  obtain ⟨hsettings, hframer⟩ := settings_framer_conclude (s := s) (w := w) (by rw [happ])
  exact ⟨lineKept_conclude (by rw [happ]), conclude_viewKept (congrArg FloorUnit.view hfloor), sessionKept_conclude hpanel,
    hsettings, hframer, storeKept_conclude (by rw [happ]), levelKept_conclude (by rw [happ]), speakerKept_conclude (by rw [happ])⟩

/-! ESTIMATE_DECREMENT (R150, R153). -/

theorem decrement_of_due {s : State} {tm : Timer} (hrunning : s.rem.running = true) (hphase : s.rem.secondPhase = some tm)
    (hdue : tm.due ≤ s.now) :
    decrement s =
      if s.rem.estimate = 0 then moveSecond s
      else
        moveSecond (postDecrement (crossMarks s.rem.estimate (s.rem.estimate - 1)
          (s.onRem fun u => { u with estimate := s.rem.estimate - 1 }))) := by
  unfold decrement
  rw [hphase]
  exact if_pos ⟨hrunning, Timer.reached_of_due hdue⟩

theorem fires_of_lowest {s : State} {n : Nat} (hn : n ≤ 3) (hpos : 1 ≤ s.rem.estimate)
    (harmed : (s.rem.marks.get n).state = .armed) (hvalue : (s.rem.marks.get n).value = s.rem.estimate)
    (hlow : ∀ m, m < n → (s.rem.marks.get m).state = .armed → (s.rem.marks.get m).value ≠ s.rem.estimate) :
    MarkFires s (s.rem.estimate - 1) n := by
  refine ⟨⟨hn, harmed, by omega, by omega⟩, fun m ⟨hm, harmed', hle, hlt⟩ => ?_⟩
  have heq : (s.rem.marks.get m).value = s.rem.estimate := by omega
  have hnm : n ≤ m := Nat.le_of_not_lt fun hmn => hlow m hmn harmed' heq
  exact .inr ⟨hvalue.trans heq.symm, hnm⟩

/-- What the crossing of the marks on `x` asks for, where `w` has the queue, panel, reports and power of that crossing. -/
theorem crossed_asked {s x w : State} {t old new : Nat} (hseq : x.seq = s.seq) (hstore : x.store = s.store)
    (hpanel : x.panel = s.panel) (hlink : x.link = s.link) (hnow : x.now = s.instant t) (hawake : x.power.mode ≠ .sleep)
    (hw : w.seq = (crossMarks old new x).seq) (hwpanel : w.panel = (crossMarks old new x).panel)
    (hwlink : w.link = (crossMarks old new x).link) (hwpower : w.power = (crossMarks old new x).power) :
    (firingMark x.rem.marks old new = none →
        QueueKept s (conclude w) ∧ ReportsKept s (conclude w) ∧ PanelKept s (conclude w))
      ∧ ∀ n, firingMark x.rem.marks old new = some n → MarkPromptAsked t n new s (conclude w) := by
  refine ⟨fun hnone => ?_, fun n hfires => ?_⟩
  · rw [crossMarks_of_none hnone] at hw hwpanel hwlink
    have hlink' : w.link = s.link := hwlink.trans hlink
    exact ⟨conclude_queueKept (queueKept_of_seq (hw.trans hseq)),
      conclude_reportsKept (by unfold ReportsKept; rw [hlink']; exact ⟨rfl, rfl, rfl⟩), panelKept_conclude (hwpanel.trans hpanel)⟩
  · have hprompt : x.markPrompt n new = s.markPrompt n new := by
      unfold State.markPrompt
      rw [hlink]
    rw [crossMarks_of_some hfires, hprompt] at hw hwpanel hwlink hwpower
    exact markPromptAsked_of_fire (x := spentMarks old new x) hseq hstore hpanel hlink hnow hw hwpanel hwlink (by
      rw [hwpower]
      exact fire_mode hawake)

/-- Of the marks of one value the estimate leaves, those armed and of that value are spent. -/
theorem spendIfCrossed_pred {m : Mark} {old : Nat} (hpos : 1 ≤ old) :
    m.spendIfCrossed old (old - 1) = ⟨m.value, if m.state = .armed ∧ m.value = old then .spent else m.state⟩ := by
  have hiff : m.state = .armed ∧ m.value ≤ old ∧ old - 1 < m.value ↔ m.state = .armed ∧ m.value = old :=
    and_congr_right fun _ => by omega
  rw [spendIfCrossed_eq, if_congr hiff rfl rfl]

/-- Settles O51: the estimate that has moved crosses the marks of its old value. -/
theorem estimateRunsDown : Obligations.EstimateRunsDown := by
  refine ⟨?_, ?_⟩
  · intro t s tm hawake hrunning hphase hdue hpos
    have hdec := decrement_of_due (s := s.arrive t) hrunning hphase hdue
    rw [if_neg (by show ¬ s.rem.estimate = 0; omega)] at hdec
    generalize hx : (s.arrive t).onRem (fun u => { u with estimate := (s.arrive t).rem.estimate - 1 }) = x at hdec
    generalize hc : crossMarks (s.arrive t).rem.estimate ((s.arrive t).rem.estimate - 1) x = c at hdec
    have hcapart := crossMarks_apart (s.arrive t).rem.estimate ((s.arrive t).rem.estimate - 1) x
    obtain ⟨hcfloor, hcnow, rs, hcpanel⟩ := crossMarks_fields (s.arrive t).rem.estimate ((s.arrive t).rem.estimate - 1) x
    have hasked := crossed_asked (s := s) (t := t) (x := x) (w := moveSecond (postDecrement c)) (old := s.rem.estimate)
      (new := s.rem.estimate - 1) (by rw [← hx]; rfl) (by rw [← hx]; rfl) (by rw [← hx]; rfl) (by rw [← hx]; rfl)
      (by rw [← hx]; rfl) (by rw [← hx]; exact hawake) (by rw [← hc]; rfl) (by rw [← hc]; rfl) (by rw [← hc]; rfl)
      (by rw [← hc]; rfl)
    rw [hc] at hcapart hcfloor hcnow hcpanel
    have hcrem : c.rem =
        { s.rem with
          estimate := s.rem.estimate - 1
          marks := s.rem.marks.map (Mark.spendIfCrossed s.rem.estimate (s.rem.estimate - 1)) } := by
      rw [show c.rem = c.apart.rem from rfl, hcapart, ← hx]
      rfl
    have hcstatus : c.apart.status = s.apart.status := by
      rw [hcapart, ← hx]
      rfl
    have happ : (moveSecond (postDecrement c)).apart =
        { s.apart with
          rem := { c.rem with secondPhase := some ⟨s.instant t + 1000, 1000⟩ }
          status := (s.display.phase, s.display.phaseText, s.display.timeShown, (s.rem.estimate - 1 + 59) / 60,
            s.display.paused) } := by
      simp only [State.apart, Display.statusLine, Prod.mk.injEq] at hcstatus
      obtain ⟨hph, htext, hshown, -, hpaused⟩ := hcstatus
      have hblocks : (moveSecond (postDecrement c)).apart =
          { c.apart with
            rem := { c.rem with secondPhase := some (c.after Config.second) }
            status := (c.display.phase, c.display.phaseText, c.display.timeShown, startedMinutes c.rem.estimate,
              c.display.paused) } := rfl
      rw [hblocks, hcapart, hph, htext, hshown, hpaused, hcrem, ← hx, State.after, hcnow, ← hx]
      rfl
    have hfloor : (moveSecond (postDecrement c)).floor = s.floor := hcfloor.trans (by rw [← hx]; rfl)
    have hpanel : (moveSecond (postDecrement c)).panel = { s.panel with repeats := rs } := hcpanel.trans (by rw [← hx]; rfl)
    have hmarks : x.rem.marks = s.rem.marks := by
      rw [← hx]
      rfl
    rw [hmarks] at hasked
    generalize moveSecond (postDecrement c) = w at *
    obtain ⟨hnone, hfires⟩ := hasked
    have hrem := (conclude_rem w).trans (congrArg Apart.rem happ)
    have hstatus := congrArg Apart.status ((conclude_apart w).trans happ)
    dsimp only at hrem hstatus
    rw [hcrem] at hrem
    refine ⟨_, (concluding_of_awake hawake t decrement).trans (by rw [hdec]), by rw [hrem], by rw [hrem]; exact hrunning,
      by rw [hrem], by rw [hrem], fun n => ?_, congrArg (fun x => x.2.2.2.1) hstatus, congrArg (fun x => x.2.2.1) hstatus,
      fun hnot => hnone (firingMark_of_none fun n hcross => ?_), fun n hn harmed hvalue hlow => ?_,
      estimateChange_kept happ hfloor hpanel⟩
    · rw [hrem]
      exact (Four.get_map _ _ _).trans (spendIfCrossed_pred hpos)
    · obtain ⟨-, harmed, hle, hlt⟩ := hcross
      exact hnot n harmed (by omega)
    · exact hfires n (firingMark_of_fires (fires_of_lowest hn hpos harmed hvalue hlow))
  · intro t s tm hawake hrunning hphase hdue hzero
    have hdec := decrement_of_due (s := s.arrive t) hrunning hphase hdue
    rw [if_pos (by exact hzero)] at hdec
    have happ : (moveSecond (s.arrive t)).apart = { s.apart with rem := { s.rem with secondPhase := some ⟨s.instant t + 1000, 1000⟩ } } :=
      rfl
    obtain ⟨hsettings, -⟩ := settings_framer_conclude (s := s) (w := moveSecond (s.arrive t)) (by rw [happ])
    exact ⟨_, (concluding_of_awake hawake t decrement).trans (by rw [hdec]), (conclude_rem _).trans rfl,
      statusLineKept_conclude (s := s) (w := moveSecond (s.arrive t)) rfl,
      conclude_queueKept (w := moveSecond (s.arrive t)) (queueKept_of_seq rfl), conclude_reportsKept ⟨rfl, rfl, rfl⟩,
      panelKept_conclude rfl, lineKept_conclude (by rw [happ]), conclude_viewKept rfl, hsettings⟩

end Sys2Proof.Machine
end

section
/-! PROGRESS (R149, R152 to R154): the estimate set, its marks crossed and armed again, and the time field. -/

namespace Sys2Proof.Machine
open Sys2Proof Host Safety

theorem progressFields_of_le {p : List Byte} (h : at1 p 2 ≤ 1) :
    progressFields p = some (min 43200 (at2 p 0), decide (at1 p 2 = 1)) := by
  unfold progressFields
  by_cases hone : at1 p 2 = 1
  · simp [hone, Config.paramLimit]
  · have hzero : at1 p 2 = 0 := by omega
    simp [hzero, Config.paramLimit]

theorem exec_progress {s : State} (t : Nat) {p : List Byte} (hready : CueReady s) (hlen : p.length = 3) (hrun : at1 p 2 ≤ 1) :
    ∃ pw d, StirredFrom (s.arrive t) pw d
      ∧ exec (.progress t p) s =
          .next (conclude (progressTaken (min 43200 (at2 p 0)) (decide (at1 p 2 = 1)) ((s.arrive t).stirred pw d))) := by
  have hcueLength : cueLength 0x04#8 = some p.length := by
    rw [hlen]
    rfl
  have hhandle (down : Keys Bool) (st : State) : handleCue down 0x04#8 p st =
      .taken (progressTaken (min 43200 (at2 p 0)) (decide (at1 p 2 = 1)) st) := by
    show withFields (progressFields p) (fun c => Handled.taken (progressTaken c.1 c.2 st)) = _
    rw [progressFields_of_le hrun]
    unfold withFields
    dsimp only
  obtain ⟨pw, d, hstirred, hhear⟩ := hearCue_handled (t := t) (down := s.keysDown) hready (by omega) hcueLength (hhandle _)
  rw [lockFor_of_none (by decide)] at hhear
  exact ⟨pw, d, hstirred, hhear⟩

/-- A mark crossed is spent; one spent is armed again 30 above it. -/
theorem spendIfCrossed_rearmed (old new : Nat) (m : Mark) :
    (m.spendIfCrossed old new).rearm new =
      ⟨m.value,
        if m.state = .armed ∧ m.value ≤ old ∧ new < m.value then .spent
        else if m.state = .spent ∧ m.value + 30 ≤ new then .armed
        else m.state⟩ := by
  rw [spendIfCrossed_eq]
  unfold Mark.rearm
  dsimp only [Config.markHysteresis]
  by_cases hcrossed : m.state = .armed ∧ m.value ≤ old ∧ new < m.value
  · have hlow : ¬ m.value + 30 ≤ new := by omega
    simp only [if_pos hcrossed, hlow, and_false, if_false]
  · simp only [if_neg hcrossed]
    split <;> rfl

/-- Settles O22: the change of the estimate crosses marks of the stirred state. -/
theorem progressSetsTheEstimate : Obligations.ProgressSetsTheEstimate := by
  intro t p s hready hlen hrun
  obtain ⟨pw, d, hstirred, hexec⟩ := exec_progress t hready hlen hrun
  refine ⟨_, hexec, ?_⟩
  clear hexec
  generalize min 43200 (at2 p 0) = new at *
  have hxapart := hstirred.apart
  generalize hx : (s.arrive t).stirred pw d = x at *
  generalize hc : crossMarks x.rem.estimate new x = c
  have hold : x.rem.estimate = s.rem.estimate := by
    rw [← hx]
    rfl
  have hmarks : x.rem.marks = s.rem.marks := by
    rw [← hx]
    rfl
  have hawake : x.power.mode ≠ .sleep := by
    rw [← hx]
    show pw.mode ≠ .sleep
    rw [hstirred.mode]
    nofun
  have hcapart := crossMarks_apart x.rem.estimate new x
  obtain ⟨hcfloor, -, rs, hcpanel⟩ := crossMarks_fields x.rem.estimate new x
  have hasked := crossed_asked (s := s) (t := t) (x := x) (w := progressTaken new (decide (at1 p 2 = 1)) x)
    (old := x.rem.estimate) (new := new) (by rw [← hx]; rfl) (by rw [← hx]; rfl) (by rw [← hx]; rfl) (by rw [← hx]; rfl)
    (by rw [← hx]; rfl) hawake rfl rfl rfl rfl
  rw [hc] at hcapart hcfloor hcpanel
  rw [hmarks, hold] at hasked
  have hcrem : c.rem = { x.rem with marks := s.rem.marks.map (Mark.spendIfCrossed s.rem.estimate new) } := by
    rw [show c.rem = c.apart.rem from rfl, hcapart, hold, ← hmarks]
    rfl
  have happ : (progressTaken new (decide (at1 p 2 = 1)) x).apart =
      { s.apart with
        rem := { c.rem with
          estimate := new
          running := decide (at1 p 2 = 1)
          marks := c.rem.marks.map (Mark.rearm new)
          secondPhase := if decide (at1 p 2 = 1) = true then some (x.after Config.second) else none }
        status := (c.display.phase, c.display.phaseText, true, startedMinutes new, !decide (at1 p 2 = 1)) } := by
    have hblocks : (progressTaken new (decide (at1 p 2 = 1)) x).apart =
        { (crossMarks x.rem.estimate new x).apart with
          rem := (progressTaken new (decide (at1 p 2 = 1)) x).rem
          status := (progressTaken new (decide (at1 p 2 = 1)) x).display.statusLine } := rfl
    have hrem : (spentMarks x.rem.estimate new x).apart = { x.apart with rem := (spentMarks x.rem.estimate new x).rem } := rfl
    rw [hblocks, crossMarks_apart, hrem, hxapart, ← hc]
    rfl
  have hfloor : (progressTaken new (decide (at1 p 2 = 1)) x).floor = s.floor := by
    refine Eq.trans ?_ (hcfloor.trans (by rw [← hx]; rfl))
    rw [← hc]
    rfl
  have hpanel : (progressTaken new (decide (at1 p 2 = 1)) x).panel = { s.panel with repeats := rs } := by
    refine Eq.trans ?_ (hcpanel.trans (by rw [← hx]; rfl))
    rw [← hc]
    rfl
  generalize progressTaken new (decide (at1 p 2 = 1)) x = w at *
  obtain ⟨hnone, hfires⟩ := hasked
  have hrem := (conclude_rem w).trans (congrArg Apart.rem happ)
  have hstatus := congrArg Apart.status ((conclude_apart w).trans happ)
  dsimp only at hrem hstatus
  rw [hcrem] at hrem
  refine ⟨by rw [hrem], by rw [hrem], ?_, fun n => ?_, fun hnot => hnone (firingMark_of_none hnot),
    fun n hn => hfires n (firingMark_of_fires hn), congrArg (fun x => x.2.2.1) hstatus, ?_, ?_,
    estimateChange_kept happ hfloor hpanel⟩
  · rw [hrem]
    simp only [decide_eq_true_eq, State.after, ← hx]
    rfl
  · rw [hrem]
    exact (Four.get_map _ _ _).trans ((congrArg (Mark.rearm new) (Four.get_map _ _ _)).trans (spendIfCrossed_rearmed _ _ _))
  · rw [hrem]
    exact congrArg (fun x => x.2.2.2.1) hstatus
  · rw [hrem]
    exact congrArg (fun x => x.2.2.2.2) hstatus

end Sys2Proof.Machine
end

section
/-! The tone unit under what a press may do (R127, R134): a click stands until a chime takes the piezo. -/

namespace Sys2Proof.Machine
open Sys2Proof Host Safety

/-- The click stands, and no chime has taken the piezo; one that holds it may have stopped. -/
def ClickStands (s w : State) : Prop := w.tone.click = s.tone.click ∧ (w.piezoHeld = true → s.piezoHeld = true)

/-- A chime has taken the piezo, and the click with it. -/
def ClickTaken (w : State) : Prop := w.tone.click = .idle ∧ w.piezoHeld = true

theorem clickStands_of_tone {s w : State} (h : w.tone = s.tone) : ClickStands s w := by
  unfold ClickStands State.piezoHeld
  rw [h]
  exact ⟨rfl, id⟩

theorem clickTaken_of_tone {w u : State} (h : u.tone = w.tone) (hw : ClickTaken w) : ClickTaken u := by
  unfold ClickTaken State.piezoHeld at hw ⊢
  rw [h]
  exact hw

theorem ClickStands.trans {s w u : State} (h : ClickStands s w) (h' : ClickStands w u) : ClickStands s u :=
  ⟨h'.1.trans h.1, fun hu => h.2 (h'.2 hu)⟩

theorem clickStands_of_chime {s w : State} (hclick : w.tone.click = s.tone.click) (hchime : ∀ c, w.tone.chime ≠ .playing c) :
    ClickStands s w := by
  refine ⟨hclick, fun hheld => ?_⟩
  unfold State.piezoHeld at hheld
  split at hheld
  next c hc => exact absurd hc (hchime c)
  next => nomatch hheld

/-! What leaves the tone unit as it is. -/

@[simp] theorem activity_tone (s : State) : (activity s).tone = s.tone := by
  have hmode : (setMode .active s).tone = s.tone := by
    unfold setMode
    split <;> rfl
  unfold activity
  split
  · rfl
  · exact hmode

@[simp] theorem postText_tone (text : Option (List Byte)) (cls : Cls) (s : State) : (postText text cls s).tone = s.tone := by
  unfold postText
  split <;> rfl

@[simp] theorem handFrame_tone (f : TxFrame) (s : State) : (handFrame f s).tone = s.tone := by
  unfold handFrame
  split <;> rfl

@[simp] theorem requestClaim_tone (cls : Cls) (arrival length : Nat) (s : State) :
    (requestClaim cls arrival length s).tone = s.tone := by
  unfold requestClaim
  dsimp only
  split
  · rfl
  · exact handFrame_tone ..

@[simp] theorem reportDone_tone (origin : Origin) (tag : Nat) (outcome : DoneOutcome) (s : State) :
    (reportDone origin tag outcome s).tone = s.tone := by
  unfold reportDone
  split <;> rfl

@[simp] theorem leaveWith_tone (e : Entry) (outcome : DoneOutcome) (s : State) : (leaveWith e outcome s).tone = s.tone :=
  reportDone_tone ..

theorem withdraw_tone (s : State) : (withdraw s).tone = s.tone := by
  by_cases hstate : s.floor.own.state = .claiming
  · have hcases := withdraw_cases hstate
    generalize withdraw s = w at hcases
    cases hcases with
    | claim => exact handFrame_tone ..
    | _ => rfl
  · rw [withdraw_of_other hstate]

@[simp] theorem emptySlot_tone (s : State) : (emptySlot s).tone = { s.tone with chime := .idle } := rfl

theorem startItem_tone (items : List ScriptItem) (i : Nat) (s : State) : (startItem items i s).tone = s.tone := by
  unfold startItem
  split <;> rfl

theorem startWaitingRecovery_tone (s : State) : (startWaitingRecovery s).tone = s.tone := by
  obtain ⟨x, l, h, -⟩ := startWaitingRecovery_onHall s
  rw [h]
  rfl

/-! A service that starts. -/

theorem playChime_click (c : Chime) (s : State) : ClickStands s (playChime c s) ∨ ClickTaken (playChime c s) := by
  have htone : (playChime c s).tone =
      ⟨.playing { c with step := 0, start := s.now, stepStart := s.now }, if c.device = .piezo then .idle else s.tone.click⟩ := rfl
  unfold ClickStands ClickTaken State.piezoHeld
  rw [htone]
  by_cases hpiezo : c.device = .piezo
  · exact .inr ⟨if_pos hpiezo, decide_eq_true hpiezo⟩
  · exact .inl ⟨if_neg hpiezo, fun h => absurd (of_decide_eq_true h) hpiezo⟩

theorem beginOutput_click (e : Entry) (route : Route) (script : Script) (r : LevelResult) (s : State) :
    ClickStands s (beginOutput e route script r s) ∨ ClickTaken (beginOutput e route script r s) := by
  have hlevel : ClickStands s (changeService (fun v => { v with pendingLevel := none }) (applyLevel r s)) :=
    clickStands_of_tone (applyLevel_rest r s).2.2.1
  unfold beginOutput
  dsimp only
  split
  · exact (playChime_click _ _).imp_left hlevel.trans
  · exact .inl (hlevel.trans (clickStands_of_tone (startItem_tone ..)))

theorem beginWarmUp_click (e : Entry) (route : Route) (script : Script) (r : LevelResult) (s : State) :
    ClickStands s (beginWarmUp e route script r s) := by
  unfold beginWarmUp
  dsimp only
  split
  · exact clickStands_of_chime rfl nofun
  · exact clickStands_of_tone rfl

theorem startAudible_click (tag : Nat) (route : Route) (script : Script) (s : State) :
    ClickStands s (startAudible tag route script s) ∨ ClickTaken (startAudible tag route script s) := by
  unfold startAudible
  split
  · exact .inl (clickStands_of_tone rfl)
  · dsimp only
    have hposted (text : Option (List Byte)) (cls : Cls) (f : Entry → Entry) :
        ClickStands s (postText text cls (activity (changeEntry tag f s))) :=
      clickStands_of_tone ((postText_tone ..).trans (activity_tone _))
    split
    · exact .inl ((hposted _ _ _).trans (beginWarmUp_click ..))
    · exact (beginOutput_click ..).imp_left (hposted _ _ _).trans

theorem startSilent_tone (tag : Nat) (script : Script) (s : State) : (startSilent tag script s).tone = s.tone := by
  unfold startSilent
  split
  · rfl
  · exact (postText_tone ..).trans (activity_tone _)

theorem takeEntry_click (e : Entry) (s : State) : ClickStands s (takeEntry e s) ∨ ClickTaken (takeEntry e s) := by
  have hfilled (kind : Kind) (c : Composed) : ClickStands s (fillSlot e.tag kind c s) := clickStands_of_tone rfl
  unfold takeEntry
  dsimp only
  split
  · exact .inl ((hfilled _ _).trans (clickStands_of_tone (startSilent_tone ..)))
  · split
    · exact .inl (clickStands_of_tone (s := s) ((requestClaim_tone ..).trans rfl))
    · exact (startAudible_click ..).imp_left (hfilled _ _).trans

theorem select_click (s : State) : ClickStands s (select s) ∨ ClickTaken (select s) := by
  have hasking : ClickStands s s.asking := clickStands_of_tone rfl
  unfold select
  split
  · exact .inl (clickStands_of_tone rfl)
  · dsimp only
    split
    next e _ => exact (takeEntry_click e s.asking).imp_left hasking.trans
    next => exact .inl hasking

theorem conclude_click (s : State) : ClickStands s (conclude s) ∨ ClickTaken (conclude s) := by
  by_cases hawake : s.power.mode = .sleep
  · have hsame : conclude s = s := by
      unfold conclude
      exact if_neg (by simp [State.awake, hawake])
    exact .inl (clickStands_of_tone (by rw [hsame]))
  · have htone : (conclude s).tone = (select (startWaitingRecovery s)).tone :=
      (besideHolds_fields (conclude_besideHolds hawake)).2.2.2.2.1
    have hrecovery := clickStands_of_tone (startWaitingRecovery_tone s)
    exact (select_click (startWaitingRecovery s)).imp (fun h => (hrecovery.trans h).trans (clickStands_of_tone htone))
      (clickTaken_of_tone htone)

/-- With nothing to select the tone unit stands. -/
theorem conclude_tone_of_nothing {s : State} (hawake : s.power.mode ≠ .sleep) (h : NothingToSelect s) :
    (conclude s).tone = s.tone := by
  by_cases hslot : s.seq.slot.isSome = true
  · refine (besideHolds_fields (conclude_besideHolds hawake)).2.2.2.2.1.trans ?_
    rw [select_of_slot (by rw [startWaitingRecovery_seq]; exact hslot), startWaitingRecovery_tone]
  · exact (conclude_of_empty_fields hawake (Option.not_isSome_iff_eq_none.mp hslot) (h.resolve_left hslot)).2.1

end Sys2Proof.Machine
end

section
/-! A key press taken (R169, R170): the activity, the click at the session volume that stands then, the key's action, and the
key's state and debounce. -/

namespace Sys2Proof.Machine
open Sys2Proof Host Safety

/-! The session volume after a press. -/

/-- The session volume that a press of the key leaves (R170). -/
def Panel.pressedVolume (p : Panel) (k : Key) : Nat :=
  match k with
  | .vdn => if p.inSession then p.volume - 1 else p.volume
  | .vup => if p.inSession then min 7 (p.volume + 1) else p.volume
  | _ => p.volume

theorem stepVolume_eq (up : Bool) (s : State) :
    stepVolume up s = s.onPanel fun p => { p with volume := p.pressedVolume (if up then .vup else .vdn) } := by
  have hvolume : s.panel.pressedVolume (if up then .vup else .vdn) =
      if s.panel.inSession then (if up then min 7 (s.panel.volume + 1) else s.panel.volume - 1) else s.panel.volume := by
    cases up <;> rfl
  show _ = { s with panel := { s.panel with volume := s.panel.pressedVolume (if up then .vup else .vdn) } }
  unfold stepVolume
  rw [hvolume]
  split <;> rfl

theorem clickVolume_eq (k : Key) (s : State) : s.clickVolume k = s.panel.pressedVolume k := by
  cases k with
  | vdn => exact congrArg (fun w => w.panel.volume) (stepVolume_eq false s)
  | vup => exact congrArg (fun w => w.panel.volume) (stepVolume_eq true s)
  | _ => rfl

/-! The state on which the key acts. -/

theorem pressActivity_cases {s : State} (hawake : s.power.mode ≠ .sleep) :
    ∃ p d, pressActivity s = s.stirred p d ∧ StirredFrom s p d := by
  obtain ⟨p, d, hactive, hmode, hlasting, hstatus⟩ := activity_cases hawake
  unfold pressActivity
  rw [hactive]
  exact ⟨{ p with announcing := false }, d, rfl, hmode, hlasting, hstatus⟩

/-- The click voice once a press has asked for its click: unchanged at volume 0 and while a chime holds the piezo. -/
def State.clickAt (s : State) (vs : Nat) : ClickVoice :=
  if vs = 0 ∨ s.piezoHeld = true then s.tone.click else .playing (clickDuty vs) (s.after Config.click)

theorem askClick_eq (vs : Nat) (s : State) : askClick vs s = s.onTone fun u => { u with click := s.clickAt vs } := by
  unfold askClick State.clickAt
  split <;> rfl

/-- The state on which a press acts: its activity counted, its click asked for. -/
def State.clicked (s : State) (k : Key) (p : Power) (d : Display) : State :=
  (s.stirred p d).onTone fun u => { u with click := s.clickAt (s.panel.pressedVolume k) }

theorem exec_keyPress {s : State} (t : Nat) {k : Key} (hawake : s.power.mode ≠ .sleep) :
    exec (.keyPress t k) s = .next (conclude (pressKey k (s.arrive t))) := by
  have hwoken : wokenFor t k s = s := by
    unfold wokenFor
    exact if_pos (by simpa [State.awake] using hawake)
  show Outcome.next (conclude (pressKey k ((wokenFor t k s).arrive t))) = _
  rw [hwoken]

theorem exec_keyPress_taken {s : State} (t : Nat) {k : Key} (hawake : s.power.mode ≠ .sleep) (hup : s.panel.keys.get k = .up)
    (hdue : DueAt s t (s.panel.inputs.get k).debounce.due) :
    ∃ p d, StirredFrom (s.arrive t) p d
      ∧ exec (.keyPress t k) s =
          .next (conclude (setInput k true (setKey k (.pressed ⟨s.instant t + 1500, 1500⟩)
            (pressAction k ((s.arrive t).clicked k p d))))) := by
  obtain ⟨p, d, hactivity, hstirred⟩ := pressActivity_cases (s := s.arrive t) hawake
  refine ⟨p, d, hstirred, (exec_keyPress t hawake).trans ?_⟩
  unfold pressKey
  rw [if_pos ⟨hup, Timer.reached_of_due hdue⟩, hactivity, askClick_eq, clickVolume_eq]
  rfl

theorem exec_keyPress_notTaken {s : State} (t : Nat) {k : Key} (hawake : s.power.mode ≠ .sleep)
    (h : s.panel.keys.get k ≠ .up
      ∨ s.instant t + Config.tolerance (s.panel.inputs.get k).debounce.len < (s.panel.inputs.get k).debounce.due) :
    exec (.keyPress t k) s = .next (conclude (s.arrive t)) := by
  rw [exec_keyPress t hawake]
  unfold pressKey
  rw [if_neg]
  rintro ⟨hup, hreached⟩
  have hdue : (s.panel.inputs.get k).debounce.due ≤ s.instant t + Config.tolerance (s.panel.inputs.get k).debounce.len :=
    of_decide_eq_true hreached
  exact h.elim (fun hnot => hnot hup) fun hlate => by omega

/-! What the key's action leaves. -/

/-- What a key's action leaves: of the panel all but the volume, the awaiting records and the repeat list. -/
structure ActionKept (vol : Nat) (s y : State) : Prop where
  panel : ∃ aw rs, y.panel = { s.panel with volume := vol, awaiting := aw, repeats := rs }
  now : y.now = s.now
  apart : y.apart = s.apart
  mode : y.power.mode = s.power.mode
  click : ClickStands s y

theorem ActionKept.refl (s : State) : ActionKept s.panel.volume s s :=
  ⟨⟨_, _, rfl⟩, rfl, rfl, rfl, clickStands_of_tone rfl⟩

theorem internalPrompt_tone (p : InternalPrompt) (s : State) : (internalPrompt p s).tone = s.tone := by
  unfold internalPrompt
  (repeat' split)
  · rfl
  · rfl
  · rfl
  · cases s.capacity p.cls with
    | evict v =>
      show (evict v s).tone = s.tone
      unfold evict
      dsimp only
      split <;> rfl
    | room => rfl
    | full => rfl

theorem internalPrompt_kept (p : InternalPrompt) (s : State) : ActionKept s.panel.volume s (internalPrompt p s) := by
  obtain ⟨rs, hpanel⟩ := internalPrompt_panel p s
  obtain ⟨-, -, hnow, hmode⟩ := internalPrompt_fields p s
  exact ⟨⟨_, rs, hpanel⟩, hnow, internalPrompt_apart p s, hmode, clickStands_of_tone (internalPrompt_tone p s)⟩

theorem removeEntry_kept (tag : Nat) (o : DoneOutcome) (s : State) : ActionKept s.panel.volume s (removeEntry tag o s) := by
  have hleft (e : Entry) (y : State) (hpanel : y.panel = s.panel) (hnow : y.now = s.now) (hmode : y.power.mode = s.power.mode)
      (hclick : ClickStands s y) (happ : y.apart = s.apart) : ActionKept s.panel.volume s (leaveWith e o y) :=
    ⟨⟨s.panel.awaiting, _, by rw [leaveWith_panel, hpanel]⟩, by rw [leaveWith_now, hnow], by rw [leaveWith_apart, happ],
      by rw [leaveWith_power, hmode], hclick.trans (clickStands_of_tone (leaveWith_tone ..))⟩
  have hemptied (y : State) : ClickStands y (emptySlot y) := clickStands_of_chime rfl nofun
  cases he : s.entry tag with
  | none =>
    unfold removeEntry
    simp only [he]
    exact .refl s
  | some e =>
    cases hstate : e.state with
    | queued =>
      rw [removeEntry_queued he hstate]
      exact hleft e s rfl rfl rfl (clickStands_of_tone rfl) rfl
    | claiming =>
      rw [removeEntry_claiming he hstate]
      exact hleft e _ (by simp) (by simp) (by simp) ((clickStands_of_tone (withdraw_tone s)).trans (hemptied _)) (by simp)
    | showing =>
      rw [removeEntry_showing he hstate]
      exact hleft e _ rfl rfl rfl (hemptied s) (by simp)
    | speaking =>
      unfold removeEntry
      simp only [he, hstate]
      exact ⟨⟨_, _, rfl⟩, rfl, rfl, rfl, clickStands_of_tone rfl⟩

theorem acknowledge_kept (tag : Nat) (s : State) : ActionKept s.panel.volume s (acknowledge tag s) := by
  unfold acknowledge
  split
  · exact ⟨⟨_, s.panel.repeats, answerAwaiting_panel ..⟩, by simp, by simp, by simp, clickStands_of_tone (reportDone_tone .machine ..)⟩
  · exact removeEntry_kept ..

theorem pressAction_kept (k : Key) (s : State) : ActionKept (s.panel.pressedVolume k) s (pressAction k s) := by
  have hvolume (up : Bool) : ActionKept (s.panel.pressedVolume (if up then .vup else .vdn)) s (stepVolume up s) := by
    rw [stepVolume_eq]
    exact ⟨⟨s.panel.awaiting, s.panel.repeats, rfl⟩, rfl, State.onPanel_apart .., rfl, clickStands_of_tone rfl⟩
  cases k with
  | rep =>
    show ActionKept _ s (actRepeat s)
    unfold actRepeat
    split
    · exact internalPrompt_kept ..
    · exact .refl s
  | hlp =>
    show ActionKept _ s (actHelp s)
    unfold actHelp
    split
    · exact internalPrompt_kept ..
    · exact .refl s
  | lng => exact .refl s
  | vdn => exact hvolume false
  | vup => exact hvolume true
  | ok =>
    show ActionKept _ s (actOk s)
    unfold actOk
    split
    · exact acknowledge_kept ..
    · exact .refl s

end Sys2Proof.Machine
end

section
/-! The prompt spoken last (R178), and KEY_PRESS. -/

namespace Sys2Proof.Machine
open Sys2Proof Host Safety

/-! The latest of the candidates. -/

theorem foldl_laterSpoken_cases (l : List (Nat × Nat)) (b : Nat × Nat) :
    ∃ m, (l.foldl laterSpoken (some b)) = some m ∧ m ∈ b :: l ∧ ∀ x ∈ b :: l, x.1 ≤ m.1 := by
  induction l generalizing b with
  | nil => exact ⟨b, rfl, List.mem_singleton_self b, by simp⟩
  | cons a l ih =>
    rw [List.foldl_cons]
    unfold laterSpoken
    dsimp only
    split
    next hlt =>
      obtain ⟨m, hm, hmem, hmax⟩ := ih b
      have hb := hmax b List.mem_cons_self
      refine ⟨m, hm, ?_, fun x hx => ?_⟩
      · rcases List.mem_cons.mp hmem with rfl | hmem
        · exact List.mem_cons_self
        · exact List.mem_cons_of_mem _ (List.mem_cons_of_mem _ hmem)
      · rcases List.mem_cons.mp hx with rfl | hx
        · exact hb
        rcases List.mem_cons.mp hx with rfl | hx
        · omega
        · exact hmax x (List.mem_cons_of_mem _ hx)
    next hge =>
      obtain ⟨m, hm, hmem, hmax⟩ := ih a
      have ha := hmax a List.mem_cons_self
      refine ⟨m, hm, List.mem_cons_of_mem _ hmem, fun x hx => ?_⟩
      rcases List.mem_cons.mp hx with rfl | hx
      · omega
      · exact hmax x hx

theorem latest_mem {l : List (Nat × Nat)} {b : Nat × Nat} (hb : b ∈ l) :
    ∃ m, l.foldl laterSpoken none = some m ∧ m ∈ l ∧ ∀ x ∈ l, x.1 ≤ m.1 := by
  cases l with
  | nil => exact absurd hb List.not_mem_nil
  | cons a l => exact foldl_laterSpoken_cases l a

/-- Of equal stamps the candidate listed last is taken. -/
theorem latest_of_last {l : List (Nat × Nat)} {b : Nat × Nat} (h : ∀ x ∈ l, x.1 ≤ b.1) :
    (l ++ [b]).foldl laterSpoken none = some b := by
  rw [List.foldl_append]
  cases l with
  | nil => rfl
  | cons a l =>
    obtain ⟨m, hm, hmem, -⟩ := foldl_laterSpoken_cases l a
    show laterSpoken (l.foldl laterSpoken (some a)) b = some b
    rw [hm]
    exact if_neg (Nat.not_lt.mpr (h m hmem))

theorem actOk_of_latest {s : State} {m : Nat × Nat} (h : s.okCandidates.foldl laterSpoken none = some m) :
    actOk s = acknowledge m.2 s := by
  unfold actOk
  rw [h]

theorem actOk_of_empty {s : State} (ha : s.panel.awaiting = []) (hr : s.panel.repeats = []) : actOk s = s := by
  unfold actOk State.okCandidates
  rw [ha, hr]
  rfl

theorem acknowledge_record {s : State} {a : Awaiting} (ha : a ∈ s.panel.awaiting) :
    acknowledge a.tag s = answerAwaiting a.tag .acked s := by
  unfold acknowledge
  have hsome : (s.awaitingRecord a.tag).isSome = true := List.find?_isSome.mpr ⟨a, ha, by simp⟩
  obtain ⟨x, hx⟩ := Option.isSome_iff_exists.mp hsome
  rw [hx]

/-- The newest awaiting record, where nothing has been spoken later. -/
theorem actOk_record {s : State} {now : Nat} {l : List Awaiting} {a : Awaiting} (hnow : s.now = now) (hlist : s.panel.awaiting = l ++ [a])
    (hr : ∀ x ∈ s.panel.repeats, okStamp s now x ≤ a.spokenAt) (hl : ∀ x ∈ l, x.spokenAt ≤ a.spokenAt) :
    actOk s = answerAwaiting a.tag .acked s := by
  subst hnow
  have hsplit : s.okCandidates =
      ((s.panel.repeats.map fun r => (okStamp s s.now r, r.tag)) ++ l.map fun a => (a.spokenAt, a.tag)) ++ [(a.spokenAt, a.tag)] := by
    unfold State.okCandidates
    rw [hlist, List.map_append, ← List.append_assoc]
    rfl
  have hlatest : s.okCandidates.foldl laterSpoken none = some (a.spokenAt, a.tag) := by
    rw [hsplit]
    refine latest_of_last fun x hx => ?_
    rcases List.mem_append.mp hx with hx | hx
    · obtain ⟨r, hmem, rfl⟩ := List.mem_map.mp hx
      exact hr r hmem
    · obtain ⟨y, hmem, rfl⟩ := List.mem_map.mp hx
      exact hl y hmem
  rw [actOk_of_latest hlatest]
  exact acknowledge_record (by rw [hlist]; simp)

/-- The repeat entry spoken last. -/
theorem actOk_repeat {s : State} {r : RepeatItem} (h : LatestSpoken s s.now r) : actOk s = removeEntry r.tag .acked s := by
  obtain ⟨hr, haw, hrs⟩ := h
  have hmem : (okStamp s s.now r, r.tag) ∈ s.okCandidates :=
    List.mem_append_left _ (List.mem_map.mpr ⟨r, hr, rfl⟩)
  obtain ⟨m, hlatest, hm, hmax⟩ := latest_mem hmem
  have hle := hmax _ hmem
  have htag : m.2 = r.tag := by
    rcases List.mem_append.mp hm with hm | hm
    · obtain ⟨x, hx, rfl⟩ := List.mem_map.mp hm
      exact (hrs x hx).resolve_right fun hlt => Nat.not_lt.mpr hle hlt
    · obtain ⟨x, hx, rfl⟩ := List.mem_map.mp hm
      exact absurd (haw x hx).2 (Nat.not_lt.mpr hle)
  have hnone : s.awaitingRecord r.tag = none :=
    List.find?_eq_none.mpr fun x hx => by simpa using (haw x hx).1
  rw [actOk_of_latest hlatest, htag]
  unfold acknowledge
  rw [hnone]

end Sys2Proof.Machine
end

section
/-! KEY_PRESS (R169 to R172, R174, R178), clause by clause. -/

namespace Sys2Proof.Machine
open Sys2Proof Host Safety

/-- The key pressed and debounced afresh, on what its action has left. -/
def State.keyDown (s : State) (k : Key) (due now : Nat) : State :=
  s.onPanel fun p => { p with keys := p.keys.set k (.pressed ⟨due, 1500⟩), inputs := p.inputs.set k ⟨true, ⟨now + 30, 30⟩⟩ }

/-- A press taken: what it acts on (`x`), and what has followed its action (`w`). -/
structure Pressing (t : Nat) (k : Key) (s x w : State) : Prop where
  acted : w = (pressAction k x).keyDown k (s.instant t + 1500) (s.instant t)
  left : ∃ p d, StirredFrom (s.arrive t) p d ∧ x = (s.arrive t).clicked k p d

theorem exec_keyPress_pressing {s : State} (t : Nat) {k : Key} (hawake : s.power.mode ≠ .sleep) (hup : s.panel.keys.get k = .up)
    (hdue : DueAt s t (s.panel.inputs.get k).debounce.due) :
    ∃ x w, Pressing t k s x w ∧ exec (.keyPress t k) s = .next (conclude w) := by
  obtain ⟨p, d, hstirred, hexec⟩ := exec_keyPress_taken t hawake hup hdue
  refine ⟨(s.arrive t).clicked k p d, _, ⟨rfl, p, d, hstirred, rfl⟩, hexec.trans ?_⟩
  have hnow : (pressAction k ((s.arrive t).clicked k p d)).now = s.instant t := (pressAction_kept k _).now
  refine congrArg (fun n => Outcome.next (conclude ((pressAction k ((s.arrive t).clicked k p d)).onPanel fun u =>
    { u with keys := u.keys.set k (.pressed ⟨s.instant t + 1500, 1500⟩), inputs := u.inputs.set k (KeyInput.fresh n true) }))) hnow

section
variable {t : Nat} {k : Key} {s x w : State}

theorem Pressing.same (h : Pressing t k s x w) :
    x.seq = s.seq ∧ x.store = s.store ∧ x.panel = s.panel ∧ x.link = s.link ∧ x.floor = s.floor ∧ x.hall = s.hall
      ∧ x.now = s.instant t ∧ x.power.mode = .active ∧ x.display.phase = s.display.phase := by
  obtain ⟨p, d, hstirred, rfl⟩ := h.left
  exact ⟨rfl, rfl, rfl, rfl, rfl, rfl, rfl, hstirred.mode, congrArg Prod.fst hstirred.status⟩

theorem Pressing.blocks (h : Pressing t k s x w) :
    w.seq = (pressAction k x).seq ∧ w.link = (pressAction k x).link ∧ w.floor = (pressAction k x).floor
      ∧ w.hall = (pressAction k x).hall ∧ w.power = (pressAction k x).power ∧ w.display = (pressAction k x).display
      ∧ w.tone = (pressAction k x).tone ∧ w.panel.repeats = (pressAction k x).panel.repeats
      ∧ w.panel.awaiting = (pressAction k x).panel.awaiting := by
  rw [h.acted]
  exact ⟨rfl, rfl, rfl, rfl, rfl, rfl, rfl, rfl, rfl⟩

theorem Pressing.awake (h : Pressing t k s x w) : w.power.mode ≠ .sleep := by
  rw [h.blocks.2.2.2.2.1, (pressAction_kept k x).mode, h.same.2.2.2.2.2.2.2.1]
  nofun

theorem Pressing.panel (h : Pressing t k s x w) :
    ∃ aw rs, w.panel =
      { s.panel with
        keys := s.panel.keys.set k (.pressed ⟨s.instant t + 1500, 1500⟩)
        inputs := s.panel.inputs.set k ⟨true, ⟨s.instant t + 30, 30⟩⟩
        volume := s.panel.pressedVolume k, awaiting := aw, repeats := rs } := by
  obtain ⟨aw, rs, hpanel⟩ := (pressAction_kept k x).panel
  rw [h.same.2.2.1] at hpanel
  refine ⟨aw, rs, ?_⟩
  rw [h.acted]
  unfold State.keyDown State.onPanel
  dsimp only
  rw [hpanel]

theorem Pressing.apart (h : Pressing t k s x w) :
    w.apart = { s.apart with rem := { s.rem with slots := (s.arrive t).restartedSlots } } := by
  have hx : x.apart = { s.apart with rem := { s.rem with slots := (s.arrive t).restartedSlots } } := by
    obtain ⟨p, d, hstirred, rfl⟩ := h.left
    exact (State.onTone_apart ..).trans hstirred.apart
  rw [← hx, ← (pressAction_kept k x).apart, h.acted]
  exact State.onPanel_apart ..

theorem Pressing.click (h : Pressing t k s x w) :
    x.tone = { s.tone with click := (s.arrive t).clickAt (s.panel.pressedVolume k) } ∧ x.piezoHeld = s.piezoHeld ∧ ClickStands x w := by
  refine ⟨?_, ?_, (pressAction_kept k x).click.trans (clickStands_of_tone h.blocks.2.2.2.2.2.2.1)⟩
  all_goals
    obtain ⟨p, d, -, rfl⟩ := h.left
    rfl

/-- A press that asks for a prompt. -/
theorem Pressing.asked (h : Pressing t k s x w) {p : InternalPrompt} (hp : pressAction k x = internalPrompt p x) :
    Asked p [] s x w := by
  obtain ⟨hseq, hstore, hpanel, hlink, -⟩ := h.same
  obtain ⟨hwseq, hwlink, -, -, -, -, -, hwrepeats, -⟩ := h.blocks
  rw [hp] at hwseq hwlink hwrepeats
  exact
    { queue := hseq
      store := hstore
      repeats := by rw [hpanel]
      reports := by rw [hlink]; exact ⟨rfl, rfl⟩
      seq := hwseq
      list := hwrepeats
      told := fun _ _ => by rw [hwlink, List.append_nil] }

/-- A press whose action leaves the queue and the reports. -/
theorem Pressing.quiet (h : Pressing t k s x w) (hq : (pressAction k x).seq = x.seq) (hl : (pressAction k x).link = x.link) :
    QueueKept s (conclude w) ∧ ReportsKept s (conclude w) := by
  obtain ⟨hseq, -, -, hlink, -⟩ := h.same
  obtain ⟨hwseq, hwlink, -⟩ := h.blocks
  refine ⟨conclude_queueKept (queueKept_of_seq ((hwseq.trans hq).trans hseq)), conclude_reportsKept ?_⟩
  unfold ReportsKept
  rw [hwlink, hl, hlink]
  exact ⟨rfl, rfl, rfl⟩

/-- The prompt that a key asks for, in each of its outcomes (R13). -/
theorem Pressing.prompted (h : Pressing t k s x w) {p : InternalPrompt} (hp : pressAction k x = internalPrompt p x)
    (horigin : p.origin = .key) (hdeadline : p.deadline = none) :
    (TemplateKnown s p.template → HasRoom s p.cls.val → s.entry p.tag = none →
        ∃ e, (conclude w).entry p.tag = some e ∧ e.origin = .key ∧ e.cls = p.cls ∧ e.template = p.template ∧ e.param1 = p.param1
          ∧ e.param2 = p.param2 ∧ e.channels = ⟨true, true, true⟩ ∧ e.ackRequired = false ∧ e.arrival = s.instant t
          ∧ e.deadline = none)
      ∧ DroppedOrRoomMade p.tag p.template p.cls [] s (conclude w)
      ∧ ∀ e, TemplateKnown s p.template → s.entry p.tag = some e → QueueKept s (conclude w) ∧ ReportsKept s (conclude w) := by
  have hasked := h.asked hp
  refine ⟨fun hknown hroom hfree => ?_, hasked.droppedOrRoomMade, fun e hknown he => h.quiet ?_ ?_⟩
  · obtain ⟨m, e', he', htaken⟩ := hasked.made hknown hroom hfree
    have hnow := h.same.2.2.2.2.2.2.1
    have hnone : ({ x.internalEntry p with made := m } : Entry).deadline = none := by
      unfold State.internalEntry
      rw [hdeadline]
      rfl
    refine ⟨e', he', ?_⟩
    have hd := htaken.deadline_none hnone
    cases htaken <;> exact ⟨horigin, rfl, rfl, rfl, rfl, rfl, rfl, hnow, hd⟩
  all_goals rw [hp, internalPrompt_merged ((hasked.known _).mpr hknown) ((hasked.entry _).trans he)]

end

/-! The clauses. -/

theorem press_takes {t : Nat} {k : Key} {s x w : State} (h : Pressing t k s x w) :
    let u := conclude w
    u.panel.keys = s.panel.keys.set k (.pressed ⟨s.instant t + 1500, 1500⟩)
      ∧ u.panel.inputs = s.panel.inputs.set k ⟨true, ⟨s.instant t + 30, 30⟩⟩
      ∧ u.panel.inSession = s.panel.inSession ∧ u.panel.language = s.panel.language
      ∧ u.panel.helpTemplate = s.panel.helpTemplate ∧ u.panel.lastCompleted = s.panel.lastCompleted
      ∧ (k ≠ .vdn → k ≠ .vup → u.panel.volume = s.panel.volume)
      ∧ (u.piezoHeld = false →
          u.tone.click =
            if u.panel.volume = 0 ∨ s.piezoHeld = true then s.tone.click
            else .playing (min 128 (3 * (50 + 4 * u.panel.volume - 40) + 2)) ⟨s.instant t + 40, 40⟩)
      ∧ (u.piezoHeld = true → u.tone.click = .idle ∨ s.piezoHeld = true ∧ u.tone.click = s.tone.click)
      ∧ u.rem =
          { s.rem with
            slots := s.rem.slots.map fun o => o.map fun r =>
              if r.mode = .idle then { r with nextFiring := some ⟨s.instant t + r.delay * 1000, r.delay * 1000⟩ } else r }
      ∧ EstimateKept s u ∧ LineKept s u ∧ SettingsKept s u ∧ FramerKept s u ∧ StoreKept s u ∧ LevelKept s u
      ∧ SpeakerKept s u ∧ StatusLineKept s u := by
  obtain ⟨aw, rs, hpanel⟩ := h.panel
  have hupanel : (conclude w).panel = _ := (conclude_panel w).trans hpanel
  obtain ⟨htone, hpiezo, hclick⟩ := h.click
  have happ := h.apart
  have hrem := (conclude_rem w).trans (congrArg Apart.rem happ)
  obtain ⟨hsettings, hframer⟩ := settings_framer_conclude (s := s) (w := w) (by rw [happ])
  refine ⟨by rw [hupanel], by rw [hupanel], by rw [hupanel], by rw [hupanel], by rw [hupanel], by rw [hupanel], fun hvdn hvup => ?_,
    fun hheld => ?_, fun hheld => ?_, hrem.trans rfl, estimateKept_conclude ?_, lineKept_conclude (by rw [happ]), hsettings, hframer,
    storeKept_conclude (by rw [happ]), levelKept_conclude (by rw [happ]), speakerKept_conclude (by rw [happ]),
    statusLineKept_conclude (by rw [happ])⟩
  · rw [hupanel]
    cases k with
    | vdn => exact absurd rfl hvdn
    | vup => exact absurd rfl hvup
    | _ => rfl
  · rcases conclude_click w with hstands | htaken
    · rw [hstands.1, hclick.1, htone, hupanel]
      rfl
    · exact absurd (hheld.symm.trans htaken.2) nofun
  · rcases conclude_click w with hstands | htaken
    · have hs : s.piezoHeld = true := hpiezo ▸ (hclick.trans hstands).2 hheld
      refine .inr ⟨hs, ?_⟩
      rw [hstands.1, hclick.1, htone]
      exact if_pos (.inr hs)
    · exact .inl htaken.1
  · rw [show w.rem = w.apart.rem from rfl, happ]
    exact ⟨rfl, rfl, rfl⟩

theorem pressedVolume_step {p : Panel} (up : Bool) (h : p.volume ≤ 7) :
    p.pressedVolume (if up then .vup else .vdn) =
      if p.inSession = false then p.volume
      else if up then (if p.volume = 7 then 7 else p.volume + 1)
      else if p.volume = 0 then 0 else p.volume - 1 := by
  unfold Panel.pressedVolume
  cases p.inSession with
  | false => cases up <;> rfl
  | true =>
    cases up with
    | false =>
      show p.volume - 1 = if p.volume = 0 then 0 else p.volume - 1
      split <;> omega
    | true =>
      show min 7 (p.volume + 1) = if p.volume = 7 then 7 else p.volume + 1
      split <;> omega

theorem press_steps {t : Nat} {up : Bool} {s x w : State} (h : Pressing t (if up then .vup else .vdn) s x w)
    (hnothing : NothingToSelect s) (hvolume : s.panel.volume ≤ 7) :
    let u := conclude w
    u.panel.volume =
        (if s.panel.inSession = false then s.panel.volume
          else if up then (if s.panel.volume = 7 then 7 else s.panel.volume + 1)
          else if s.panel.volume = 0 then 0 else s.panel.volume - 1)
      ∧ (u.panel.volume = 0 ∨ s.piezoHeld = true → u.tone = s.tone)
      ∧ (u.panel.volume ≠ 0 → s.piezoHeld = false →
          u.tone = ⟨s.tone.chime,
            .playing (min 128 (3 * (50 + 4 * u.panel.volume - 40) + 2)) ⟨s.instant t + 40, 40⟩⟩)
      ∧ u.panel.awaiting = s.panel.awaiting ∧ u.panel.repeats = s.panel.repeats ∧ ViewKept s u ∧ ReportsKept s u
      ∧ QueueKept s u := by
  have hact : pressAction (if up then .vup else .vdn) x =
      x.onPanel fun p => { p with volume := p.pressedVolume (if up then .vup else .vdn) } := by
    rw [← stepVolume_eq]
    cases up <;> rfl
  obtain ⟨hseq, -, hpanel, hlink, hfloor, -⟩ := h.same
  obtain ⟨hwseq, hwlink, hwfloor, -, -, -, hwtone, hwrepeats, hwawaiting⟩ := h.blocks
  rw [hact] at hwseq hwlink hwfloor hwtone hwrepeats hwawaiting
  obtain ⟨htone, hpiezo, -⟩ := h.click
  obtain ⟨aw, rs, hwpanel⟩ := h.panel
  have hvol : (conclude w).panel.volume = s.panel.pressedVolume (if up then .vup else .vdn) := by rw [conclude_panel, hwpanel]
  have hutone : (conclude w).tone = { s.tone with click := (s.arrive t).clickAt (s.panel.pressedVolume (if up then .vup else .vdn)) } := by
    rw [conclude_tone_of_nothing h.awake (by unfold NothingToSelect; rw [hwseq, State.onPanel_seq, hseq]; exact hnothing), hwtone]
    exact htone
  obtain ⟨hqueue, hreports⟩ := h.quiet (by rw [hact]; rfl) (by rw [hact]; rfl)
  refine ⟨hvol.trans (pressedVolume_step up hvolume), fun hmute => ?_, fun hloud hfree => ?_, ?_, ?_,
    conclude_viewKept (by rw [hwfloor]; exact congrArg FloorUnit.view hfloor), hreports, hqueue⟩
  · rw [hutone, show (s.arrive t).clickAt _ = s.tone.click from if_pos (hvol ▸ hmute)]
  · rw [hutone, hvol]
    rw [hvol] at hloud
    have hasked : (s.arrive t).clickAt (s.panel.pressedVolume (if up then .vup else .vdn)) = .playing _ _ :=
      if_neg (not_or.mpr ⟨hloud, fun hheld : s.piezoHeld = true => absurd (hfree.symm.trans hheld) nofun⟩)
    rw [hasked]
    rfl
  · rw [conclude_panel, hwawaiting, State.onPanel_panel, hpanel]
  · rw [conclude_panel, hwrepeats, State.onPanel_panel, hpanel]

/-- OK on a repeat entry that is not being spoken: it leaves at once (R178, R94). -/
theorem ok_removes {t : Nat} {s x w : State} {r : RepeatItem} {e : Entry} (h : Pressing t .ok s x w) (hfits : ReportFits s)
    (hlatest : LatestSpoken s (s.instant t) r) (he : s.entry r.tag = some e) (hstate : e.state ≠ .speaking)
    (horigin : e.origin = .machine) :
    let u := conclude w
    u.link.reports = s.link.reports ++ [.done r.tag .acked] ∧ u.entry r.tag = none
      ∧ u.panel.repeats = s.panel.repeats.filter (fun x => x.tag ≠ r.tag) ∧ u.panel.awaiting = s.panel.awaiting
      ∧ (e.state = .claiming → ClaimWithdrawn s u)
      ∧ (e.state = .showing →
          (s.seq.queue = [e] → u.seq.slot = none ∧ u.display.text = none)
            ∧ ∀ w, u.seq.slot = some w → w.tag ≠ r.tag) := by
  have htag := tag_of_entry he
  obtain ⟨hwseq, hwlink, hwfloor, hwhall, -, hwdisplay, -, hwrepeats, hwawaiting⟩ := h.blocks
  have hawake := h.awake
  generalize hy : pressAction .ok x = y at *
  have hact : y = removeEntry r.tag .acked x := by
    rw [← hy]
    obtain ⟨p, d, -, rfl⟩ := h.left
    exact actOk_repeat (s := (s.arrive t).clicked .ok p d) hlatest
  have hxe : x.entry r.tag = some e := by
    unfold State.entry
    rw [h.same.1]
    exact he
  obtain ⟨hxseq, -, hxpanel, hxlink, hxfloor, hxhall, -⟩ := h.same
  have hleft (z : State) (hz : y = leaveWith e .acked z) (hzseq : z.seq.queue = s.seq.queue) (hzlink : z.link = s.link)
      (hzpanel : z.panel = s.panel) :
      (conclude w).link.reports = s.link.reports ++ [.done r.tag .acked] ∧ w.entry r.tag = none
        ∧ (conclude w).panel.repeats = s.panel.repeats.filter (fun x => x.tag ≠ r.tag)
        ∧ (conclude w).panel.awaiting = s.panel.awaiting := by
    refine ⟨?_, ?_, ?_, ?_⟩
    · rw [conclude_reports, hwlink, hz, leaveWith_reports horigin _ (reportFits_of_link hzlink hfits), hzlink, htag]
    · have hnone := leaveWith_entry e .acked z
      rw [← hz, htag] at hnone
      unfold State.entry
      rw [hwseq]
      exact hnone
    · rw [conclude_panel, hwrepeats, hz, leaveWith_panel, hzpanel, htag]
    · rw [conclude_panel, hwawaiting, hz, leaveWith_panel, hzpanel]
  cases hs : e.state with
  | speaking => exact absurd hs hstate
  | queued =>
    obtain ⟨hreports, hnone, hrepeats, hawaiting⟩ :=
      hleft x (hact.trans (removeEntry_queued hxe hs _)) (by rw [hxseq]) hxlink hxpanel
    exact ⟨hreports, conclude_entry_none hnone, hrepeats, hawaiting, nofun, nofun⟩
  | claiming =>
    have hz := hact.trans (removeEntry_claiming hxe hs _)
    obtain ⟨hreports, hnone, hrepeats, hawaiting⟩ :=
      hleft _ hz (by rw [emptySlot_seq, withdraw_seq, hxseq]) (by rw [emptySlot_link, withdraw_link, hxlink])
        (by rw [emptySlot_panel, withdraw_panel, hxpanel])
    refine ⟨hreports, conclude_entry_none hnone, hrepeats, hawaiting, fun _ => ?_, nofun⟩
    have hwithdrawn : ClaimWithdrawn x (conclude w) :=
      claimWithdrawn_of_withdraw hawake (by rw [hwfloor, hz]; simp) (by rw [hwhall, hz]; simp)
    obtain ⟨p, d, -, rfl⟩ := h.left
    exact hwithdrawn
  | showing =>
    have hz := hact.trans (removeEntry_showing hxe hs _)
    obtain ⟨hreports, hnone, hrepeats, hawaiting⟩ :=
      hleft _ hz (by rw [emptySlot_seq, hxseq]) (by rw [emptySlot_link, hxlink]) (by rw [emptySlot_panel, hxpanel])
    have hslot : w.seq.slot = none := by rw [hwseq, hz, leaveWith_seq, emptySlot_seq]
    refine ⟨hreports, conclude_entry_none hnone, hrepeats, hawaiting, nofun, fun _ => ⟨fun hqueue => ?_, fun v hv hvtag => ?_⟩⟩
    · have hempty : w.seq.queue = [] := by
        rw [hwseq, hz, leaveWith_seq, emptySlot_seq, hxseq]
        exact List.filter_eq_nil_iff.mpr (by simp [hqueue])
      refine ⟨(conclude_of_empty hawake hslot hempty).1, ?_⟩
      rw [conclude_display_of_none hawake hslot hempty, hwdisplay, hz, leaveWith_display]
      rfl
    · obtain ⟨z, hz, hztag⟩ := conclude_chosen_tag hslot hv
      have hsome := (entry_isSome_iff w r.tag).mpr ⟨z, hz, hztag.trans hvtag⟩
      rw [hnone] at hsome
      exact absurd hsome nofun

/-- Settles O53. -/
theorem keyPressActs : Obligations.KeyPressActs := by
  refine ⟨?_, ?_, ?_, ?_, ?_, ?_⟩
  · intro t k s hawake hup hdue
    obtain ⟨x, w, h, hexec⟩ := exec_keyPress_pressing t hawake hup hdue
    exact ⟨_, hexec, press_takes h⟩
  · intro t k s hawake hnot
    exact exec_keyPress_notTaken t hawake hnot
  · intro t up s hawake hup hdue hnothing hvolume
    obtain ⟨x, w, h, hexec⟩ := exec_keyPress_pressing t hawake hup hdue
    exact ⟨_, hexec, press_steps h hnothing hvolume⟩
  · intro t s hawake hup hdue
    obtain ⟨x, w, h, hexec⟩ := exec_keyPress_pressing (k := .rep) t hawake hup hdue
    have hasks (r : LastCompleted) (hr : s.panel.lastCompleted = some r) :
        pressAction .rep x = internalPrompt ⟨72, .key, repeatClass r.cls, r.template, r.param1, r.param2, none⟩ x := by
      show actRepeat x = _
      unfold actRepeat
      rw [h.same.2.2.1, hr]
    refine ⟨_, hexec, fun r hr => (h.prompted (hasks r hr) rfl rfl).1, fun r hr => (h.prompted (hasks r hr) rfl rfl).2.1,
      fun r e hr hknown he => (h.prompted (hasks r hr) rfl rfl).2.2 e hknown he, fun hnone => ?_⟩
    have hact : pressAction .rep x = x := by
      show actRepeat x = _
      unfold actRepeat
      rw [h.same.2.2.1, hnone]
    exact h.quiet (by rw [hact]) (by rw [hact])
  · intro t s hawake hup hdue
    obtain ⟨x, w, h, hexec⟩ := exec_keyPress_pressing (k := .hlp) t hawake hup hdue
    have hasks (n : Nat) (hn : s.panel.helpTemplate = some n) :
        pressAction .hlp x = internalPrompt ⟨73, .key, .status, n, x.phaseId, 0, none⟩ x := by
      show actHelp x = _
      unfold actHelp
      rw [h.same.2.2.1, hn]
    refine ⟨_, hexec, fun n ph hn hph hknown hroom hfree => ?_, fun n hn => (h.prompted (hasks n hn) rfl rfl).2.1,
      fun n e hn hknown he => (h.prompted (hasks n hn) rfl rfl).2.2 e hknown he, fun hnone => ?_⟩
    · have hid : x.phaseId = ph.phase := by
        unfold State.phaseId
        rw [h.same.2.2.2.2.2.2.2.2, hph]
        rfl
      have hprompted := (h.prompted (hasks n hn) rfl rfl).1 hknown hroom hfree
      rwa [hid] at hprompted
    · have hact : pressAction .hlp x = x := by
        show actHelp x = _
        unfold actHelp
        rw [h.same.2.2.1, hnone]
      exact h.quiet (by rw [hact]) (by rw [hact])
  · intro t s hawake hup hdue hfits
    obtain ⟨x, w, h, hexec⟩ := exec_keyPress_pressing (k := .ok) t hawake hup hdue
    obtain ⟨hwseq, hwlink, -, -, -, -, -, hwrepeats, hwawaiting⟩ := h.blocks
    obtain ⟨hxseq, -, hxpanel, hxlink, -⟩ := h.same
    refine ⟨_, hexec, fun l a hlist hr hl => ?_, fun r e hlatest he hstate horigin => ok_removes h hfits hlatest he hstate horigin,
      fun r e v hlatest he hstate hslot => ?_, fun ha hr => ?_⟩
    · have hact : pressAction .ok x = answerAwaiting a.tag .acked x := by
        obtain ⟨p, d, -, rfl⟩ := h.left
        exact actOk_record (s := (s.arrive t).clicked .ok p d) rfl hlist hr hl
      rw [hact] at hwseq hwlink hwawaiting
      refine ⟨?_, ?_, conclude_queueKept (queueKept_of_seq ?_)⟩
      · rw [conclude_reports, hwlink, answerAwaiting_reports (reportFits_of_link hxlink hfits), hxlink]
      · rw [conclude_panel, hwawaiting, answerAwaiting_panel, hxpanel]
      · rw [hwseq, answerAwaiting_seq, hxseq]
    · have hxe : x.entry r.tag = some e := by
        unfold State.entry
        rw [hxseq]
        exact he
      have hact : pressAction .ok x =
          x.onSeq fun q => { q with slot := some { v with removal := some (v.removal.getD .acked) } } := by
        rw [← removeEntry_speaking hxe hstate (by rw [hxseq]; exact hslot)]
        obtain ⟨p, d, -, rfl⟩ := h.left
        exact actOk_repeat (s := (s.arrive t).clicked .ok p d) hlatest
      rw [hact] at hwseq hwlink hwawaiting hwrepeats
      refine ⟨?_, conclude_reportsKept ?_, ?_, ?_⟩
      · rw [(conclude_of_slot (s := w) (by rw [hwseq]; rfl)).1, hwseq]
        exact congrArg (fun q : Sequencer => { q with slot := some { v with removal := some (v.removal.getD .acked) } }) hxseq
      · unfold ReportsKept
        rw [hwlink, State.onSeq_link, hxlink]
        exact ⟨rfl, rfl, rfl⟩
      · rw [conclude_panel, hwrepeats, State.onSeq_panel, hxpanel]
      · rw [conclude_panel, hwawaiting, State.onSeq_panel, hxpanel]
    · have hact : pressAction .ok x = x := actOk_of_empty (by rw [hxpanel, ha]) (by rw [hxpanel, hr])
      exact (h.quiet (by rw [hact]) (by rw [hact])).symm

end Sys2Proof.Machine
end

section
/-! The end of a session (R166, R167): the entries and records that leave, in their order, and their reports. -/

namespace Sys2Proof.Machine
open Sys2Proof Host Safety

/-- The entries of `tags` leave, `rep` at most `n` reports joining in their order. -/
structure Leaving (tags : List Nat) (rep : List Report) (n : Nat) (x y : State) : Prop where
  queue : y.seq.queue = x.seq.queue.filter fun a => decide (a.tag ∉ tags)
  panel : y.panel = { x.panel with repeats := x.panel.repeats.filter fun r => decide (r.tag ∉ tags) }
  settled : y.link.settled = x.link.settled
  reports : x.link.listening = true → x.link.reports.length + n ≤ 16 → y.link.reports = x.link.reports ++ rep
  count : rep.length ≤ n

theorem Leaving.refl (x : State) : Leaving [] [] 0 x x where
  queue := by simp
  panel := by simp
  settled := rfl
  reports := fun _ _ => (List.append_nil _).symm
  count := Nat.le_refl 0

theorem filter_notMem_append {α : Type} (f : α → Nat) (a b : List Nat) (l : List α) :
    (l.filter fun x => decide (f x ∉ a)).filter (fun x => decide (f x ∉ b)) = l.filter fun x => decide (f x ∉ a ++ b) := by
  rw [List.filter_filter]
  refine List.filter_congr fun x _ => ?_
  simp [Bool.and_comm]

theorem listening_of_settled {a b : CueLink} (h : a.settled = b.settled) : a.listening = b.listening :=
  (congrArg CueLink.listening h : a.settled.listening = _)

theorem Leaving.trans {a b : List Nat} {r r' : List Report} {m n : Nat} {x y z : State} (h : Leaving a r m x y)
    (h' : Leaving b r' n y z) : Leaving (a ++ b) (r ++ r') (m + n) x z where
  queue := by rw [h'.queue, h.queue, filter_notMem_append Entry.tag]
  panel := by
    rw [h'.panel, h.panel]
    simp only [filter_notMem_append RepeatItem.tag]
  settled := h'.settled.trans h.settled
  reports := fun hlistening hfits => by
    have hr := h.reports hlistening (by omega)
    have hcount := h.count
    rw [h'.reports ((listening_of_settled h.settled).trans hlistening) (by rw [hr, List.length_append]; omega), hr,
      List.append_assoc]
  count := by
    have hcount := h.count
    have hcount' := h'.count
    rw [List.length_append]
    omega

/-- The report of an entry that the end of a session removes. -/
def endReport (e : Entry) : List Report := if e.origin = .machine then [.done e.tag .cancelled] else []

/-- An entry that leaves, from a state that has given its service up. -/
theorem leaving_of_leaveWith {x y : State} (e : Entry) (hqueue : y.seq.queue = x.seq.queue) (hpanel : y.panel = x.panel)
    (hlink : y.link = x.link) : Leaving [e.tag] (endReport e) 1 x (leaveWith e .cancelled y) where
  queue := by
    rw [leaveWith_seq, ← hqueue]
    simp
  panel := by
    rw [leaveWith_panel, hpanel]
    simp
  settled := by
    rw [← hlink]
    exact congrArg Apart.link (leaveWith_apart e .cancelled y)
  reports := fun hlistening hfits => by
    unfold endReport
    split
    next horigin =>
      have hfits' : ReportFits y := reportFits_of_link hlink ⟨hlistening, Nat.lt_of_succ_le hfits⟩
      rw [leaveWith_reports horigin _ hfits', hlink]
    next horigin => rw [leaveWith_link_internal horigin, hlink, List.append_nil]
  count := by
    unfold endReport
    split <;> simp

/-! The queued entries. -/

theorem entry_of_mem_nodup {s : State} {e : Entry} (hnodup : (s.seq.queue.map Entry.tag).Nodup) (he : e ∈ s.seq.queue) :
    s.entry e.tag = some e := by
  cases hfound : s.entry e.tag with
  | none => exact absurd ((entry_isSome_iff s e.tag).mpr ⟨e, he, rfl⟩) (by simp [hfound])
  | some x =>
    have hx : x ∈ s.seq.queue := List.mem_of_find?_eq_some hfound
    rw [List.inj_on_of_nodup_map hnodup hx he (tag_of_entry hfound)]

theorem leaveWith_beside (e : Entry) (o : DoneOutcome) (s : State) :
    leaveWith e o s =
      { s with seq := { s.seq with queue := (leaveWith e o s).seq.queue }, panel := (leaveWith e o s).panel
               link := (leaveWith e o s).link } := by
  unfold leaveWith reportDone
  split <;> rfl

/-- Queued entries removed one after the other. -/
theorem removeAll_queued (es : List Entry) (x : State) (hnodup : (x.seq.queue.map Entry.tag).Nodup) (htags : (es.map Entry.tag).Nodup)
    (hes : ∀ e ∈ es, e ∈ x.seq.queue ∧ e.state = .queued) :
    let y := (es.map Entry.tag).foldl (fun acc tag => removeEntry tag .cancelled acc) x
    Leaving (es.map Entry.tag) (es.flatMap endReport) es.length x y
      ∧ y = { x with seq := { x.seq with queue := y.seq.queue }, panel := y.panel, link := y.link } := by
  induction es generalizing x with
  | nil => exact ⟨Leaving.refl x, rfl⟩
  | cons e es ih =>
    obtain ⟨he, hstate⟩ := hes e List.mem_cons_self
    obtain ⟨hfresh, htags'⟩ := List.nodup_cons.mp htags
    have hstep : removeEntry e.tag .cancelled x = leaveWith e .cancelled x :=
      removeEntry_queued (entry_of_mem_nodup hnodup he) hstate _
    have hone : Leaving [e.tag] (endReport e) 1 x (leaveWith e .cancelled x) := leaving_of_leaveWith e rfl rfl rfl
    obtain ⟨hrest, hbeside⟩ := ih (leaveWith e .cancelled x)
      (by
        rw [hone.queue]
        exact hnodup.sublist (List.filter_sublist.map _))
      htags' (fun a ha => by
        obtain ⟨hmem, hq⟩ := hes a (List.mem_cons_of_mem _ ha)
        refine ⟨?_, hq⟩
        rw [hone.queue]
        refine List.mem_filter.mpr ⟨hmem, ?_⟩
        have hne : a.tag ≠ e.tag := fun heq => hfresh (heq ▸ List.mem_map_of_mem ha)
        simpa using hne)
    dsimp only
    rw [List.map_cons, List.foldl_cons, hstep]
    refine ⟨?_, ?_⟩
    · rw [List.length_cons, Nat.add_comm]
      exact hone.trans hrest
    · dsimp only at hbeside
      rw [hbeside, leaveWith_beside e .cancelled x]

/-- The waiting entries of STATUS and COURTESY (R167). -/
def State.sessionEntries (s : State) : List Entry :=
  s.seq.queue.filter fun e => decide (e.state = .queued) && decide (e.cls.val ≤ 1)

theorem mem_sessionEntries {s : State} {e : Entry} :
    e ∈ s.sessionEntries ↔ e ∈ s.seq.queue ∧ e.state = .queued ∧ e.cls.val ≤ 1 := by
  simp [State.sessionEntries]

theorem removeQueued_leaves {x : State} (hnodup : (x.seq.queue.map Entry.tag).Nodup) :
    Leaving (x.sessionEntries.map Entry.tag) (x.sessionEntries.flatMap endReport) x.sessionEntries.length x (removeQueued x)
      ∧ ∃ q p l, removeQueued x = { x with seq := { x.seq with queue := q }, panel := p, link := l } := by
  obtain ⟨hleaves, hbeside⟩ := removeAll_queued x.sessionEntries x hnodup (hnodup.sublist (List.filter_sublist.map _)) fun _ he =>
    ⟨(mem_sessionEntries.mp he).1, (mem_sessionEntries.mp he).2.1⟩
  exact ⟨hleaves, _, _, _, hbeside⟩

/-! The entry in the slot. -/

/-- The entry in the slot that the end of a session removes. -/
def State.servedLeaves (s : State) : List Entry :=
  match s.served with
  | some e => if e.cls.val ≤ 1 ∧ (e.state = .claiming ∨ e.state = .showing) then [e] else []
  | none => []

/-- The entry in the slot after the waiting entries have left: as before, unless it was one of them. -/
theorem served_of_left {x y : State} (hnodup : (x.seq.queue.map Entry.tag).Nodup)
    (hqueue : y.seq.queue = x.seq.queue.filter fun a => decide (a.tag ∉ x.sessionEntries.map Entry.tag))
    (hslot : y.seq.slot = x.seq.slot) :
    (∀ e, x.served = some e → ¬ (e.state = .queued ∧ e.cls.val ≤ 1) → y.served = some e)
      ∧ ∀ e, y.served = some e → x.served = some e ∧ ¬ (e.state = .queued ∧ e.cls.val ≤ 1) := by
  have hynodup : (y.seq.queue.map Entry.tag).Nodup := by
    rw [hqueue]
    exact hnodup.sublist (List.filter_sublist.map _)
  have hkept (e : Entry) : e ∈ y.seq.queue ↔ e ∈ x.seq.queue ∧ ¬ (e.state = .queued ∧ e.cls.val ≤ 1) := by
    rw [hqueue, List.mem_filter, decide_eq_true_eq]
    refine and_congr_right fun he => not_congr ⟨fun hmem => ?_, fun h => ?_⟩
    · obtain ⟨a, ha, htag⟩ := List.mem_map.mp hmem
      obtain ⟨haq, h⟩ := mem_sessionEntries.mp ha
      exact List.inj_on_of_nodup_map hnodup haq he htag ▸ h
    · exact List.mem_map_of_mem (mem_sessionEntries.mpr ⟨he, h⟩)
  unfold State.served
  rw [hslot]
  cases x.seq.slot with
  | none => exact ⟨nofun, nofun⟩
  | some v =>
    refine ⟨fun e he hnot => ?_, fun e he => ?_⟩
    · have hmem := (hkept e).mpr ⟨List.mem_of_find?_eq_some he, hnot⟩
      have hfound := entry_of_mem_nodup hynodup hmem
      rw [tag_of_entry he] at hfound
      exact hfound
    · have hmem := (hkept e).mp (List.mem_of_find?_eq_some he)
      have hfound := entry_of_mem_nodup hnodup hmem.1
      rw [tag_of_entry he] at hfound
      exact ⟨hfound, hmem.2⟩

/-- What becomes of the entry in the slot. -/
inductive ServedEnds (y : State) : State → Prop
  | stays (h : ∀ e, y.served = some e → 2 ≤ e.cls.val ∨ e.state = .queued) : ServedEnds y y
  | speaking (e : Entry) (v : Service) (he : y.served = some e) (hv : y.seq.slot = some v) (hs : e.state = .speaking) :
      ServedEnds y (y.onSeq fun q => { q with slot := some { v with removal := some (v.removal.getD .cancelled) } })
  | claiming (e : Entry) (he : y.served = some e) (hc : e.cls.val ≤ 1) (hs : e.state = .claiming) :
      ServedEnds y (leaveWith e .cancelled (emptySlot (withdraw y)))
  | showing (e : Entry) (he : y.served = some e) (hc : e.cls.val ≤ 1) (hs : e.state = .showing) :
      ServedEnds y (leaveWith e .cancelled (emptySlot y))

theorem served_slot {s : State} {e : Entry} (h : s.served = some e) : ∃ v, s.seq.slot = some v ∧ v.tag = e.tag ∧ s.entry e.tag = some e := by
  unfold State.served at h
  cases hv : s.seq.slot with
  | none =>
    rw [hv] at h
    nomatch h
  | some v =>
    rw [hv] at h
    have htag := tag_of_entry h
    exact ⟨v, rfl, htag.symm, by rw [htag]; exact h⟩

theorem removeServed_cases {y : State} (h : ∀ e, y.served = some e → ¬ (e.state = .queued ∧ e.cls.val ≤ 1)) :
    ServedEnds y (removeServed y) := by
  unfold removeServed
  split
  next e he =>
    split
    next hc =>
      obtain ⟨v, hv, -, hentry⟩ := served_slot he
      cases hs : e.state with
      | queued => exact absurd ⟨hs, hc⟩ (h e he)
      | claiming =>
        rw [removeEntry_claiming hentry hs]
        exact .claiming e he hc hs
      | showing =>
        rw [removeEntry_showing hentry hs]
        exact .showing e he hc hs
      | speaking =>
        rw [removeEntry_speaking hentry hs hv]
        exact .speaking e v he hv hs
    next hc =>
      refine .stays fun e' he' => ?_
      rw [he] at he'
      cases he'
      exact .inl (by omega)
  next he => exact .stays fun e he' => absurd (he.symm.trans he') nofun

theorem ServedEnds.leaves {y z : State} (h : ServedEnds y z) :
    Leaving (y.servedLeaves.map Entry.tag) (y.servedLeaves.flatMap endReport) y.servedLeaves.length y z := by
  have hone (e : Entry) (he : y.served = some e) (hleaves : e.cls.val ≤ 1 ∧ (e.state = .claiming ∨ e.state = .showing)) :
      y.servedLeaves = [e] := by
    unfold State.servedLeaves
    rw [he]
    exact if_pos hleaves
  have hnone (hall : ∀ e, y.served = some e → ¬ (e.cls.val ≤ 1 ∧ (e.state = .claiming ∨ e.state = .showing))) :
      y.servedLeaves = [] := by
    unfold State.servedLeaves
    split
    next e he => exact if_neg (hall e he)
    next => rfl
  cases h with
  | stays h =>
    rw [hnone fun e he ⟨hc, hs⟩ => (h e he).elim (fun h2 => by omega) fun hq => by simp [hq] at hs]
    exact .refl y
  | speaking e v he hv hs =>
    rw [hnone fun e' he' ⟨_, hs'⟩ => by
      rw [he] at he'
      cases he'
      simp [hs] at hs']
    exact
      { queue := by simp
        panel := by simp
        settled := rfl
        reports := fun _ _ => (List.append_nil _).symm
        count := Nat.le_refl 0 }
  | claiming e he hc hs =>
    rw [hone e he ⟨hc, .inl hs⟩]
    have hleft := leaving_of_leaveWith (x := y) (y := emptySlot (withdraw y)) e (by simp) (by simp) (by simp)
    simpa using hleft
  | showing e he hc hs =>
    rw [hone e he ⟨hc, .inr hs⟩]
    have hleft := leaving_of_leaveWith (x := y) (y := emptySlot y) e rfl rfl rfl
    simpa using hleft

/-! The awaiting records. -/

theorem answerAll_awaiting (tags : List Nat) (x : State) :
    let y := tags.foldl (fun acc tag => answerAwaiting tag .cleared acc) x
    y = { x with panel := { x.panel with awaiting := x.panel.awaiting.filter fun a => decide (a.tag ∉ tags) }, link := y.link }
      ∧ y.link.settled = x.link.settled
      ∧ (x.link.listening = true → x.link.reports.length + tags.length ≤ 16 →
          y.link.reports = x.link.reports ++ tags.map fun tag => .done tag .cleared) := by
  induction tags generalizing x with
  | nil =>
    refine ⟨?_, rfl, fun _ _ => (List.append_nil _).symm⟩
    have hall : x.panel.awaiting.filter (fun a => decide (a.tag ∉ ([] : List Nat))) = x.panel.awaiting := by simp
    rw [hall]
    rfl
  | cons tag tags ih =>
    obtain ⟨hbeside, hsettled, hreports⟩ := ih (answerAwaiting tag .cleared x)
    have hone : (answerAwaiting tag .cleared x).link.settled = x.link.settled :=
      congrArg Apart.link (answerAwaiting_apart tag .cleared x)
    dsimp only at hbeside hsettled hreports ⊢
    rw [List.foldl_cons]
    refine ⟨?_, hsettled.trans hone, fun hlistening hfits => ?_⟩
    · have hfilter : ((answerAwaiting tag .cleared x).panel.awaiting.filter fun a => decide (a.tag ∉ tags)) =
          x.panel.awaiting.filter fun a => decide (a.tag ∉ tag :: tags) := by
        rw [answerAwaiting_panel]
        refine (List.filter_filter ..).trans (List.filter_congr fun a _ => ?_)
        simp [Bool.and_comm]
      refine hbeside.trans ?_
      rw [hfilter]
      rfl
    · have hfirst : (answerAwaiting tag .cleared x).link.reports = x.link.reports ++ [.done tag .cleared] :=
        answerAwaiting_reports ⟨hlistening, by
          show x.link.reports.length < 16
          rw [List.length_cons] at hfits
          omega⟩ _ _
      rw [hreports ((listening_of_settled hone).trans hlistening) (by
        rw [hfirst, List.length_append, List.length_singleton]
        rw [List.length_cons] at hfits
        omega), hfirst, List.append_assoc]
      rfl

theorem clearAwaiting_eq (x : State) :
    clearAwaiting x = { x with panel := { x.panel with awaiting := [] }, link := (clearAwaiting x).link }
      ∧ (clearAwaiting x).link.settled = x.link.settled
      ∧ (x.link.listening = true → x.link.reports.length + x.panel.awaiting.length ≤ 16 →
          (clearAwaiting x).link.reports = x.link.reports ++ x.panel.awaiting.map fun a => .done a.tag .cleared) := by
  obtain ⟨hbeside, hsettled, hreports⟩ := answerAll_awaiting (x.panel.awaiting.map Awaiting.tag) x
  have hempty : x.panel.awaiting.filter (fun a => decide (a.tag ∉ x.panel.awaiting.map Awaiting.tag)) = [] :=
    List.filter_eq_nil_iff.mpr fun a ha => by simpa using ⟨a, ha, rfl⟩
  dsimp only at hbeside
  rw [hempty] at hbeside
  refine ⟨hbeside, hsettled, fun hlistening hfits => ?_⟩
  refine (hreports hlistening (by rw [List.length_map]; exact hfits)).trans ?_
  rw [List.map_map]
  rfl

end Sys2Proof.Machine
end

section
/-! SESSION_BEGIN and SESSION_END (R161, R166, R167). -/

namespace Sys2Proof.Machine
open Sys2Proof Host Safety

/-! What an end makes of the state, before the selection. -/

theorem lookUpPhase_cases (s : State) :
    ∃ n d, lookUpPhase s = { s with store := { s.store with readErrors := n }, display := d } := by
  unfold lookUpPhase
  split
  · exact ⟨s.store.readErrors, s.display, rfl⟩
  · exact ⟨_, _, rfl⟩

theorem endSession_eq (x : State) :
    ∃ n d, endSession x =
      { clearAwaiting (removeServed (removeQueued x)) with
        rem := { (clearAwaiting (removeServed (removeQueued x))).rem with
          slots := (clearAwaiting (removeServed (removeQueued x))).rem.slots.map keepPersistent }
        store := { (clearAwaiting (removeServed (removeQueued x))).store with readErrors := n }
        display := d
        panel := { (clearAwaiting (removeServed (removeQueued x))).panel with
          inSession := false
          language := (clearAwaiting (removeServed (removeQueued x))).link.config.defaultLanguage
          volume := (clearAwaiting (removeServed (removeQueued x))).link.config.defaultVolume
          lastCompleted := none } } := by
  unfold endSession
  generalize clearAwaiting (removeServed (removeQueued x)) = c
  dsimp only
  obtain ⟨n, d, hlook⟩ := lookUpPhase_cases (toDefaults ((clearSessionSlots c).onPanel fun p => { p with lastCompleted := none }))
  rw [hlook]
  exact ⟨n, d, rfl⟩

theorem removeQueued_apart (x : State) : (removeQueued x).apart = x.apart := by
  unfold removeQueued
  generalize x.sessionTags = tags
  induction tags generalizing x with
  | nil => rfl
  | cons tag tags ih => exact (ih _).trans (removeEntry_apart ..)

theorem removeServed_apart (x : State) : (removeServed x).apart = x.apart := by
  unfold removeServed
  (repeat' split)
  · exact removeEntry_apart ..
  · rfl
  · rfl

theorem clearAwaiting_apart (x : State) : (clearAwaiting x).apart = x.apart := by
  unfold clearAwaiting
  generalize x.panel.awaiting.map Awaiting.tag = tags
  induction tags generalizing x with
  | nil => rfl
  | cons tag tags ih => exact (ih _).trans (answerAwaiting_apart ..)

/-- What the end of a session has left: `z` after the entries have left, `w` once the rest is done. -/
structure SessionOver (x z w : State) : Prop where
  seq : w.seq = z.seq
  floor : w.floor = z.floor
  hall : w.hall = z.hall
  power : w.power = z.power
  repeats : w.panel.repeats = z.panel.repeats
  awaiting : w.panel.awaiting = []
  completed : w.panel.lastCompleted = none
  slots : w.rem.slots = x.rem.slots.map keepPersistent
  reports : z.link.listening = true → z.link.reports.length + z.panel.awaiting.length ≤ 16 →
    w.link.reports = z.link.reports ++ z.panel.awaiting.map fun a => .done a.tag .cleared

theorem endSession_over (x : State) :
    SessionOver x (removeServed (removeQueued x)) (endSession x)
      ∧ (∃ st, (endSession x).apart =
          { x.apart with rem := { x.rem with slots := x.rem.slots.map keepPersistent }, status := st })
      ∧ (endSession x).panel =
          { (removeServed (removeQueued x)).panel with
            inSession := false, language := x.link.config.defaultLanguage, volume := x.link.config.defaultVolume
            lastCompleted := none, awaiting := [] } := by
  obtain ⟨n, d, heq⟩ := endSession_eq x
  have hz : (removeServed (removeQueued x)).apart = x.apart := (removeServed_apart _).trans (removeQueued_apart x)
  have hcapart : (clearAwaiting (removeServed (removeQueued x))).apart = x.apart := (clearAwaiting_apart _).trans hz
  obtain ⟨hc, hsettled, hreports⟩ := clearAwaiting_eq (removeServed (removeQueued x))
  generalize removeServed (removeQueued x) = z at *
  generalize clearAwaiting z = c at *
  have hrem : c.rem = x.rem := congrArg Apart.rem hcapart
  have hlink : c.link.settled = x.link.settled := congrArg Apart.link hcapart
  have hconfig : c.link.config = x.link.config := (congrArg CueLink.config hlink : c.link.settled.config = _)
  have hpanel : c.panel = { z.panel with awaiting := [] } := by rw [hc]
  have happ : (endSession x).apart =
      { c.apart with rem := { c.rem with slots := c.rem.slots.map keepPersistent }, status := d.statusLine } := by
    rw [heq]
    rfl
  rw [hcapart, hrem] at happ
  refine ⟨?_, ⟨_, happ⟩, by rw [heq, hpanel, hconfig]⟩
  exact
    { seq := by rw [heq, hc]
      floor := by rw [heq, hc]
      hall := by rw [heq, hc]
      power := by rw [heq, hc]
      repeats := by rw [heq, hpanel]
      awaiting := by rw [heq, hpanel]
      completed := by rw [heq]
      slots := by rw [heq, hrem]
      reports := by rw [heq]; exact hreports }

/-! The clauses of an end. -/

theorem flatMap_endReport (l : List Entry) :
    l.flatMap endReport = (l.filter fun e => decide (e.origin = .machine)).map fun e => .done e.tag .cancelled := by
  induction l with
  | nil => rfl
  | cons e l ih =>
    rw [List.flatMap_cons, ih]
    unfold endReport
    by_cases h : e.origin = .machine <;> simp [h]

theorem mem_servedLeaves {s : State} {e : Entry} :
    e ∈ s.servedLeaves ↔ s.served = some e ∧ e.cls.val ≤ 1 ∧ (e.state = .claiming ∨ e.state = .showing) := by
  unfold State.servedLeaves
  cases s.served with
  | none => simp
  | some a =>
    dsimp only
    split
    next h =>
      constructor
      · intro he
        cases List.mem_singleton.mp he
        exact ⟨rfl, h⟩
      · rintro ⟨he, -⟩
        cases he
        exact List.mem_singleton_self _
    next h =>
      refine ⟨fun he => absurd he List.not_mem_nil, ?_⟩
      rintro ⟨he, hleaves⟩
      cases he
      exact absurd hleaves h

theorem served_mem {s : State} {e : Entry} (h : s.served = some e) : e ∈ s.seq.queue := by
  obtain ⟨v, -, -, he⟩ := served_slot h
  exact List.mem_of_find?_eq_some he

/-- All the entries that the end of a session removes, in their order. -/
def State.leavers (s : State) : List Entry := s.sessionEntries ++ s.servedLeaves

theorem mem_leavers {s : State} {e : Entry} (h : e ∈ s.leavers) : e ∈ s.seq.queue ∧ e.cls.val ≤ 1 := by
  rcases List.mem_append.mp h with h | h
  · exact ⟨(mem_sessionEntries.mp h).1, (mem_sessionEntries.mp h).2.2⟩
  · obtain ⟨he, hc, -⟩ := mem_servedLeaves.mp h
    exact ⟨served_mem he, hc⟩

theorem leavers_length (s : State) : s.leavers.length ≤ s.seq.queue.length := by
  unfold State.leavers
  rw [List.length_append]
  cases hl : s.servedLeaves with
  | nil => exact List.length_filter_le _ _
  | cons e l =>
    obtain ⟨he, hc, hs⟩ := mem_servedLeaves.mp (hl ▸ List.mem_cons_self : e ∈ s.servedLeaves)
    have hone : l = [] := by
      unfold State.servedLeaves at hl
      split at hl
      · split at hl
        · exact (List.cons.inj hl).2.symm
        · nomatch hl
      · nomatch hl
    have hlt : s.sessionEntries.length < s.seq.queue.length := by
      refine List.length_filter_lt_length_iff_exists.mpr ⟨e, served_mem he, ?_⟩
      rcases hs with hs | hs <;> simp [hs]
    rw [hone]
    exact hlt

theorem sessionEndReports_eq (s : State) :
    sessionEndReports s = s.leavers.flatMap endReport ++ s.panel.awaiting.map fun a => .done a.tag .cleared := by
  have hqueued : s.sessionEntries.flatMap endReport =
      (s.seq.queue.filter fun e => decide (e.state = .queued) && decide (e.cls.val ≤ 1) && decide (e.origin = .machine)).map
        fun e => .done e.tag .cancelled := by
    rw [flatMap_endReport, State.sessionEntries, List.filter_filter]
    refine congrArg (List.map _) (List.filter_congr fun e _ => ?_)
    exact Bool.and_comm _ _
  have hserved : s.servedLeaves.flatMap endReport =
      match s.served with
      | some e =>
        if e.cls.val ≤ 1 ∧ (e.state = .claiming ∨ e.state = .showing) ∧ e.origin = .machine then [.done e.tag .cancelled] else []
      | none => [] := by
    unfold State.servedLeaves
    cases s.served with
    | none => rfl
    | some e =>
      dsimp only
      unfold endReport
      by_cases hleaves : e.cls.val ≤ 1 ∧ (e.state = .claiming ∨ e.state = .showing)
      · simp [hleaves]
      · have hnot : ¬ (e.cls.val ≤ 1 ∧ (e.state = .claiming ∨ e.state = .showing) ∧ e.origin = .machine) :=
          fun h => hleaves ⟨h.1, h.2.1⟩
        rw [if_neg hleaves, if_neg hnot]
        rfl
  unfold State.leavers
  rw [List.flatMap_append]
  exact congrArg (· ++ s.panel.awaiting.map fun a => .done a.tag .cleared) (congrArg₂ (· ++ ·) hqueued hserved).symm

/-- The entries that have left, and what has become of the one in the slot. -/
theorem session_leaves {x : State} (hnodup : (x.seq.queue.map Entry.tag).Nodup) :
    ∃ q p l, Leaving (x.leavers.map Entry.tag) (x.leavers.flatMap endReport) x.leavers.length x (removeServed (removeQueued x))
      ∧ ServedEnds { x with seq := { x.seq with queue := q }, panel := p, link := l } (removeServed (removeQueued x))
      ∧ (∀ e, x.served = some e → ¬ (e.state = .queued ∧ e.cls.val ≤ 1) →
          ({ x with seq := { x.seq with queue := q }, panel := p, link := l } : State).served = some e) := by
  obtain ⟨hleaves, q, p, l, hbeside⟩ := removeQueued_leaves hnodup
  rw [hbeside] at hleaves ⊢
  obtain ⟨hfrom, hto⟩ := served_of_left (y := { x with seq := { x.seq with queue := q }, panel := p, link := l }) hnodup
    hleaves.queue rfl
  have hends := removeServed_cases fun e he => (hto e he).2
  generalize hy : ({ x with seq := { x.seq with queue := q }, panel := p, link := l } : State) = y at *
  have hserved : y.servedLeaves = x.servedLeaves := by
    unfold State.servedLeaves
    cases hxs : x.served with
    | some e =>
      by_cases hq : e.state = .queued ∧ e.cls.val ≤ 1
      · have hynone : y.served = none := by
          cases hys : y.served with
          | none => rfl
          | some e' =>
            obtain ⟨hx, hnot⟩ := hto e' hys
            rw [hxs] at hx
            cases hx
            exact absurd hq hnot
        rw [hynone]
        exact (if_neg (by simp [hq.1])).symm
      · rw [hfrom e hxs hq]
    | none =>
      cases hys : y.served with
      | none => rfl
      | some e' => exact absurd (hxs.symm.trans (hto e' hys).1) nofun
  have hboth := hleaves.trans hends.leaves
  rw [hserved, ← List.map_append, ← List.flatMap_append, ← List.length_append] at hboth
  exact ⟨q, p, l, hboth, hy ▸ hends, hy ▸ hfrom⟩

theorem sessionEnded_of_over {x z w : State} (hnodup : (x.seq.queue.map Entry.tag).Nodup) (hz : z = removeServed (removeQueued x))
    (hawake : w.power.mode ≠ .sleep) (hover : SessionOver x z w) : SessionEnded x (conclude w) := by
  obtain ⟨q, p, l, hleaves, hends, hfrom⟩ := session_leaves hnodup
  rw [← hz] at hleaves hends
  have hqueue : w.seq.queue = x.seq.queue.filter fun a => decide (a.tag ∉ x.leavers.map Entry.tag) := by
    rw [hover.seq, hleaves.queue]
  have hrepeats : (conclude w).panel.repeats = x.panel.repeats.filter fun r => decide (r.tag ∉ x.leavers.map Entry.tag) := by
    rw [conclude_panel, hover.repeats, hleaves.panel]
  have hgone (e : Entry) (he : e ∈ x.leavers) : w.entry e.tag = none ∧ ∀ r ∈ (conclude w).panel.repeats, r.tag ≠ e.tag := by
    refine ⟨List.find?_eq_none.mpr fun a ha htag => ?_, fun r hr htag => ?_⟩
    · rw [hqueue] at ha
      exact of_decide_eq_true (List.mem_filter.mp ha).2 (List.mem_map.mpr ⟨e, he, (of_decide_eq_true htag).symm⟩)
    · rw [hrepeats] at hr
      exact of_decide_eq_true (List.mem_filter.mp hr).2 (List.mem_map.mpr ⟨e, he, htag.symm⟩)
  have hslotgone (e : Entry) (he : e ∈ x.leavers) (hslot : w.seq.slot = none) (v : Service)
      (hv : (conclude w).seq.slot = some v) : v.tag ≠ e.tag := fun htag => by
    obtain ⟨a, ha, hatag⟩ := conclude_chosen_tag hslot hv
    have hsome := (entry_isSome_iff w e.tag).mpr ⟨a, ha, hatag.trans htag⟩
    rw [(hgone e he).1] at hsome
    exact absurd hsome nofun
  refine ⟨?_, ?_, fun n r hr => ?_, fun e he hqueued => ?_, fun e he hc => ?_, fun e he hqueued hc => ?_, fun e v he hv hc => ?_,
    fun hlistening hfits => ?_⟩
  · rw [conclude_panel]
    exact hover.completed
  · rw [conclude_panel]
    exact hover.awaiting
  · rw [conclude_rem, hover.slots, Four.get_map] at hr
    unfold keepPersistent at hr
    split at hr
    · split at hr
      next hpersistent =>
        cases hr
        exact hpersistent
      next => nomatch hr
    · nomatch hr
  · obtain ⟨g, hg, hmap⟩ := conclude_queue w
    rw [hmap] at he
    obtain ⟨a, ha, rfl⟩ := List.mem_map.mp he
    have htaken := hg a
    have hsame : g a = a := by
      generalize g a = b at htaken hqueued
      cases htaken with
      | same => rfl
      | _ => nomatch hqueued
    rw [hsame] at hqueued ⊢
    rw [hqueue] at ha
    obtain ⟨hmem, hnot⟩ := List.mem_filter.mp ha
    by_contra hlow
    exact of_decide_eq_true hnot (List.mem_map_of_mem (List.mem_append_left _ (mem_sessionEntries.mpr ⟨hmem, hqueued, by omega⟩)))
  · rw [entry_isSome_of_tags (conclude_tags w), entry_isSome_iff]
    refine ⟨e, ?_, rfl⟩
    rw [hqueue]
    refine List.mem_filter.mpr ⟨he, decide_eq_true fun hmem => ?_⟩
    obtain ⟨a, ha, htag⟩ := List.mem_map.mp hmem
    obtain ⟨haq, hac⟩ := mem_leavers ha
    rw [List.inj_on_of_nodup_map hnodup haq he htag] at hac
    omega
  · obtain ⟨hnone, hr⟩ := hgone e (List.mem_append_left _ (mem_sessionEntries.mpr ⟨he, hqueued, hc⟩))
    exact ⟨conclude_entry_none hnone, hr⟩
  · have hleaver (hs : e.state = .claiming ∨ e.state = .showing) : e ∈ x.leavers :=
      List.mem_append_right _ (mem_servedLeaves.mpr ⟨he, hc, hs⟩)
    have hserved (hs : e.state ≠ .queued) := hfrom e he fun h => hs h.1
    generalize hy : ({ x with seq := { x.seq with queue := q }, panel := p, link := l } : State) = y at *
    have hyslot : y.seq.slot = some v := by
      rw [← hy]
      exact hv
    have hsame {e' : Entry} (he' : y.served = some e') (hs : e.state ≠ .queued) : e = e' :=
      Option.some.inj ((hserved hs).symm.trans he')
    have hwslot (hs : e.state = .claiming ∨ e.state = .showing) : w.seq.slot = none := by
      have hne : e.state ≠ .queued := by rcases hs with hs | hs <;> rw [hs] <;> nofun
      rw [hover.seq]
      cases hends with
      | stays h => exact (h e (hserved hne)).elim (fun h2 => by omega) fun hq => absurd hq hne
      | speaking e' v' he' _ hs' =>
        rw [← hsame he' hne] at hs'
        simp [hs'] at hs
      | claiming e' => rw [leaveWith_seq, emptySlot_seq]
      | showing e' => rw [leaveWith_seq, emptySlot_seq]
    refine ⟨fun hs => ?_, fun hs => ?_, fun hs => ?_⟩
    · have hne : e.state ≠ .queued := by rw [hs]; nofun
      cases hends with
      | stays h => exact (h e (hserved hne)).elim (fun h2 => by omega) fun hq => absurd hq hne
      | speaking e' v' he' hv' hs' =>
        have hvv : v = v' := Option.some.inj (hyslot.symm.trans hv')
        have hstay := (conclude_of_slot (s := w) (by rw [hover.seq]; rfl)).1
        obtain ⟨-, -, -, hentry⟩ := served_slot (hserved hne)
        refine ⟨by rw [hstay, hover.seq, hvv]; rfl, ?_⟩
        unfold State.entry
        rw [hstay, hover.seq]
        exact hentry
      | claiming e' he' _ hs' =>
        rw [← hsame he' hne, hs] at hs'
        nomatch hs'
      | showing e' he' _ hs' =>
        rw [← hsame he' hne, hs] at hs'
        nomatch hs'
    · obtain ⟨hnone, hr⟩ := hgone e (hleaver hs)
      exact ⟨conclude_entry_none hnone, hr, hslotgone e (hleaver hs) (hwslot hs)⟩
    · have hne : e.state ≠ .queued := by rw [hs]; nofun
      cases hends with
      | stays h => exact (h e (hserved hne)).elim (fun h2 => by omega) fun hq => absurd hq hne
      | speaking e' v' he' hv' hs' =>
        rw [← hsame he' hne, hs] at hs'
        nomatch hs'
      | claiming e' he' _ hs' =>
        have hwithdrawn : ClaimWithdrawn y (conclude w) :=
          claimWithdrawn_of_withdraw hawake (by rw [hover.floor]; simp) (by rw [hover.hall]; simp)
        rw [← hy] at hwithdrawn
        exact hwithdrawn
      | showing e' he' _ hs' =>
        rw [← hsame he' hne, hs] at hs'
        nomatch hs'
  · have hlength := leavers_length x
    have hz' := hleaves.reports hlistening (by omega)
    have hcount := hleaves.count
    have hawaiting : z.panel.awaiting = x.panel.awaiting := by rw [hleaves.panel]
    rw [conclude_reports, hover.reports ((listening_of_settled hleaves.settled).trans hlistening)
      (by rw [hz', hawaiting, List.length_append]; omega), hz', hawaiting, sessionEndReports_eq, List.append_assoc]

/-! The cues. -/

theorem exec_session {s : State} (t : Nat) {p : List Byte} {c : SessionCue} (hready : CueReady s) (hlen : p.length = 2)
    (hfields : sessionFields p = some c) :
    ∃ pw d, StirredFrom (s.arrive t) pw d
      ∧ hearCue t s.keysDown 0x02#8 p [] s = .next (conclude (sessionTaken c ((s.arrive t).stirred pw d)).lock) := by
  have hcueLength : cueLength 0x02#8 = some p.length := by
    rw [hlen]
    rfl
  have hhandle (down : Keys Bool) (st : State) : handleCue down 0x02#8 p st = .taken (sessionTaken c st) := by
    show withFields (sessionFields p) (fun c => Handled.taken (sessionTaken c st)) = _
    rw [hfields]
    rfl
  obtain ⟨pw, d, hstirred, hhear⟩ := hearCue_handled (t := t) (down := s.keysDown) hready (by omega) hcueLength (hhandle _)
  exact ⟨pw, d, hstirred, hhear⟩

theorem sessionFields_begin {p : List Byte} (h : at1 p 0 = 1) (hl : at1 p 1 ≤ 3 ∨ at1 p 1 = 255) :
    sessionFields p = some (.begin_ (if at1 p 1 = 255 then none else some (at1 p 1))) := by
  unfold sessionFields
  rw [if_neg (by omega), if_pos h]
  split
  · rfl
  next hnot => rw [if_pos (hl.resolve_right hnot)]

/-- What a session cue leaves, where `w` has the blocks of `s` but for the reminders, the status line and the lock. -/
theorem session_kept {s w : State} {slots : Four (Option SlotRecord)} {st : Option PhaseIds × List Byte × Bool × Nat × Bool}
    (happ : w.apart = { s.apart with rem := { s.rem with slots := slots }, status := st }) :
    (conclude w.lock).floor.peers = s.floor.peers ∧ (conclude w.lock).link.locked = true
      ∧ (conclude w.lock).link.config = s.link.config ∧ LineKept s (conclude w.lock) ∧ EstimateKept s (conclude w.lock)
      ∧ StoreKept s (conclude w.lock) ∧ LevelKept s (conclude w.lock) ∧ SpeakerKept s (conclude w.lock) := by
  have hlock : w.lock.apart = { w.apart with link := { w.apart.link with locked := true } } := rfl
  rw [happ] at hlock
  have hlink := congrArg Apart.link ((conclude_apart w.lock).trans hlock)
  refine ⟨congrArg Apart.peers ((conclude_apart w.lock).trans hlock), conclude_locked w,
    (congrArg CueLink.config hlink : (conclude w.lock).link.settled.config = _), lineKept_conclude (by rw [hlock]),
    estimateKept_conclude ?_, storeKept_conclude (by rw [hlock]), levelKept_conclude (by rw [hlock]),
    speakerKept_conclude (by rw [hlock])⟩
  rw [show w.lock.rem = _ from congrArg Apart.rem hlock]
  exact ⟨rfl, rfl, rfl⟩

theorem SessionOver.lock {x z w : State} (h : SessionOver x z w) : SessionOver x z w.lock :=
  { h with }

theorem ServedEnds.power {y z : State} (h : ServedEnds y z) : z.power = y.power := by
  cases h with
  | stays | speaking => rfl
  | claiming => rw [leaveWith_power, emptySlot_power, withdraw_power]
  | showing => rw [leaveWith_power, emptySlot_power]

/-- What the end of a session makes of a stirred state. -/
theorem endSession_stirred {s : State} {t : Nat} {pw : Power} {d : Display} (hstirred : StirredFrom (s.arrive t) pw d)
    (hnodup : (s.seq.queue.map Entry.tag).Nodup) :
    (∀ w, SessionOver ((s.arrive t).stirred pw d) (removeServed (removeQueued ((s.arrive t).stirred pw d))) w → SessionEnded s (conclude w))
      ∧ (∃ rem st, (endSession ((s.arrive t).stirred pw d)).apart =
          { s.apart with rem := { s.rem with slots := rem }, status := st })
      ∧ ∃ rs, (endSession ((s.arrive t).stirred pw d)).panel =
          { s.panel with
            inSession := false, language := s.link.config.defaultLanguage, volume := s.link.config.defaultVolume
            lastCompleted := none, awaiting := [], repeats := rs } := by
  obtain ⟨hover, ⟨st, happ⟩, hpanel⟩ := endSession_over ((s.arrive t).stirred pw d)
  obtain ⟨q, p, l, hleaves, hends, -⟩ := session_leaves (x := (s.arrive t).stirred pw d) hnodup
  refine ⟨fun w hw => ?_, ⟨((s.arrive t).stirred pw d).rem.slots.map keepPersistent, st, ?_⟩,
    (removeServed (removeQueued ((s.arrive t).stirred pw d))).panel.repeats, ?_⟩
  · refine sessionEnded_of_over (x := (s.arrive t).stirred pw d) hnodup rfl ?_ hw
    rw [hw.power]
    have hpower : (removeServed (removeQueued ((s.arrive t).stirred pw d))).power = pw := hends.power
    rw [hpower, hstirred.mode]
    nofun
  · rw [happ, hstirred.apart]
    rfl
  · rw [hpanel, hleaves.panel]
    rfl

theorem beginSession_eq (language : Option Nat) (x : State) :
    ∃ n d, ∀ y, (if x.panel.inSession then endSession x else x) = y →
      beginSession language x =
        { y with
          store := { y.store with readErrors := n }
          display := d
          panel := { y.panel with
            inSession := true, volume := y.link.config.defaultVolume, language := y.startLanguage language } } := by
  unfold beginSession
  generalize (if x.panel.inSession then endSession x else x) = y
  dsimp only
  obtain ⟨n, d, hlook⟩ := lookUpPhase_cases (y.onPanel fun p =>
    { p with inSession := true, volume := y.link.config.defaultVolume, language := y.startLanguage language })
  refine ⟨n, d, ?_⟩
  rintro _ rfl
  rw [hlook]
  rfl

/-- The language that a session starts in (R193). -/
theorem startLanguage_eq {y : State} {config : Settings} (hconfig : y.link.config = config) {n : Nat} (hn : n ≤ 3 ∨ n = 255) :
    y.startLanguage (if n = 255 then none else some n) =
      if n ≤ 3 ∧ config.languages.get n = true then n else config.defaultLanguage := by
  unfold State.startLanguage
  rw [hconfig]
  by_cases h255 : n = 255
  · rw [if_pos h255, if_neg (by omega)]
  · rw [if_neg h255]
    simp only [hn.resolve_right h255, true_and]

/-- Settles O20. -/
theorem sessionsBeginAndEnd : Obligations.SessionsBeginAndEnd := by
  refine ⟨?_, ?_⟩
  · intro t p s hready hlen hbegin hlanguage hnodup
    obtain ⟨pw, d, hstirred, hexec⟩ := exec_session t hready hlen (sessionFields_begin hbegin hlanguage)
    refine ⟨_, hexec, ?_⟩
    obtain ⟨n, d', hbegun⟩ := beginSession_eq (if at1 p 1 = 255 then none else some (at1 p 1)) ((s.arrive t).stirred pw d)
    change ∀ y, (if s.panel.inSession then _ else _) = y → _ at hbegun
    by_cases hin : s.panel.inSession = true
    · obtain ⟨hended, ⟨slots, st, happ⟩, rs, hpanel⟩ := endSession_stirred hstirred hnodup
      have hover := (endSession_over ((s.arrive t).stirred pw d)).1
      replace hbegun := hbegun _ (if_pos hin)
      generalize hy : endSession ((s.arrive t).stirred pw d) = y at *
      generalize hw : sessionTaken (.begin_ (if at1 p 1 = 255 then none else some (at1 p 1))) ((s.arrive t).stirred pw d) = w
      replace hw := hw.symm.trans hbegun
      have hwapart : w.apart = { s.apart with rem := { s.rem with slots := slots }, status := d'.statusLine } := by
        have hblocks : w.apart = { y.apart with status := d'.statusLine } := by
          rw [hw]
          rfl
        rw [hblocks, happ]
      have hwover : SessionOver ((s.arrive t).stirred pw d) (removeServed (removeQueued ((s.arrive t).stirred pw d))) w := by
        rw [hw]
        exact { hover with }
      obtain ⟨hpeers, hlocked, hconfig, hrest⟩ := session_kept hwapart
      have hyconfig : y.link.config = s.link.config :=
        (congrArg CueLink.config (congrArg Apart.link happ : y.link.settled = _) : y.link.settled.config = _)
      have hupanel : (conclude w.lock).panel =
          { s.panel with
            inSession := true, volume := s.link.config.defaultVolume
            language := if at1 p 1 ≤ 3 ∧ s.link.config.languages.get (at1 p 1) = true then at1 p 1
              else s.link.config.defaultLanguage
            lastCompleted := none, awaiting := [], repeats := rs } := by
        rw [conclude_panel, ← startLanguage_eq hyconfig hlanguage, ← hyconfig, hw]
        show ({ y.panel with inSession := true, volume := _, language := _ } : Panel) = _
        rw [hpanel]
      exact ⟨by rw [hupanel], by rw [hupanel], by rw [hupanel],
        fun _ => hended _ hwover.lock, fun hnot => absurd (hin.symm.trans hnot) nofun, by rw [hupanel], hpeers,
        hlocked, hconfig, by rw [hupanel], by rw [hupanel], hrest⟩
    · replace hbegun := hbegun _ (if_neg hin)
      generalize hw : sessionTaken (.begin_ (if at1 p 1 = 255 then none else some (at1 p 1))) ((s.arrive t).stirred pw d) = w
      replace hw := hw.symm.trans hbegun
      have hwapart : w.apart =
          { s.apart with rem := { s.rem with slots := (s.arrive t).restartedSlots }, status := d'.statusLine } := by
        have hblocks : w.apart = { ((s.arrive t).stirred pw d).apart with status := d'.statusLine } := by
          rw [hw]
          rfl
        rw [hblocks, hstirred.apart]
        rfl
      obtain ⟨hpeers, hlocked, hconfig, hrest⟩ := session_kept hwapart
      have hupanel : (conclude w.lock).panel =
          { s.panel with
            inSession := true, volume := s.link.config.defaultVolume
            language := if at1 p 1 ≤ 3 ∧ s.link.config.languages.get (at1 p 1) = true then at1 p 1
              else s.link.config.defaultLanguage } := by
        rw [conclude_panel, ← startLanguage_eq (y := (s.arrive t).stirred pw d) (config := s.link.config) rfl hlanguage, hw]
        rfl
      refine ⟨by rw [hupanel], by rw [hupanel], by rw [hupanel],
        fun hyes => absurd hyes hin, fun _ => ⟨conclude_queueKept (queueKept_of_seq ?_), conclude_reportsKept ?_, conclude_viewKept ?_,
          by rw [hupanel], by rw [hupanel], by rw [hupanel], fun m r hm hr hmode => ?_⟩,
        by rw [hupanel], hpeers, hlocked, hconfig, by rw [hupanel], by rw [hupanel], hrest⟩
      · rw [hw]
        rfl
      · rw [hw]
        exact ⟨rfl, rfl, rfl⟩
      · rw [hw]
        rfl
      · have hslots : (conclude w.lock).rem.slots = (s.arrive t).restartedSlots := by
          rw [conclude_rem, hw]
          rfl
        rw [hslots]
        unfold State.restartedSlots
        rw [Four.get_map, show (s.arrive t).rem.slots.get m = some r from hr]
        unfold SlotRecord.restarted
        rw [Option.map_some, if_neg hmode]
  · intro t p s hready hlen hend hnodup
    obtain ⟨pw, d, hstirred, hexec⟩ := exec_session (c := .end_) t hready hlen (if_pos hend)
    obtain ⟨hended, ⟨slots, st, happ⟩, rs, hpanel⟩ := endSession_stirred hstirred hnodup
    obtain ⟨hpeers, hlocked, hconfig, hrest⟩ := session_kept happ
    have hover := (endSession_over ((s.arrive t).stirred pw d)).1
    have hupanel : (conclude (sessionTaken .end_ ((s.arrive t).stirred pw d)).lock).panel = _ := (conclude_panel _).trans hpanel
    exact ⟨_, hexec, by rw [hupanel], by rw [hupanel], by rw [hupanel],
      hended _ hover.lock, by rw [hupanel], hpeers, hlocked, hconfig, by rw [hupanel],
      by rw [hupanel], hrest⟩

end Sys2Proof.Machine
end

section
/-! A service that starts (R22, R28, R118, R127, R139, R141, R183): its text on line 1, its level, its output or its warm-up. -/

namespace Sys2Proof.Machine
open Sys2Proof Host Safety

/-! The text posted. -/

theorem joinSpaced_eq (ws : List (List Byte)) : joinSpaced ws = [spaceChar].intercalate ws := by
  induction ws with
  | nil => rfl
  | cons w ws ih =>
    cases ws with
    | nil => simp [joinSpaced]
    | cons w' ws =>
      rw [joinSpaced, ih, List.intercalate_cons_cons]
      nofun

theorem joinSpaced_ne_nil {ws : List (List Byte)} (hne : ws ≠ []) (hws : ∀ w ∈ ws, w ≠ []) : joinSpaced ws ≠ [] := by
  cases ws with
  | nil => exact absurd rfl hne
  | cons w ws =>
    have hw := hws w List.mem_cons_self
    cases ws with
    | nil => exact hw
    | cons w' ws => simp [joinSpaced, hw]

theorem assembleText_eq (cls : Cls) (pieces : List Piece) : assembleText cls pieces = textOf cls pieces := by
  have hws : ∀ w ∈ (pieces.map Piece.chars).filter (· ≠ []), w ≠ [] := fun w hw => of_decide_eq_true (List.mem_filter.mp hw).2
  unfold assembleText textOf
  generalize (pieces.map Piece.chars).filter (· ≠ []) = ws at hws ⊢
  dsimp only
  by_cases hnil : ws = []
  · rw [hnil]
    rfl
  · have hne : (joinSpaced ws).take Config.textLimit ≠ [] := by
      rw [Ne, List.take_eq_nil_iff]
      exact not_or.mpr ⟨by decide, joinSpaced_ne_nil hnil hws⟩
    rw [if_neg hne, if_neg hnil, joinSpaced_eq]
    rfl

theorem postedText_eq (s : State) (e : Entry) (kind : Kind) (script : Script) : s.postedText e kind script = textPosted s e kind script := by
  unfold State.postedText textPosted
  cases kind with
  | silent =>
    dsimp only
    rw [assembleText_eq]
    split <;> rfl
  | audible route =>
    cases route with
    | speech =>
      dsimp only
      rw [assembleText_eq]
    | _ => rfl

theorem activity_line1 (s : State) :
    (activity s).display.text = s.display.text ∧ (s.display.blink = .steady → (activity s).display.blink = .steady) := by
  have hmode : (setMode .active s).display.text = s.display.text
      ∧ (s.display.blink = .steady → (setMode .active s).display.blink = .steady) := by
    unfold setMode
    split
    · exact ⟨rfl, id⟩
    · refine ⟨rfl, fun h => ?_⟩
      show s.display.blink.restart s.now = .steady
      rw [h]
      rfl
  unfold activity
  split
  · exact ⟨rfl, id⟩
  · exact hmode

/-- The display once a text has been posted, or left. -/
structure TextPosted (text : Option (List Byte)) (cls : Cls) (now : Nat) (d d' : Display) : Prop where
  posts : ∀ chars, text = some chars → d'.text = some ⟨chars, cls⟩
    ∧ d'.line1Scroll = (if chars.length ≤ 20 then ⟨0, none⟩ else ⟨0, some ⟨⟨now + 1000, 1000⟩, ⟨now + 1000, 1000⟩⟩⟩)
    ∧ d'.blink = postedBlink now cls
  leaves : text = none → d' = d

theorem postText_cases (text : Option (List Byte)) (cls : Cls) (s : State) :
    ∃ d, postText text cls s = { s with display := d } ∧ TextPosted text cls s.now s.display d := by
  unfold postText
  cases text with
  | none => exact ⟨s.display, rfl, nofun, fun _ => rfl⟩
  | some chars =>
    refine ⟨_, rfl, ?_, nofun⟩
    rintro _ ⟨⟩
    exact ⟨rfl, rfl, rfl⟩

/-! The output begun, and the warm-up. -/

theorem applyLevel_speech (r : LevelResult) (s : State) : (applyLevel r s).speech = s.speech := by
  unfold applyLevel
  dsimp only
  split
  · rfl
  · rfl

theorem chimeFor_ofService (e : Entry) (route : Route) (script : Script) (r : LevelResult) (id step start stepStart : Nat) :
    ChimeOfService e route script r id { chimeFor e route script r id with step := step, start := start, stepStart := stepStart } := by
  refine ⟨rfl, ?_, rfl, rfl, ?_⟩
  · cases route <;> rfl
  · show chimeMuted e route script = true ↔ _
    simp [chimeMuted, and_assoc]

theorem routeDevice_piezo (route : Route) : routeDevice route = .piezo ↔ route = .piezo := by
  cases route <;> simp [routeDevice]

/-- What stands at the start of a service. -/
def State.atStart (s : State) := (s.power.amp, s.level, s.link.latches, s.speech, s.tone)

theorem atStart_fields {s st : State} (h : st.atStart = s.atStart) :
    st.power.amp = s.power.amp ∧ st.level = s.level ∧ st.link.latches = s.link.latches ∧ st.speech = s.speech ∧ st.tone = s.tone := by
  simpa [State.atStart] using h

theorem levelApplied_of_atStart {s st u : State} {r : LevelResult} (hat : st.atStart = s.atStart)
    (hlevel : u.level = (applyLevel r st).level) (hlink : u.link = (applyLevel r st).link) : LevelApplied r s u := by
  obtain ⟨-, hslevel, hslatches, -⟩ := atStart_fields hat
  obtain ⟨hgain, hmasked⟩ := applyLevel_level r st
  unfold LevelApplied
  rw [hlevel, hlink, ← hslevel, ← hslatches]
  exact ⟨hgain, hmasked, applyLevel_latches r st⟩

/-- The output begun: its level applied, and the chime or the first item started. -/
theorem beginOutput_begun {s st : State} (e : Entry) (route : Route) (script : Script) (r : LevelResult) (hat : st.atStart = s.atStart) :
    OutputBegun e route script r s (beginOutput e route script r st)
      ∧ (beginOutput e route script r st).display =
          { st.display with blink := blinkAfter st.now r st.display.text st.display.blink } := by
  obtain ⟨-, hslevel, hslatches, hsspeech, hstone⟩ := atStart_fields hat
  obtain ⟨-, -, htone, hnow⟩ := applyLevel_rest r st
  have hspeech := applyLevel_speech r st
  have hdisplay := applyLevel_display r st
  cases hchime : script.chime with
  | some id =>
    have hbegun : beginOutput e route script r st =
        playChime (chimeFor e route script r id) (changeService (fun v => { v with pendingLevel := none }) (applyLevel r st)) := by
      unfold beginOutput
      rw [hchime]
    rw [hbegun]
    refine ⟨⟨levelApplied_of_atStart hat rfl rfl, fun id' hid => ?_, fun hnone => absurd (hchime.symm.trans hnone) nofun⟩, hdisplay⟩
    obtain rfl : id = id' := Option.some.inj (hchime.symm.trans hid)
    refine ⟨⟨_, rfl, chimeFor_ofService .., rfl, rfl, rfl⟩, hspeech.trans hsspeech, ?_⟩
    show (if routeDevice route = .piezo then ClickVoice.idle else (applyLevel r st).tone.click) = _
    rw [htone, hstone]
    simp only [routeDevice_piezo]
  | none =>
    have hbegun : beginOutput e route script r st =
        startItem script.items 0 (changeService (fun v => { v with pendingLevel := none }) (applyLevel r st)) := by
      unfold beginOutput
      rw [hchime]
    rw [hbegun]
    obtain ⟨x, hx⟩ := startItem_cases script.items 0 (changeService (fun v => { v with pendingLevel := none }) (applyLevel r st))
    refine ⟨⟨?_, fun id' hid => absurd (hchime.symm.trans hid) nofun, fun _ => ⟨?_, fun y hy => ?_⟩⟩, ?_⟩
    · rw [hx]
      exact levelApplied_of_atStart hat rfl rfl
    · rw [hx]
      exact htone.trans hstone
    · rw [startItem_of_some hy]
      rfl
    · rw [hx]
      exact hdisplay

/-- The warm-up begun: the level and the chime wait for its end. -/
theorem beginWarmUp_begun {s st : State} (e : Entry) (route : Route) (script : Script) (r : LevelResult) (hat : st.atStart = s.atStart) :
    WarmUpBegun e route script r s (beginWarmUp e route script r st)
      ∧ (beginWarmUp e route script r st).display = st.display
      ∧ (beginWarmUp e route script r st).power.mode = st.power.mode := by
  obtain ⟨-, hslevel, hslatches, hsspeech, hstone⟩ := atStart_fields hat
  have hclick : st.tone.click = s.tone.click := by rw [hstone]
  have hchimes : st.tone.chime = s.tone.chime := by rw [hstone]
  have hwaits : LevelWaits s st := by
    unfold LevelWaits
    rw [hslevel, hslatches]
    exact ⟨rfl, rfl, rfl⟩
  cases hchime : script.chime with
  | some id =>
    have hbegun : beginWarmUp e route script r st =
        awaitChime (chimeFor e route script r id) (changeService (fun v => { v with pendingLevel := some r })
          (st.onPower fun p => { p with amp := .warming (st.after Config.warmUp) })) := by
      unfold beginWarmUp
      rw [hchime]
    rw [hbegun]
    refine ⟨⟨hwaits, rfl, hsspeech, hclick, fun id' hid => ?_,
      fun hnone => absurd (hchime.symm.trans hnone) nofun⟩, rfl, rfl⟩
    obtain rfl : id = id' := Option.some.inj (hchime.symm.trans hid)
    exact ⟨_, rfl, chimeFor_ofService e route script r id 0 0 0⟩
  | none =>
    have hbegun : beginWarmUp e route script r st = changeService (fun v => { v with pendingLevel := some r })
          (st.onPower fun p => { p with amp := .warming (st.after Config.warmUp) }) := by
      unfold beginWarmUp
      rw [hchime]
    rw [hbegun]
    exact ⟨⟨hwaits, rfl, hsspeech, hclick, fun id hid => absurd (hchime.symm.trans hid) nofun,
      fun _ => hchimes⟩, rfl, rfl⟩

/-! The level of the moment. -/

theorem levelNow_of_besideOutput {s u : State} (h : u.besideOutput = s.besideOutput) (henv : u.env = s.env) (cls : Cls) :
    levelNow u cls = levelNow s cls := by
  have hhall := State.hall_eq_of_besideOutput h
  have hfloor := State.floor_eq_of_besideOutput h
  have hout := State.outside_eq_of_besideOutput h
  have hstraps : u.straps = s.straps := congrArg (fun x => x.2.2.1) henv
  have hpanel : u.panel = s.panel := congrArg (fun x => x.2.2.1) hout
  have hsampling : u.level.sampling = s.level.sampling := congrArg (fun x => x.2.2.2.2.2.2.1) hout
  have hring : u.level.ring = s.level.ring := congrArg Prod.fst hsampling
  have hquiet : u.level.quiet = s.level.quiet := congrArg (fun x => x.2.2) hsampling
  have hadj : u.nAdj = s.nAdj := by
    unfold State.nAdj State.liveClaims State.peerClaims
    rw [hhall, hfloor, hstraps]
  unfold levelNow
  rw [hring, hquiet, hpanel, hadj]

end Sys2Proof.Machine
end

section
/-! A service that starts, as the statements give it (`ServiceStarted`, `SilentStarted`). -/

namespace Sys2Proof.Machine
open Sys2Proof Host Safety

/-- The state on which a service of `tag` begins: its entry in service, the activity counted, its text posted. -/
theorem posted_cases {st : State} {tag : Nat} (f : Entry → Entry) (text : State → Option (List Byte)) (cls : Cls)
    (hawake : st.power.mode ≠ .sleep) :
    ∃ p d d', activity (changeEntry tag f st) = { changeEntry tag f st with power := p, display := d }
      ∧ postText (text (activity (changeEntry tag f st))) cls (activity (changeEntry tag f st)) =
          { changeEntry tag f st with power := p, display := d' }
      ∧ p.mode = .active ∧ p.amp = st.power.amp ∧ d.text = st.display.text
      ∧ (st.display.blink = .steady → d.blink = .steady)
      ∧ TextPosted (text (activity (changeEntry tag f st))) cls st.now d d' := by
  obtain ⟨p, d, hact, hmode, hlasting, -⟩ := activity_cases (s := changeEntry tag f st) hawake
  obtain ⟨htext, hblink⟩ := activity_line1 (changeEntry tag f st)
  obtain ⟨d', hpost, hposted⟩ := postText_cases (text (activity (changeEntry tag f st))) cls (activity (changeEntry tag f st))
  refine ⟨p, d, d', hact, ?_, hmode, congrArg (fun x => x.2.1) hlasting, ?_, ?_, ?_⟩
  · rw [hpost, hact]
  · rw [hact] at htext
    exact htext
  · rw [hact] at hblink
    exact hblink
  · rw [hact] at hposted ⊢
    exact hposted

theorem textStands_of_posted {text : Option (List Byte)} {cls : Cls} {s u : State} {d d' : Display}
    (h : TextPosted text cls u.now d d') (hd : d.text = s.display.text) (htext : u.display.text = d'.text)
    (hscroll : u.display.line1Scroll = d'.line1Scroll) : TextStands text cls s u := by
  refine ⟨fun chars hchars => ?_, fun hnone => ?_⟩
  · obtain ⟨hd', hs', -⟩ := h.posts chars hchars
    exact ⟨htext.trans hd', hscroll.trans hs'⟩
  · rw [htext, h.leaves hnone, hd]

/-- What a service that starts sounding shows and drives. -/
theorem startAudible_started {s st : State} {tag : Nat} {e : Entry} {v : Service} {route : Route} (hawake : st.power.mode ≠ .sleep)
    (hat : st.atStart = s.atStart) (hdisplay : st.display = s.display) (he : st.entry tag = some e) (hslot : st.seq.slot = some v) :
    ServiceStarted e route v s (startAudible tag route v.script st) := by
  obtain ⟨p, d, d', hact, hpost, hmode, hamp, hdtext, hdblink, hposted⟩ :=
    posted_cases (tag := tag) (fun x => { x with state := .speaking, deadline := none })
      (fun x => x.postedText e (.audible route) v.script) e.cls hawake
  rw [postedText_eq] at hposted
  have hsamp : st.power.amp = s.power.amp := (atStart_fields hat).1
  rw [hdisplay] at hdtext hdblink
  generalize hs2 : ({ changeEntry tag (fun x => { x with state := .speaking, deadline := none }) st with power := p, display := d' } : State) = s2
    at hpost
  have hat2 : s2.atStart = s.atStart := by
    rw [← hs2, ← hat]
    unfold State.atStart
    rw [hamp]
    rfl
  have hnow2 : s2.now = st.now := by rw [← hs2]; rfl
  have hslot2 : s2.seq.slot = some v := by rw [← hs2]; exact hslot
  have hdisplay2 : s2.display = d' := by rw [← hs2]
  have hpower2 : s2.power = p := by rw [← hs2]
  have htextposted (w : State) : textPosted w e (.audible route) v.script = textPosted s e (.audible route) v.script := by
    cases route <;> rfl
  rw [htextposted] at hposted
  have hwarms : s2.needsWarmUp route = true ↔ route ≠ .piezo ∧ s.power.amp ≠ .on := by
    simp [State.needsWarmUp, State.ampOff, hpower2, hamp, hsamp]
  have hstart : startAudible tag route v.script st =
      if s2.needsWarmUp route = true then beginWarmUp e route v.script (levelNow s2 e.cls) s2
      else beginOutput e route v.script (levelNow s2 e.cls) s2 := by
    unfold startAudible
    rw [he]
    dsimp only
    rw [hpost]
    rfl
  have hsteady : textPosted s e (.audible route) v.script = none → s.display.blink = .steady → d'.blink = .steady :=
    fun hnone hb => by
      rw [hposted.leaves hnone]
      exact hdblink hb
  have hblinks : textPosted s e (.audible route) v.script ≠ none → d'.blink = postedBlink st.now e.cls := fun hsome => by
    obtain ⟨chars, hchars⟩ := Option.ne_none_iff_exists'.mp hsome
    exact (hposted.posts chars hchars).2.2
  rw [hstart]
  by_cases hwarm : route ≠ .piezo ∧ s.power.amp ≠ .on
  · rw [if_pos (hwarms.mpr hwarm)]
    have hlevel := levelNow_of_besideOutput (beginWarmUp_besideOutput e route v.script (levelNow s2 e.cls) s2)
      (beginWarmUp_env e route v.script (levelNow s2 e.cls) s2) e.cls
    obtain ⟨hbegun, hwdisplay, hwmode⟩ := beginWarmUp_begun (s := s) e route v.script (levelNow s2 e.cls) hat2
    have hwslot : (beginWarmUp e route v.script (levelNow s2 e.cls) s2).seq.slot =
        some { v with pendingLevel := some (levelNow s2 e.cls) } := by
      rw [beginWarmUp_seq, hslot2]
      rfl
    have hwnow : (beginWarmUp e route v.script (levelNow s2 e.cls) s2).now = st.now :=
      (congrArg Prod.fst (beginWarmUp_env e route v.script (levelNow s2 e.cls) s2)).trans hnow2
    generalize beginWarmUp e route v.script (levelNow s2 e.cls) s2 = w at *
    rw [hdisplay2] at hwdisplay
    refine ⟨?_, ?_, fun _ _ => ⟨?_, ?_, fun hsome => ?_⟩, fun hnot => ?_, fun hnone _ hb => ?_⟩
    · rw [hwmode, hpower2, hmode]
    · exact textStands_of_posted (hwnow ▸ hposted) hdtext (by rw [hwdisplay]) (by rw [hwdisplay])
    · rw [hlevel]
      exact hwslot
    · rw [hlevel]
      exact hbegun
    · rw [hwdisplay, hwnow]
      exact hblinks hsome
    · exact absurd hnot (not_or.mpr hwarm)
    · rw [hwdisplay]
      exact hsteady hnone hb
  · rw [if_neg (mt hwarms.mp hwarm)]
    have hlevel := levelNow_of_besideOutput (beginOutput_besideOutput e route v.script (levelNow s2 e.cls) s2)
      (beginOutput_env e route v.script (levelNow s2 e.cls) s2) e.cls
    obtain ⟨hbegun, hwdisplay⟩ := beginOutput_begun (s := s) e route v.script (levelNow s2 e.cls) hat2
    have hwslot : (beginOutput e route v.script (levelNow s2 e.cls) s2).seq.slot = some { v with pendingLevel := none } := by
      rw [beginOutput_seq, hslot2]
      rfl
    have hwpower := beginOutput_power e route v.script (levelNow s2 e.cls) s2
    have hwnow : (beginOutput e route v.script (levelNow s2 e.cls) s2).now = st.now :=
      (congrArg Prod.fst (beginOutput_env e route v.script (levelNow s2 e.cls) s2)).trans hnow2
    generalize beginOutput e route v.script (levelNow s2 e.cls) s2 = w at *
    rw [hdisplay2, hnow2] at hwdisplay
    refine ⟨?_, ?_, fun hroute hoff => absurd ⟨hroute, hoff⟩ hwarm, fun _ => ⟨hwslot, ?_, ?_, fun hsome => ?_⟩, fun hnone ht hb => ?_⟩
    · rw [hwpower, hpower2, hmode]
    · exact textStands_of_posted (hwnow ▸ hposted) hdtext (by rw [hwdisplay]) (by rw [hwdisplay])
    · rw [hwpower, hpower2, hamp, hsamp]
    · rw [hlevel]
      exact hbegun
    · rw [hlevel, hwdisplay, hwnow, ← hblinks hsome]
    · rw [hwdisplay]
      show blinkAfter _ _ d'.text d'.blink = _
      rw [hsteady hnone hb, hposted.leaves hnone, hdtext, ht]
      unfold blinkAfter
      split <;> rfl

/-- What a silent service that starts shows. -/
theorem startSilent_started {s st : State} {tag : Nat} {e : Entry} {v : Service} {sc : Script} (hawake : st.power.mode ≠ .sleep)
    (hat : st.atStart = s.atStart) (hdisplay : st.display = s.display) (hstore : st.store.state = s.store.state) (hfloor : st.floor = s.floor)
    (hlist : s.hall.recovery ≠ .waiting → st.hall.txList = s.hall.txList) (he : st.entry tag = some e)
    (hv : v = { chosenService tag .silent sc with silentEnd := some (st.after Config.silentService) }) :
    SilentStarted e v s (startSilent tag sc st) := by
  obtain ⟨p, d, d', hact, hpost, hmode, hamp, hdtext, hdblink, hposted⟩ :=
    posted_cases (tag := tag) (fun x => { x with state := .showing, deadline := none })
      (fun x => x.postedText e .silent sc) e.cls hawake
  rw [postedText_eq] at hposted
  obtain ⟨hsamp, hslevel, hslatches, hsspeech, hstone⟩ := atStart_fields hat
  rw [hdisplay] at hdtext
  have htextposted : textPosted (activity (changeEntry tag (fun x => { x with state := .showing, deadline := none }) st)) e .silent sc =
      textPosted s e .silent sc := by
    rw [hact]
    show some (if st.store.state = .ready then _ else _) = _
    rw [hstore]
    rfl
  rw [htextposted] at hposted
  have hstart : startSilent tag sc st =
      changeService (fun v => { v with silentEnd := some (st.after Config.silentService) })
        { changeEntry tag (fun x => { x with state := .showing, deadline := none }) st with power := p, display := d' } := by
    unfold startSilent
    rw [he]
    dsimp only
    rw [hpost]
  have hsome : ∃ chars, textPosted s e .silent sc = some chars := ⟨_, rfl⟩
  obtain ⟨chars, hchars⟩ := hsome
  rw [hstart, hv]
  refine ⟨hmode, rfl, rfl, textStands_of_posted hposted hdtext rfl rfl, (hposted.posts chars hchars).2.2, ?_, hsspeech, hstone,
    hamp.trans hsamp, hfloor, hlist⟩
  show st.level.lastG = _ ∧ st.level.maskedPhrases = _ ∧ st.link.latches = _
  rw [hslevel, hslatches]
  exact ⟨rfl, rfl, rfl⟩

/-- What a service has set stands once the step has ended. -/
theorem serviceStarted_of_besideHolds {s u w : State} {e : Entry} {v : Service} {route : Route} (h : u.besideHolds = w.besideHolds)
    (hw : ServiceStarted e route v s w) : ServiceStarted e route v s u := by
  have hheld : ServiceStarted e route v s w.besideHolds := hw
  rw [← h] at hheld
  exact hheld

theorem silentStarted_of_besideHolds {s u w : State} {e : Entry} {v : Service} (h : u.besideHolds = w.besideHolds)
    (hw : SilentStarted e v s w) : SilentStarted e v s u := by
  have hheld : SilentStarted e v s w.besideHolds := hw
  rw [← h] at hheld
  exact hheld

end Sys2Proof.Machine
end

section
/-! The selection of the first entry that may be selected (R17, R18), and the frame of what follows a step. -/

namespace Sys2Proof.Machine
open Sys2Proof Host Safety

theorem eligible_startWaitingRecovery (s : State) (e : Entry) : (startWaitingRecovery s).eligible e = s.eligible e := by
  obtain ⟨x, l, h, hopen⟩ := startWaitingRecovery_onHall s
  rw [h, eligible_onHall hopen]

/-- The state from which the selection serves an entry: the asking's instant noted, the slot filled, the composition counted. -/
def State.filled (s : State) (e : Entry) : State :=
  fillSlot e.tag (s.kindFor e) (s.compose e (s.kindFor e)) (startWaitingRecovery s).asking

theorem kindFor_onHall (s : State) (x : Recovery) (l : List TxEntry) (e : Entry) :
    ((s.onHall fun p => { p with recovery := x, txList := l }).asking).kindFor e = s.kindFor e := rfl

theorem lookup_congr {s y : State} (hnow : y.now = s.now) (hstore : y.store = s.store) (hpanel : y.panel = s.panel)
    (hlink : y.link = s.link) : y.lookup = s.lookup := by
  funext id piece
  unfold State.lookup State.lookupIn
  rw [hnow, hstore, hpanel, hlink]

/-- A script is composed from the store, the language, the station, the estimate, the view and the amplifier alone. -/
theorem compose_congr {s y : State} (hnow : y.now = s.now) (hstore : y.store = s.store) (hpanel : y.panel = s.panel)
    (hlink : y.link = s.link) (hrem : y.rem = s.rem) (hhall : y.hall.state = s.hall.state) (hstraps : y.straps = s.straps)
    (hfloor : y.floor = s.floor) (hpower : y.power = s.power) : y.compose = s.compose := by
  have hphrase : y.expandPhrase = s.expandPhrase := by
    funext piece id
    unfold State.expandPhrase
    rw [lookup_congr hnow hstore hpanel hlink]
  have hstation : y.expandStation = s.expandStation := by
    unfold State.expandStation
    rw [hphrase, hhall, hstraps]
  have hsource : y.source = s.source := by
    funext e src
    cases src with
    | estimate => exact congrArg ReminderUnit.estimate hrem
    | _ => rfl
  have hitems : y.expandItems = s.expandItems := by
    funext e items
    unfold State.expandItems
    refine congrArg Expansion.concat (List.map_congr_left fun x _ => ?_)
    unfold State.expandItem
    rw [hphrase, hstation, hsource]
  have htemplate : y.templateFor = s.templateFor := by
    funext e
    unfold State.templateFor State.readTemplate
    rw [hnow, hstore]
  have hannounces : y.announcesStation = s.announcesStation := by
    funext t
    unfold State.announcesStation State.busyOpen
    rw [hhall, hlink, hfloor, hstraps, hnow]
  have hoff : y.ampOff = s.ampOff := by
    unfold State.ampOff
    rw [hpower]
  funext e kind
  unfold State.compose State.composeSpeech State.composeFallback State.composePiezo
  rw [hitems, hstation, htemplate, hannounces, hoff, hstore]

theorem compose_onHall (s : State) (x : Recovery) (l : List TxEntry) (e : Entry) (kind : Kind) :
    ((s.onHall fun p => { p with recovery := x, txList := l }).asking).compose e kind = s.compose e kind := by
  have hsame := compose_congr (s := s) (y := (s.onHall fun p => { p with recovery := x, txList := l }).asking) rfl rfl rfl rfl rfl
    rfl rfl rfl rfl
  rw [hsame]

theorem kindFor_asking (s : State) (e : Entry) : (startWaitingRecovery s).asking.kindFor e = s.kindFor e := by
  obtain ⟨x, l, h, -⟩ := startWaitingRecovery_onHall s
  rw [h, kindFor_onHall]

theorem compose_asking (s : State) (e : Entry) (kind : Kind) : (startWaitingRecovery s).asking.compose e kind = s.compose e kind := by
  obtain ⟨x, l, h, -⟩ := startWaitingRecovery_onHall s
  rw [h, compose_onHall]

/-- What the filled state shares with the state before. -/
theorem filled_fields (s : State) (e : Entry) :
    (s.filled e).atStart = s.atStart ∧ (s.filled e).display = s.display ∧ (s.filled e).store.state = s.store.state
      ∧ (s.filled e).floor = s.floor ∧ (s.hall.recovery ≠ .waiting → (s.filled e).hall.txList = s.hall.txList)
      ∧ (s.filled e).power = s.power ∧ (s.filled e).seq.queue = s.seq.queue ∧ (s.filled e).hall.state = s.hall.state
      ∧ (s.filled e).now = s.now
      ∧ (s.filled e).seq.slot = some (chosenService e.tag (s.kindFor e) (s.compose e (s.kindFor e)).script) := by
  obtain ⟨x, l, h, -⟩ := startWaitingRecovery_onHall s
  have htx : s.hall.recovery ≠ .waiting → (s.filled e).hall.txList = s.hall.txList := fun hr => by
    unfold State.filled
    rw [startWaitingRecovery_of_ne hr]
    rfl
  refine ⟨?_, ?_, ?_, ?_, htx, ?_, ?_, ?_, ?_, ?_⟩
  all_goals
    unfold State.filled
    rw [h]
    rfl

/-- The three ways in which a selected entry is served. -/
theorem takeEntry_asking (s : State) (e : Entry) :
    takeEntry e (startWaitingRecovery s).asking =
      match s.kindFor e with
      | .silent => startSilent e.tag (s.compose e .silent).script (s.filled e)
      | .audible route =>
        if s.hall.state.isUp = true then
          requestClaim e.cls e.arrival (s.compose e (.audible route)).script.estimate
            (changeEntry e.tag (fun x => { x with state := .claiming }) (s.filled e))
        else startAudible e.tag route (s.compose e (.audible route)).script (s.filled e) := by
  have hup : (startWaitingRecovery s).asking.hall.state = s.hall.state := by
    obtain ⟨x, l, h, -⟩ := startWaitingRecovery_onHall s
    rw [h]
    rfl
  unfold takeEntry State.filled
  dsimp only
  rw [kindFor_asking, compose_asking, hup]
  cases s.kindFor e <;> rfl

theorem conclude_of_next {s : State} {e : Entry} (hawake : s.power.mode ≠ .sleep) (h : NextTaken s e) :
    (conclude s).besideHolds = (takeEntry e (startWaitingRecovery s).asking).besideHolds := by
  rw [conclude_besideHolds hawake, select_of_some (by rw [startWaitingRecovery_seq]; exact h.1)]
  rw [startWaitingRecovery_seq]
  have hsame : (startWaitingRecovery s).eligible = s.eligible := funext (eligible_startWaitingRecovery s)
  rw [hsame, find_of_nextTaken h]

theorem conclude_silent {s : State} {e : Entry} (hawake : s.power.mode ≠ .sleep) (h : NextTaken s e) (hsilent : SilentNow s e) :
    (conclude s).besideHolds = (startSilent e.tag (s.compose e .silent).script (s.filled e)).besideHolds := by
  rw [conclude_of_next hawake h, takeEntry_asking, (kindFor_silent_iff s e).mpr hsilent]

theorem conclude_claiming {s : State} {e : Entry} (hawake : s.power.mode ≠ .sleep) (h : NextTaken s e) (hsound : ¬ SilentNow s e)
    (hup : s.hall.state.isUp = true) :
    (conclude s).besideHolds =
      (requestClaim e.cls e.arrival (s.compose e (.audible s.routeNow)).script.estimate
        (changeEntry e.tag (fun x => { x with state := .claiming }) (s.filled e))).besideHolds := by
  rw [conclude_of_next hawake h, takeEntry_asking, kindFor_audible hsound]
  exact congrArg State.besideHolds (if_pos hup)

theorem conclude_sounding {s : State} {e : Entry} (hawake : s.power.mode ≠ .sleep) (h : NextTaken s e) (hsound : ¬ SilentNow s e)
    (hup : s.hall.state.isUp = false) :
    (conclude s).besideHolds = (startAudible e.tag s.routeNow (s.compose e (.audible s.routeNow)).script (s.filled e)).besideHolds := by
  rw [conclude_of_next hawake h, takeEntry_asking, kindFor_audible hsound]
  exact congrArg State.besideHolds (if_neg (by simp [hup]))

theorem conclude_chosen {s : State} {e : Entry} (hawake : s.power.mode ≠ .sleep) (h : NextTaken s e) :
    ∃ v, (conclude s).seq.slot = some v ∧ v.chosen = chosenService e.tag (s.kindFor e) (s.compose e (s.kindFor e)).script := by
  have hseq := (besideHolds_fields (conclude_of_next hawake h)).2.1
  have hchosen := takeEntry_chosen e (startWaitingRecovery s).asking
  rw [kindFor_asking, compose_asking, ← hseq] at hchosen
  obtain ⟨v, hv, hvc⟩ := Option.map_eq_some_iff.mp hchosen
  exact ⟨v, hv, hvc⟩

/-- The slot of a sounding service that has started: only the level that waits has been set. -/
theorem serviceStarted_slot {s u : State} {e : Entry} {v : Service} {route : Route} (h : ServiceStarted e route v s u) :
    ∃ x, u.seq.slot = some { v with pendingLevel := x } := by
  obtain ⟨-, -, hwarm, hready, -⟩ := h
  by_cases hw : route = .piezo ∨ s.power.amp = .on
  · exact ⟨_, (hready hw).1⟩
  · obtain ⟨hr, ha⟩ := not_or.mp hw
    exact ⟨_, (hwarm hr ha).1⟩

theorem startSilent_slot {st : State} {tag : Nat} {e : Entry} {v : Service} (sc : Script) (he : st.entry tag = some e)
    (hslot : st.seq.slot = some v) :
    (startSilent tag sc st).seq.slot = some { v with silentEnd := some (st.after Config.silentService) } := by
  unfold startSilent
  rw [he]
  simp only [changeService, State.onSeq_seq, postText_seq, activity_seq, changeEntry_slot, hslot]
  rfl

/-- Settles O9. -/
theorem selectionFrame : Obligations.SelectionFrame := by
  refine ⟨fun s => ?_, fun s hawake hslot hnone => ?_, fun s e hawake hnext => ?_⟩
  · have henv := conclude_env s
    obtain ⟨hsettings, hframer⟩ := settings_framer_conclude (s := s) (w := s) rfl
    exact ⟨congrArg Prod.fst henv, congrArg (fun x => x.2.1) henv, congrArg (fun x => x.2.2.1) henv, lineKept_conclude rfl,
      conclude_viewKept rfl, conclude_rem s, panelKept_conclude rfl, hsettings, hframer, conclude_reportsKept ⟨rfl, rfl, rfl⟩,
      conclude_queueKept (queueKept_of_seq rfl), storeKept_conclude rfl, levelKept_conclude rfl, speakerKept_conclude rfl,
      statusLineKept_conclude rfl, fun hslot => (conclude_of_slot hslot).1⟩
  · have hfind : s.seq.queue.find? (startWaitingRecovery s).eligible = none :=
      List.find?_eq_none.mpr fun e he hel => hnone e he ((eligible_iff s e).mp ((eligible_startWaitingRecovery s e).symm.trans hel))
    obtain ⟨hs, hq, -⟩ := conclude_of_none hawake hslot hfind
    exact ⟨hs, hq⟩
  · obtain ⟨v, hv, hchosen⟩ := conclude_chosen hawake hnext
    obtain ⟨hat, hdisplay, hstore, hfloor, hlist, hpower, hqueue, -, -, hslot⟩ := filled_fields s e
    have hfawake : (s.filled e).power.mode ≠ .sleep := by rw [hpower]; exact hawake
    have hentry (he : s.entry e.tag = some e) : (s.filled e).entry e.tag = some e := by
      unfold State.entry
      rw [hqueue]
      exact he
    refine ⟨v, hv, (congrArg Service.tag hchosen : v.chosen.tag = _), (congrArg Service.preempt hchosen : v.chosen.preempt = _),
      (congrArg Service.overlap hchosen : v.chosen.overlap = _), (congrArg Service.removal hchosen : v.chosen.removal = _),
      fun hsilent => ?_, fun hsound => ?_⟩
    · have hkind := (kindFor_silent_iff s e).mpr hsilent
      have hheld := conclude_silent hawake hnext hsilent
      have hseq := (besideHolds_fields hheld).2.1
      refine ⟨((congrArg Service.kind hchosen : v.chosen.kind = _) : v.kind = _).trans hkind, ?_, fun he => ?_⟩
      · rw [hseq, startSilent_queue, hqueue]
        rfl
      · rw [hkind] at hslot
        have hvslot := hv.symm.trans ((congrArg Sequencer.slot hseq).trans (startSilent_slot _ (hentry he) hslot))
        exact silentStarted_of_besideHolds hheld
          (startSilent_started hfawake hat hdisplay hstore hfloor hlist (hentry he) (Option.some.inj hvslot))
    · have hkind := kindFor_audible hsound
      refine ⟨⟨s.routeNow, ((congrArg Service.kind hchosen : v.chosen.kind = _) : v.kind = _).trans hkind, routeNow_iff s,
        fun hup he => ?_⟩, fun hup => ?_, fun hup => ?_⟩
      · have hheld := conclude_sounding hawake hnext hsound hup
        rw [hkind] at hslot
        have hstarted := serviceStarted_of_besideHolds hheld
          (startAudible_started (v := chosenService e.tag (.audible s.routeNow) (s.compose e (.audible s.routeNow)).script) hfawake hat
            hdisplay (hentry he) hslot)
        obtain ⟨x, hx⟩ := serviceStarted_slot hstarted
        obtain rfl := Option.some.inj (hv.symm.trans hx)
        exact hstarted
      · rw [(besideHolds_fields (conclude_claiming hawake hnext hsound hup)).2.1, requestClaim_seq, changeEntry_queue, hqueue]
        rfl
      · rw [(besideHolds_fields (conclude_sounding hawake hnext hsound hup)).2.1, startAudible_queue, hqueue]
        rfl

end Sys2Proof.Machine
end

section
/-! The script of a selected entry (R36 to R38, R42 to R48): its items within the limits, its estimate and the counters. -/

namespace Sys2Proof.Machine
open Sys2Proof Host Safety

/-! The longest leading part within 255 units. -/

theorem unitsOf_eq (s : State) (chime : Option Nat) (items : List ScriptItem) :
    unitsOf s chime items = estimateOf items chime.isSome s.ampOff := by
  unfold unitsOf estimateOf State.ampOff
  by_cases h : s.power.amp = .on <;> simp [h, Config.itemGap, Config.chime, Config.warmUp]

/-- What is left of the items: the first of them. -/
theorem fitItems_prefix (chime warm : Bool) (fuel : Nat) (items : List ScriptItem) : fitItems chime warm fuel items <+: items := by
  induction fuel generalizing items with
  | zero => exact List.prefix_rfl
  | succ fuel ih =>
    unfold fitItems
    split
    · exact List.prefix_rfl
    · exact (ih _).trans (List.dropLast_prefix _)

theorem estimateOf_nil (chime warm : Bool) : estimateOf [] chime warm ≤ 255 := by
  cases chime <;> cases warm <;> decide

theorem fitItems_fits (chime warm : Bool) {fuel : Nat} {items : List ScriptItem} (h : items.length ≤ fuel) :
    estimateOf (fitItems chime warm fuel items) chime warm ≤ 255 := by
  induction fuel generalizing items with
  | zero =>
    obtain rfl := List.length_eq_zero_iff.mp (Nat.le_zero.mp h)
    exact estimateOf_nil chime warm
  | succ fuel ih =>
    unfold fitItems
    split
    next hfits => exact hfits
    next => exact ih (by rw [List.length_dropLast]; omega)

/-- Nothing longer fits. -/
theorem fitItems_longest (chime warm : Bool) {fuel n : Nat} {items : List ScriptItem} (hn : n ≤ items.length)
    (hfits : estimateOf (items.take n) chime warm ≤ 255) : n ≤ (fitItems chime warm fuel items).length := by
  induction fuel generalizing items with
  | zero => exact hn
  | succ fuel ih =>
    unfold fitItems
    split
    next => exact hn
    next hover =>
      have hlt : n < items.length := by
        refine Nat.lt_of_le_of_ne hn fun heq => hover ?_
        rwa [heq, List.take_length] at hfits
      refine ih (by rw [List.length_dropLast]; omega) ?_
      have htake : items.dropLast.take n = items.take n := by
        rw [List.dropLast_eq_take, List.take_take]
        congr 1
        omega
      rwa [htake]

/-! The template and its chime. -/

theorem templateFor_eq (s : State) (e : Entry) : s.templateFor e = (templateOfEntry s e, templateMissed s e) := by
  unfold State.templateFor templateOfEntry templateMissed
  by_cases htag : e.tag = 74
  · simp [htag]
  · cases hread : s.readTemplate e.template with
    | none =>
      simp [htag]
      rfl
    | some t => simp [htag]

theorem classChime_eq (c : Cls) : classChime c = 3 - c.val := by cases c <;> rfl

theorem speechChime_eq (e : Entry) (t : Template) : speechChime e t = chimeOf e t := by
  unfold speechChime chimeOf
  cases t.chime with
  | some c => rfl
  | none =>
    dsimp only
    rw [classChime_eq]

theorem announcesStation_iff (s : State) (t : Template) : s.announcesStation t = true ↔ PrefixPlaced s t := by
  unfold State.announcesStation PrefixPlaced
  cases s.link.config.policy <;> simp [and_assoc]

/-! What the composition counts. -/

theorem counted_of_store {s u : State} {c : Composed} (h : u.store = (countComposition c s).store) :
    CompositionCounted c.failed c.truncated s u := by
  unfold CompositionCounted
  rw [h]
  exact ⟨rfl, rfl⟩

/-- A spoken script. -/
theorem composeSpeech_spoken {s u : State} {e : Entry} (hspeech : e.channels.speech = true)
    (h : u.store = (countComposition (s.composeSpeech e) s).store) :
    SpokenScript s u e (templateOfEntry s e) (s.composeSpeech e).script := by
  have hcounted := counted_of_store h
  generalize ht : templateOfEntry s e = t
  generalize hlead : (if s.announcesStation t = true then s.expandStation else Expansion.nil) = lead
  generalize hall : lead.items ++ (s.expandItems e t.items).items = all
  generalize hfull : (if all.take 12 = [] ∧ chimeOf e t = none then [ScriptItem.pause 100] else all.take 12) = full
  generalize hfit : fitItems (chimeOf e t).isSome s.ampOff full.length full = fitted
  have hcompose : s.composeSpeech e =
      { script :=
          { chime := chimeOf e t, items := fitted, estimate := max 1 (estimateOf fitted (chimeOf e t).isSome s.ampOff)
            pieces := piecesOf [] fitted }
        failed := templateMissed s e + (lead.failed + (s.expandItems e t.items).failed)
        truncated := decide ((all.take 12).length < all.length) || decide (fitted.length < full.length) } := by
    unfold State.composeSpeech
    subst hfit hfull hall hlead ht
    dsimp only
    rw [templateFor_eq, speechChime_eq, if_pos hspeech]
    rfl
  rw [hcompose] at hcounted ⊢
  dsimp only at hcounted ⊢
  have hprefix : fitted <+: full := hfit ▸ fitItems_prefix _ _ _ _
  have hnil : all.take 12 = [] ↔ all = [] := by
    rw [List.take_eq_nil_iff]
    exact or_iff_right (by decide)
  refine ⟨lead, full, fun hp => ?_, fun hp => ?_, ?_, hprefix, ?_, fun n hn hfits => ?_, rfl, ?_, rfl, ?_⟩
  · rw [← hlead, if_pos ((announcesStation_iff s t).mpr hp)]
  · rw [← hlead, if_neg (mt (announcesStation_iff s t).mp hp)]
    rfl
  · rw [hall, ← hfull]
    exact if_congr (and_congr_left' hnil) rfl rfl
  · rw [unitsOf_eq, ← hfit]
    exact fitItems_fits _ _ (Nat.le_refl _)
  · rw [unitsOf_eq] at hfits
    rw [← hfit]
    exact fitItems_longest _ _ hn hfits
  · rw [unitsOf_eq]
  · rw [hall, Nat.add_assoc]
    have htruncated : (decide ((all.take 12).length < all.length) || decide (fitted.length < full.length)) =
        decide (fitted.length < all.length) := by
      have hle := hprefix.length_le
      by_cases hempty : all.take 12 = [] ∧ chimeOf e t = none
      · have hone : fitted.length = full.length := by
          rw [if_pos hempty] at hfull
          refine Nat.le_antisymm hle ?_
          rw [← hfit]
          refine fitItems_longest _ _ (Nat.le_refl _) ?_
          rw [List.take_length, ← hfull, hempty.2]
          cases s.ampOff <;> decide
        rw [hempty.1, hone, hnil.mp hempty.1]
        simp
      · rw [if_neg hempty] at hfull
        rw [← hfull] at hle ⊢
        rw [List.length_take] at hle ⊢
        rw [← Bool.decide_or]
        exact decide_eq_decide.mpr (by omega)
    rw [← htruncated]
    exact hcounted

/-- A script without speech: its chime, and the pieces of its text. -/
theorem composeSpeech_silent {s u : State} {e : Entry} (hspeech : e.channels.speech = false)
    (h : u.store = (countComposition (s.composeSpeech e) s).store) :
    (s.composeSpeech e).script.chime = chimeOf e (templateOfEntry s e) ∧ (s.composeSpeech e).script.items = []
      ∧ (s.composeSpeech e).script.estimate = max 1 (unitsOf s (chimeOf e (templateOfEntry s e)) [])
      ∧ (s.composeSpeech e).script.pieces = piecesOf [] ((s.expandItems e (templateOfEntry s e).items).items.take 12)
      ∧ CompositionCounted (templateMissed s e + (s.expandItems e (templateOfEntry s e).items).failed) false s u := by
  have hcounted := counted_of_store h
  have hcompose : s.composeSpeech e =
      { script :=
          { chime := chimeOf e (templateOfEntry s e), items := []
            estimate := max 1 (unitsOf s (chimeOf e (templateOfEntry s e)) [])
            pieces := piecesOf [] ((s.expandItems e (templateOfEntry s e).items).items.take 12) }
        failed := templateMissed s e + (s.expandItems e (templateOfEntry s e).items).failed
        truncated := false } := by
    unfold State.composeSpeech
    dsimp only
    rw [templateFor_eq, speechChime_eq, if_neg (by simp [hspeech]), unitsOf_eq]
    rfl
  rw [hcompose] at hcounted ⊢
  exact ⟨rfl, rfl, rfl, rfl, hcounted⟩

theorem composeFallback_eq (s : State) (e : Entry) :
    s.composeFallback e = ⟨⟨some (3 - e.cls.val), [], if s.power.amp = .on then 4 else 6, []⟩, 0, false⟩ := by
  unfold State.composeFallback State.ampOff
  rw [classChime_eq]
  by_cases h : s.power.amp = .on <;> simp [h, estimateOf, Config.itemGap, Config.chime, Config.warmUp]

/-- The script of each kind of service. -/
theorem scriptComposed_of_store {s u : State} (e : Entry) (kind : Kind)
    (h : u.store = (countComposition (s.compose e kind) s).store) : ScriptComposed s u e kind (s.compose e kind).script := by
  have hspeech (hc : s.compose e kind = s.composeSpeech e) :
      (e.channels.speech = true → SpokenScript s u e (templateOfEntry s e) (s.compose e kind).script)
        ∧ (e.channels.speech = false →
          (s.compose e kind).script.chime = chimeOf e (templateOfEntry s e) ∧ (s.compose e kind).script.items = []
            ∧ (s.compose e kind).script.estimate = max 1 (unitsOf s (chimeOf e (templateOfEntry s e)) [])
            ∧ (s.compose e kind).script.pieces = piecesOf [] ((s.expandItems e (templateOfEntry s e).items).items.take 12)
            ∧ CompositionCounted (templateMissed s e + (s.expandItems e (templateOfEntry s e).items).failed) false s u) := by
    rw [hc] at h ⊢
    exact ⟨fun hs => composeSpeech_spoken hs h, fun hs => composeSpeech_silent hs h⟩
  have hfallback (hc : s.compose e kind = s.composeFallback e) :
      (s.compose e kind).script = ⟨some (3 - e.cls.val), [], if s.power.amp = .on then 4 else 6, []⟩
        ∧ CompositionCounted 0 false s u := by
    rw [hc, composeFallback_eq] at h
    rw [hc, composeFallback_eq]
    exact ⟨rfl, counted_of_store h⟩
  refine ⟨fun hk => hspeech ?_, fun hk => hfallback ?_, fun hk => ?_⟩
  · rcases hk with rfl | ⟨rfl, hready⟩
    · rfl
    · exact if_pos hready
  · rcases hk with rfl | ⟨rfl, hready⟩
    · rfl
    · exact if_neg hready
  · subst hk
    have hcounted := counted_of_store h
    refine ⟨fun hready => ?_, fun hready => ?_⟩
    · have hc : s.compose e (.audible .piezo) = ⟨⟨some ((templateOfEntry s e).chime.getD 0), [], 4, []⟩, templateMissed s e, false⟩ := by
        show s.composePiezo e = _
        unfold State.composePiezo
        rw [if_pos hready, templateFor_eq]
        rfl
      rw [hc] at hcounted ⊢
      exact ⟨rfl, hcounted⟩
    · have hc : s.compose e (.audible .piezo) = ⟨⟨some 0, [], 4, []⟩, 0, false⟩ := by
        show s.composePiezo e = _
        unfold State.composePiezo
        rw [if_neg hready]
        rfl
      rw [hc] at hcounted ⊢
      exact ⟨rfl, hcounted⟩

end Sys2Proof.Machine
end

section
/-! The floor taken when it is clear (R18, R89, R97): the gap's end, the wait bucket's step, and the claim of a selected entry. -/

namespace Sys2Proof.Machine
open Sys2Proof Host Safety

/-! The store under the start of a service. -/

@[simp] theorem activity_store (s : State) : (activity s).store = s.store := by
  have hmode : (setMode .active s).store = s.store := by
    unfold setMode
    split <;> rfl
  unfold activity
  split
  · rfl
  · exact hmode

@[simp] theorem postText_store (text : Option (List Byte)) (cls : Cls) (s : State) : (postText text cls s).store = s.store := by
  unfold postText
  split <;> rfl

@[simp] theorem handFrame_store (f : TxFrame) (s : State) : (handFrame f s).store = s.store := by
  unfold handFrame
  split <;> rfl

theorem beginWarmUp_store (e : Entry) (route : Route) (script : Script) (r : LevelResult) (s : State) :
    (beginWarmUp e route script r s).store = s.store := by
  unfold beginWarmUp
  dsimp only
  split <;> rfl

theorem applyLevel_store (r : LevelResult) (s : State) : (applyLevel r s).store = s.store := by
  unfold applyLevel
  dsimp only
  split <;> rfl

theorem beginOutput_store (e : Entry) (route : Route) (script : Script) (r : LevelResult) (s : State) :
    (beginOutput e route script r s).store = s.store := by
  unfold beginOutput
  dsimp only
  split
  · exact applyLevel_store r s
  · obtain ⟨x, hx⟩ := startItem_cases script.items 0 (changeService (fun v => { v with pendingLevel := none }) (applyLevel r s))
    rw [hx]
    exact applyLevel_store r s

theorem startAudible_store (tag : Nat) (route : Route) (script : Script) (s : State) : (startAudible tag route script s).store = s.store := by
  unfold startAudible
  split
  · rfl
  · dsimp only
    split
    · rw [beginWarmUp_store, postText_store, activity_store]
      rfl
    · rw [beginOutput_store, postText_store, activity_store]
      rfl

theorem startSilent_store (tag : Nat) (script : Script) (s : State) : (startSilent tag script s).store = s.store := by
  unfold startSilent
  split
  · rfl
  · exact (postText_store ..).trans (activity_store _)

theorem requestClaim_store (cls : Cls) (arrival length : Nat) (s : State) : (requestClaim cls arrival length s).store = s.store := by
  unfold requestClaim
  dsimp only
  split
  · rfl
  · exact handFrame_store ..

theorem filled_store (s : State) (e : Entry) :
    (s.filled e).store = (countComposition (s.compose e (s.kindFor e)) s).store := by
  obtain ⟨x, l, h, -⟩ := startWaitingRecovery_onHall s
  unfold State.filled
  rw [h]
  rfl

theorem conclude_store {s : State} {e : Entry} (hawake : s.power.mode ≠ .sleep) (h : NextTaken s e) :
    (conclude s).store = (countComposition (s.compose e (s.kindFor e)) s).store := by
  rw [(besideHolds_fields (conclude_of_next hawake h)).2.2.1, takeEntry_asking, ← filled_store]
  cases s.kindFor e with
  | silent => exact startSilent_store ..
  | audible route =>
    dsimp only
    split
    · exact (requestClaim_store ..).trans rfl
    · exact startAudible_store ..

/-! The claim. -/

/-- The claim of an entry that the selection takes: of its class and bucket, for the length of its script (R89, R97). -/
def State.claimFor (s : State) (e : Entry) (sc : Script) : ClaimContent :=
  ⟨e.cls, min 15 ((s.now - e.arrival) / 2000), sc.estimate, s.floor.own.nextSeq⟩

theorem requestClaim_claims {st : State} (cls : Cls) (arrival length : Nat) (hup : st.hall.state.isUp = true) :
    (requestClaim cls arrival length st).floor.own.nextSeq = (st.floor.own.nextSeq + 1) % 16
      ∧ (st.floor.own.outgoing = none →
          (requestClaim cls arrival length st).floor.own.outgoing = some ⟨⟨cls, st.bucketOf arrival, length, st.floor.own.nextSeq⟩, .no⟩
            ∧ (requestClaim cls arrival length st).hall.txList =
                st.hall.txList ++ [⟨.claim ⟨cls, st.bucketOf arrival, length, st.floor.own.nextSeq⟩, false⟩])
      ∧ (st.floor.own.outgoing.isSome = true →
          (requestClaim cls arrival length st).floor.own.outgoing = st.floor.own.outgoing
            ∧ (requestClaim cls arrival length st).floor.own.pendingClaim = some ⟨cls, st.bucketOf arrival, length, st.floor.own.nextSeq⟩
            ∧ (requestClaim cls arrival length st).hall.txList = st.hall.txList) := by
  refine ⟨?_, fun hnone => ⟨?_, requestClaim_txList hup hnone cls arrival length⟩, fun hsome => ?_⟩
  · unfold requestClaim
    dsimp only
    split
    · rfl
    · rw [handFrame_floor]
      rfl
  · unfold requestClaim
    dsimp only
    rw [if_neg (by simp [hnone]), handFrame_floor]
    rfl
  · unfold requestClaim
    dsimp only
    rw [if_pos hsome]
    exact ⟨rfl, rfl, rfl⟩

theorem nextTaken_may {s : State} {e : Entry} (h : NextTaken s e) : MaySelect s e := by
  obtain ⟨-, l, r, -, -, he⟩ := h
  exact he

theorem conclude_claims {s : State} {e : Entry} {v : Service} (hawake : s.power.mode ≠ .sleep) (hnext : NextTaken s e)
    (hup : s.hall.state.isUp = true) (hsound : ¬ SilentNow s e) (hscript : v.script = (s.compose e (s.kindFor e)).script) :
    (conclude s).floor.own.state = .claiming
      ∧ (conclude s).floor.own.nextSeq = (s.floor.own.nextSeq + 1) % 16
      ∧ (s.floor.own.outgoing = none →
          (conclude s).floor.own.outgoing = some ⟨s.claimFor e v.script, .no⟩
            ∧ (conclude s).hall.txList = s.hall.txList ++ [⟨.claim (s.claimFor e v.script), false⟩])
      ∧ (s.floor.own.outgoing.isSome = true →
          (conclude s).floor.own.outgoing = s.floor.own.outgoing
            ∧ (conclude s).floor.own.pendingClaim = some (s.claimFor e v.script) ∧ (conclude s).hall.txList = s.hall.txList) := by
  have hkind := kindFor_audible hsound
  obtain ⟨-, -, -, -, hmay, -⟩ := nextTaken_may hnext
  have hrecovery := (hmay.resolve_left hsound).1
  obtain ⟨-, -, -, hfloor, hlist, -, -, hstate, hnow, -⟩ := filled_fields s e
  obtain ⟨-, -, -, -, -, hchall, hcfloor, -⟩ := besideHolds_fields (conclude_claiming hawake hnext hsound hup)
  obtain ⟨hseq, hnone, hsome⟩ := requestClaim_claims (st := changeEntry e.tag (fun x => { x with state := .claiming }) (s.filled e))
    e.cls e.arrival v.script.estimate ((congrArg HallState.isUp hstate).trans hup)
  have hstclaiming := requestClaim_state e.cls e.arrival v.script.estimate
    (changeEntry e.tag (fun x => { x with state := .claiming }) (s.filled e))
  have hbucket : (changeEntry e.tag (fun x => { x with state := .claiming }) (s.filled e)).bucketOf e.arrival =
      min 15 ((s.now - e.arrival) / 2000) := congrArg (bucketAt · e.arrival) hnow
  rw [hbucket] at hnone hsome
  simp only [changeEntry_floor, changeEntry_hall, hfloor, hlist hrecovery] at hseq hnone hsome
  rw [← hkind, ← hscript] at hchall hcfloor
  rw [hchall, hcfloor]
  exact ⟨hstclaiming, hseq, hnone, hsome⟩

/-! The wait bucket. -/

theorem bucketGrown_eq_false {s : State} {e : Entry} (h : s.now < e.arrival + 2000 * ((s.seq.askedAt - e.arrival) / 2000 + 1)) :
    s.bucketGrown e = false := by
  unfold State.bucketGrown State.bucketTimer bucketAt
  refine Bool.and_eq_false_iff.mpr (.inr ?_)
  dsimp only [Config.bucketStep]
  by_cases hk : min 15 ((s.seq.askedAt - e.arrival) / 2000) + 1 ≤ 15
  · rw [if_pos hk]
    refine decide_eq_false (Nat.not_le.mpr ?_)
    rw [Nat.min_eq_right (by omega)]
    exact h
  · rw [if_neg hk]

theorem bucketGrown_of_due {s : State} {e : Entry} {route : Route} (hqueued : e.state = .queued) (hup : s.hall.state.isUp = true)
    (hkind : s.kindFor e = .audible route) (hlow : (s.seq.askedAt - e.arrival) / 2000 < 15)
    (hdue : e.arrival + 2000 * ((s.seq.askedAt - e.arrival) / 2000 + 1) ≤ s.now) : s.bucketGrown e = true := by
  unfold State.bucketGrown State.asksFor State.bucketTimer bucketAt
  dsimp only [Config.bucketStep]
  rw [hkind, if_pos (by omega), Nat.min_eq_right (by omega)]
  simp [hqueued, hup, hdue]

theorem nextTaken_of_single {s : State} {e : Entry} (hslot : s.seq.slot = none) (hqueue : s.seq.queue = [e])
    (h : s.eligible e = true) : NextTaken s e :=
  ⟨hslot, [], [], hqueue, nofun, (eligible_iff s e).mp h⟩

/-- Settles O43. -/
theorem floorIsTakenWhenClear : Obligations.FloorIsTakenWhenClear := by
  refine ⟨?_, ?_, ?_, ?_⟩
  · intro t s tm hawake hstate hgap hdue hnothing
    have hends : turnGapEnds (s.arrive t) = (s.arrive t).onOwn fun o => { o with state := .free, gapEnd := none } :=
      if_pos ⟨hstate, reachedAt_of_due (x := tm) hgap hdue⟩
    generalize hw : (s.arrive t).onOwn (fun o => { o with state := .free, gapEnd := none }) = w at hends
    have hwseq : w.seq = s.seq := by rw [← hw]; rfl
    have hwawake : w.power.mode ≠ .sleep := by rw [← hw]; exact hawake
    have hwapart : w.apart = s.apart := by rw [← hw]; rfl
    have hwview : w.floor.view = s.floor.view := by rw [← hw]; rfl
    have hfloor : (conclude w).floor = w.floor := by
      by_cases hslot : s.seq.slot.isSome = true
      · exact (conclude_of_slot (by rw [hwseq]; exact hslot)).2.1
      · exact (conclude_of_empty hwawake (by rw [hwseq]; exact Option.not_isSome_iff_eq_none.mp hslot)
          (by rw [hwseq]; exact hnothing.resolve_left hslot)).2.2.1
    refine ⟨_, (concluding_of_awake hawake t turnGapEnds).trans (by rw [hends]), ?_, ?_, lineKept_conclude (by rw [hwapart]),
      conclude_viewKept hwview, conclude_reportsKept ?_, besidesHallKept_of_apart hwapart ?_ hwseq⟩
    · rw [hfloor, ← hw]
      rfl
    · rw [hfloor, ← hw]
      rfl
    · rw [← hw]
      exact ⟨rfl, rfl, rfl⟩
    · rw [← hw]
      rfl
  · intro t s e hawake he hearly
    refine (whileAwake_of_awake hawake t (bucketSteps e.tag)).trans ?_
    unfold bucketSteps
    rw [show (s.arrive t).entry e.tag = some e from he]
    dsimp only
    rw [bucketGrown_eq_false (s := s.arrive t) hearly]
    rfl
  · intro s e hawake hnext
    obtain ⟨v, hv, hchosen⟩ := conclude_chosen hawake hnext
    have htag : v.tag = e.tag := (congrArg Service.tag hchosen : v.chosen.tag = _)
    have hkind : v.kind = s.kindFor e := (congrArg Service.kind hchosen : v.chosen.kind = _)
    have hscript : v.script = (s.compose e (s.kindFor e)).script := (congrArg Service.script hchosen : v.chosen.script = _)
    refine ⟨v, hv, htag, ?_, fun hup hsound => ⟨_, rfl, conclude_claims hawake hnext hup hsound hscript⟩⟩
    rw [hkind, hscript]
    exact scriptComposed_of_store e _ (conclude_store hawake hnext)
  · intro t s e route hawake hslot hqueue hon hrecovery hfree hlow hdue heligible hroute
    have hnext : NextTaken (s.arrive t) e := nextTaken_of_single hslot hqueue heligible
    have hup : (s.arrive t).hall.state.isUp = true := by
      show s.hall.state.isUp = true
      rw [hon]
      rfl
    have hsound : ¬ SilentNow (s.arrive t) e := fun h => by
      rw [(kindFor_silent_iff _ e).mpr h] at hroute
      nomatch hroute
    have hentry : (s.arrive t).entry e.tag = some e := by
      show s.seq.queue.find? _ = _
      rw [hqueue]
      exact List.find?_cons_of_pos (by simp)
    have hgrown := bucketGrown_of_due (s := s.arrive t) (nextTaken_may hnext).1 hup hroute hlow hdue
    have hsteps : bucketSteps e.tag (s.arrive t) = conclude (s.arrive t) := by
      unfold bucketSteps
      rw [hentry]
      exact if_pos hgrown
    obtain ⟨v, hv, hchosen⟩ := conclude_chosen (s := s.arrive t) hawake hnext
    obtain ⟨hclaiming, hseq, hnone, -⟩ := conclude_claims (s := s.arrive t) hawake hnext hup hsound
      (congrArg Service.script hchosen : v.chosen.script = _)
    obtain ⟨hout, hlist⟩ := hnone hfree
    refine ⟨_, _, (whileAwake_of_awake hawake t (bucketSteps e.tag)).trans (by rw [hsteps]), hclaiming, hout, rfl, rfl, rfl, hseq, hlist,
      ?_, ⟨v, hv, (congrArg Service.tag hchosen : v.chosen.tag = _), rfl⟩, lineKept_conclude (s := s) (w := s.arrive t) rfl,
      conclude_viewKept (w := s.arrive t) rfl, conclude_reportsKept (w := s.arrive t) ⟨rfl, rfl, rfl⟩,
      besidesHallKept_of_apart (w := s.arrive t) rfl rfl rfl⟩
    rw [(besideHolds_fields (conclude_claiming (s := s.arrive t) hawake hnext hsound hup)).2.1, requestClaim_seq, changeEntry_queue,
      (filled_fields (s.arrive t) e).2.2.2.2.2.2.1]
    show s.seq.queue.map _ = _
    rw [hqueue, List.map_singleton]
    exact congrArg ([·]) (if_pos rfl)

end Sys2Proof.Machine
end

section
/-! What an examination decides where the own claim is outranked, and the loss it ends in (R85, R88, R92). The peers' claims
count there by their zones and their ranks alone, which no confirmation and no settled window moves. -/

namespace Sys2Proof.Machine
open Sys2Proof Host Safety

/-- The peers' claims by zone and rank. -/
def State.peerRanks (s : State) : List (Nat × RankKey) := s.peerClaims.map fun x => (x.2.zone, x.2.rankKey x.1)

theorem outrankedWith_eq (s : State) (cls : Cls) (bucket : Nat) :
    s.outrankedWith cls bucket =
      s.peerRanks.any fun x => decide (x.1 = s.straps.zone) && x.2.outranks ⟨cls.val, bucket, s.straps.station⟩ := by
  unfold State.peerRanks
  rw [List.any_map]
  rfl

theorem ownOutranked_eq (s : State) (c : LiveClaim) :
    s.ownOutranked c =
      s.peerRanks.any fun x => decide (x.1 = c.zone) && x.2.outranks (c.rankKey s.straps.station) := by
  unfold State.peerRanks
  rw [List.any_map]
  rfl

theorem outranked_congr {s w : State} (hnow : w.now = s.now) (hstraps : w.straps = s.straps) (hranks : w.peerRanks = s.peerRanks)
    (cls : Cls) (arrival : Nat) : w.outranked cls arrival = s.outranked cls arrival := by
  unfold State.outranked State.bucketOf
  rw [outrankedWith_eq, outrankedWith_eq, hnow, hstraps, hranks]

/-- A change of a peer's claims, the zone and the rank of each as they were. -/
def KeepsRanks (g : LiveClaim → LiveClaim) : Prop := ∀ c, (g c).zone = c.zone ∧ ∀ n, (g c).rankKey n = c.rankKey n

theorem settle_keepsRanks : KeepsRanks LiveClaim.settle := fun _ => ⟨rfl, fun _ => rfl⟩

theorem confirmedClaim_keepsRanks (s : State) : KeepsRanks s.confirmedClaim := fun _ => ⟨rfl, fun _ => rfl⟩

/-- The claims of one station changed, the others' left. -/
def changeAt (n : Nat) (g : LiveClaim → LiveClaim) (x : Nat × LiveClaim) : Nat × LiveClaim := if x.1 = n then (x.1, g x.2) else x

theorem changePeer_peerClaims {n : Nat} {f : Peer → Peer} {g : LiveClaim → LiveClaim} (hstation : ∀ p, (f p).station = p.station)
    (hclaim : ∀ p, (f p).claim = p.claim.map g) (s : State) :
    (changePeer n f s).peerClaims = s.peerClaims.map (changeAt n g) := by
  show (s.floor.peers.map fun p => if p.station = n then f p else p).filterMap _ = (s.floor.peers.filterMap _).map _
  rw [List.filterMap_map, List.map_filterMap]
  refine List.filterMap_congr fun p _ => ?_
  dsimp only [Function.comp]
  by_cases hp : p.station = n
  · rw [if_pos hp, hstation, hclaim]
    cases p.claim <;> simp [changeAt, hp]
  · rw [if_neg hp]
    cases p.claim <;> simp [changeAt, hp]

theorem changePeer_peerRanks {n : Nat} {f : Peer → Peer} {g : LiveClaim → LiveClaim} (hstation : ∀ p, (f p).station = p.station)
    (hclaim : ∀ p, (f p).claim = p.claim.map g) (hg : KeepsRanks g) (s : State) : (changePeer n f s).peerRanks = s.peerRanks := by
  unfold State.peerRanks
  rw [changePeer_peerClaims hstation hclaim, List.map_map]
  refine List.map_congr_left fun x _ => ?_
  unfold Function.comp changeAt
  split
  · exact Prod.ext (hg x.2).1 ((hg x.2).2 x.1)
  · rfl

/-- Where the own claim is not the top-ranked one, the confirmation moves at most the record of one peer. -/
theorem confirmTop_of_peer_top {z : Nat} {s : State} (h : ∀ x, topClaim (s.claimsIn z) = some x → x.1 ≠ s.straps.station) :
    confirmTop z s = s ∨ ∃ n, confirmTop z s = changePeer n (Peer.confirmedIn s) s := by
  rcases confirmTop_cases z s with hsame | ⟨x, htop, -, hconfirmed⟩
  · exact .inl hsame
  · exact .inr ⟨x.1, hconfirmed.trans (confirmClaim_of_peer (h x htop))⟩

/-- What a confirmation of a peer's claim leaves. -/
structure BesideRecords (s w : State) : Prop extends AtExamination s.now s w where
  ranks : w.peerRanks = s.peerRanks
  panel : w.panel = s.panel

theorem confirmTop_besideRecords {z : Nat} {s : State}
    (h : ∀ x, topClaim (s.claimsIn z) = some x → x.1 ≠ s.straps.station) : BesideRecords s (confirmTop z s) := by
  rcases confirmTop_of_peer_top h with hsame | ⟨n, hsame⟩
  · rw [hsame]
    exact ⟨⟨rfl, rfl, rfl, rfl, rfl, rfl, rfl, rfl, rfl, rfl⟩, rfl, rfl⟩
  · rw [hsame]
    exact ⟨⟨rfl, rfl, rfl, rfl, rfl, rfl, rfl, rfl, rfl, rfl⟩,
      changePeer_peerRanks (Peer.confirmedIn_station s) (fun _ => rfl) (confirmedClaim_keepsRanks s) s, rfl⟩

section
variable {s w : State} {z : Nat} {c : LiveClaim} {x : Nat × LiveClaim} (hclaim : s.floor.own.claim = some c) (hzone : c.zone = z)
  (hx : x ∈ s.peerClaims) (hxz : x.2.zone = z) (hrank : (x.2.rankKey x.1).outranks (c.rankKey s.straps.station) = true)
include hclaim hx hxz hrank

theorem topClaim_of_outranked (hone : OneRecordEach s) :
    ∀ y, topClaim (s.claimsIn z) = some y → y.1 ≠ s.straps.station := by
  intro y htop hown
  have hyc : c = y.2 := Option.some.inj (hclaim.symm.trans (own_claim_of_mem hone (topClaim_mem htop) hown))
  have hmem : x ∈ s.claimsIn z := List.mem_filter.mpr ⟨mem_liveClaims.mpr (.inr hx), by simp [hxz]⟩
  have hnot := topClaim_not_outranked htop hmem
  rw [hown, ← hyc, hrank] at hnot
  cases hnot

include hzone

/-- An own claim, its window over, that a live claim of its zone outranks, is lost. -/
theorem examine_of_outranked (hone : OneRecordEach s) (hconfirmed : c.confirmed = false) (hreleased : s.floor.own.released = false)
    (hwindow : c.windowEnded s.now = true) :
    examine z s = claimLost (releaseWithdrawn (c.seq.getD 0) (confirmTop z s)) := by
  have hkept := confirmTop_besideRecords (topClaim_of_outranked hclaim hx hxz hrank hone)
  have houtranked : (confirmTop z s).ownOutranked c = true := by
    rw [ownOutranked_eq, hkept.ranks, hkept.straps, ← ownOutranked_eq]
    exact List.any_eq_true.mpr ⟨x, hx, by simp [hxz, hzone, hrank]⟩
  unfold examine decideLoss
  rw [hkept.own, hclaim]
  exact if_pos ⟨hzone, hconfirmed, hreleased, by rw [hkept.now]; exact hwindow, houtranked⟩

end

/-! The loss. -/

/-- What the own claim's loss finds: the RELEASE handed over, the entry in service still in the slot. -/
structure LosesFrom (t : Nat) (seq : Nat) (s r : State) : Prop where
  now : r.now = s.instant t
  mode : r.power.mode = s.power.mode
  straps : r.straps = s.straps
  hallState : r.hall.state = s.hall.state
  recovery : r.hall.recovery = s.hall.recovery
  seqKept : r.seq = s.seq
  panel : r.panel = s.panel
  claimsLost : r.floor.claimsLost = s.floor.claimsLost
  claimsConfirmed : r.floor.claimsConfirmed = s.floor.claimsConfirmed
  nextSeq : r.floor.own.nextSeq = s.floor.own.nextSeq
  ranks : r.peerRanks = s.peerRanks
  txList : s.hall.state.isFault = false → r.hall.txList = s.hall.txList ++ [⟨.release seq .withdrawn, false⟩]

theorem claimLost_leaves (s : State) : (claimLost s).now = s.now ∧ (claimLost s).straps = s.straps ∧ (claimLost s).panel = s.panel := by
  have henv := claimLost_env s
  exact ⟨congrArg Prod.fst henv, congrArg (fun x => x.2.2.1) henv, congrArg (fun x => x.2.2.1) (claimLost_outside s)⟩

/-- The one entry of the queue, in service, waits again. -/
theorem claimLost_seq_single {s : State} {v : Service} {e : Entry} (hslot : s.seq.slot = some v) (hqueue : s.seq.queue = [e])
    (htag : e.tag = v.tag) : (claimLost s).seq.slot = none ∧ (claimLost s).seq.queue = [{ e with state := .queued }] := by
  unfold claimLost returnToQueue
  simp only [State.onOwn_seq, State.onFloor_seq, hslot]
  refine ⟨rfl, ?_⟩
  show s.seq.queue.map _ = _
  rw [hqueue]
  exact congrArg (fun x => [x]) (if_pos htag)

/-- An entry that a live claim of the zone outranks is not selected to sound. -/
theorem not_eligible_of_outranked {s : State} {e : Entry} (hup : s.hall.state.isUp = true) (hsound : ¬ SilentNow s e)
    (h : s.outranked e.cls e.arrival = true) : s.eligible e = false := by
  refine Bool.eq_false_iff.mpr fun hmay => ?_
  obtain ⟨-, -, -, -, hsilent | haudible, -⟩ := (eligible_iff s e).mp hmay
  · exact hsound hsilent
  · have hperm := (audiblePermitted_iff s e).mpr haudible
    unfold State.audiblePermitted at hperm
    rw [h] at hperm
    cases hstate : s.hall.state with
    | off => rw [hstate] at hup; cases hup
    | fault cause => rw [hstate] at hup; cases hup
    | listenIn tm => simp [hstate] at hperm
    | on => simp [hstate] at hperm

section
variable {t seq : Nat} {s r : State} (h : LosesFrom t seq s r) (hawake : s.power.mode ≠ .sleep)
include h hawake

theorem LosesFrom.claimLost : ClaimLost s.hall.txList seq s (conclude (Machine.claimLost r)) := by
  have hmode : (Machine.claimLost r).power.mode ≠ .sleep := by
    rw [claimLost_power, h.mode]
    exact hawake
  obtain ⟨-, -, -, -, -, hlost, -⟩ := viewKept_of_view (conclude_view (Machine.claimLost r))
  refine ⟨?_, ?_, fun hfault hrecovery => ?_, conclude_entryReturns hmode fun v e _ he => ?_⟩
  · rw [hlost, claimLost_floor, h.claimsLost]
  · have hstate := conclude_floorState hmode
    rwa [claimLost_floor] at hstate
  · have hlist := conclude_txList hmode (by rw [claimLost_hall, h.recovery]; exact hrecovery)
    rw [claimLost_hall, h.txList hfault] at hlist
    exact listIs_of_nextSeq (by rw [claimLost_floor]; exact h.nextSeq) hlist
  · exact claimLost_entry (by unfold State.entry; rw [h.seqKept]; exact he)

/-- The one entry that the loss sends back stays there, since it is outranked. -/
theorem LosesFrom.waits {v : Service} {e : Entry} {route : Route} (hslot : s.seq.slot = some v) (hqueue : s.seq.queue = [e])
    (htag : e.tag = v.tag) (hup : s.hall.state.isUp = true) (hrecovery : s.hall.recovery ≠ .waiting)
    (hkind : (s.arrive t).kindFor e = .audible route) (hout : (s.arrive t).outranked e.cls e.arrival = true) :
    let u := conclude (Machine.claimLost r)
    u.seq.slot = none ∧ u.seq.queue = [{ e with state := .queued }] ∧ u.floor.own.state = .free
      ∧ u.hall.txList = s.hall.txList ++ [⟨.release seq .withdrawn, false⟩] := by
  obtain ⟨hnow, hstraps, hpanel⟩ := claimLost_leaves r
  obtain ⟨hslot', hqueue'⟩ := claimLost_seq_single (s := r) (by rw [h.seqKept]; exact hslot) (by rw [h.seqKept]; exact hqueue) htag
  have hhall := claimLost_hall r
  have hfloor := claimLost_floor r
  have hpower := claimLost_power r
  generalize Machine.claimLost r = w at *
  have hpeers : w.floor.peers = r.floor.peers := by rw [hfloor]
  have hranks : w.peerRanks = s.peerRanks := by
    refine Eq.trans ?_ h.ranks
    unfold State.peerRanks State.peerClaims
    rw [hpeers]
  have hsound : ¬ SilentNow w { e with state := .queued } := by
    have hs : ¬ SilentNow (s.arrive t) e := fun hsilent => by
      rw [(kindFor_silent_iff _ e).mpr hsilent] at hkind
      cases hkind
    unfold SilentNow at hs ⊢
    rw [hpanel, h.panel, hhall, h.hallState]
    exact hs
  have hlow : w.eligible { e with state := .queued } = false := by
    refine not_eligible_of_outranked (by rw [hhall, h.hallState]; exact hup) hsound ?_
    exact (outranked_congr (s := s.arrive t) (hnow.trans h.now) (hstraps.trans h.straps) hranks _ _).trans hout
  have hwait : w.hall.recovery ≠ .waiting := by
    rw [hhall, h.recovery]
    exact hrecovery
  have hnone : select w = w.onSeq fun q => { q with askedAt := w.now } :=
    select_of_none hslot' (by rw [hqueue', List.find?_cons_of_neg (by simp [hlow])]; rfl)
  have hbeside := conclude_of_selected (s := w) (by rw [hpower, h.mode]; exact hawake) hwait
  rw [hnone] at hbeside
  obtain ⟨-, hseq, -, -, -, huhall, hufloor, -⟩ := besideHolds_fields hbeside
  refine ⟨by rw [hseq]; exact hslot', by rw [hseq]; exact hqueue', by rw [hufloor]; exact (congrArg (·.own.state) hfloor :), ?_⟩
  rw [huhall]
  refine (congrArg HallPort.txList hhall).trans (h.txList ?_)
  cases hstate : s.hall.state with
  | fault cause => rw [hstate] at hup; cases hup
  | _ => rfl

theorem LosesFrom.lostTo : ClaimLostTo t s.hall.txList seq s (conclude (Machine.claimLost r)) := by
  refine ⟨h.claimLost hawake, ?_, fun v e route hslot hqueue htag hup hrecovery hkind hout => ?_⟩
  · obtain ⟨-, -, -, -, hconfirmed, -, -⟩ := viewKept_of_view (conclude_view (Machine.claimLost r))
    rw [hconfirmed, claimLost_floor, h.claimsConfirmed]
  · exact h.waits hawake hslot hqueue htag hup hrecovery hkind hout

end

end Sys2Proof.Machine
end

section
/-! The end of a claim's settle window (R79, R85, R88, R91, R92). -/

namespace Sys2Proof.Machine
open Sys2Proof Host Safety

/-! The top of the ranking, once a claim's window has settled. -/

theorem RankKey.outranks_self (k : RankKey) : k.outranks k = false := by simp [RankKey.outranks]

theorem topClaim_map {g : Nat × LiveClaim → Nat × LiveClaim} (hg : ∀ x, (g x).2.rankKey (g x).1 = x.2.rankKey x.1)
    (l : List (Nat × LiveClaim)) : topClaim (l.map g) = (topClaim l).map g := by
  induction l with
  | nil => rfl
  | cons x xs ih =>
    rw [List.map_cons]
    unfold topClaim
    rw [ih]
    cases topClaim xs with
    | none => rfl
    | some y =>
      simp only [Option.map_some, hg]
      split <;> rfl

/-- The first claim of a list tops it whatever else of it than its rank changes. -/
theorem topClaim_cons_congr {n : Nat} {c c' : LiveClaim} {l : List (Nat × LiveClaim)} (hrank : c'.rankKey n = c.rankKey n)
    (h : topClaim ((n, c) :: l) = some (n, c)) : topClaim ((n, c') :: l) = some (n, c') := by
  unfold topClaim at h ⊢
  split at h
  · rfl
  · next y hy =>
    dsimp only at h ⊢
    rw [hrank]
    split at h
    · next hout =>
      cases h
      rw [RankKey.outranks_self] at hout
      cases hout
    · next hout => rw [if_neg hout]

/-! The end of the window of the own claim. -/

theorem windowEnds_of_due {c : LiveClaim} {now : Nat} (hopen : c.settled = false) (hdue : c.heard + 60 ≤ now) :
    c.windowEnds now = true := by
  unfold LiveClaim.windowEnds
  rw [hopen, Timer.reached_of_due (tm := c.windowTimer) hdue]
  rfl

theorem settle_windowEnded (c : LiveClaim) (now : Nat) : c.settle.windowEnded now = true := rfl

theorem settleEnds_own {s : State} {n : Nat} {c : LiveClaim} (hn : n = s.straps.station) (hclaim : s.floor.own.claim = some c)
    (hopen : c.settled = false) (hdue : c.heard + 60 ≤ s.now) :
    settleEnds n s = examine c.zone (changeOwnClaim LiveClaim.settle s) := by
  unfold settleEnds
  rw [if_pos hn, hclaim]
  exact if_pos (windowEnds_of_due hopen hdue)

/-- A peer's record, the window of its claim ended. -/
def Peer.settled (p : Peer) : Peer := { p with claim := p.claim.map LiveClaim.settle }

theorem Peer.settled_station (p : Peer) : p.settled.station = p.station := rfl

theorem settleEnds_peer {s : State} {n : Nat} {c : LiveClaim} (hn : n ≠ s.straps.station)
    (hclaim : (s.peer n).bind Peer.claim = some c) (hopen : c.settled = false) (hdue : c.heard + 60 ≤ s.now) :
    settleEnds n s = examine c.zone (changePeer n Peer.settled s) := by
  unfold settleEnds
  rw [if_neg hn, hclaim]
  exact if_pos (windowEnds_of_due hopen hdue)

theorem changeOwnClaim_claim {s : State} {c : LiveClaim} (hclaim : s.floor.own.claim = some c) (g : LiveClaim → LiveClaim) :
    (changeOwnClaim g s).floor.own.claim = some (g c) := congrArg (Option.map g) hclaim

/-- The own claim leads the claims of its zone. -/
theorem claimsIn_own {s : State} {c : LiveClaim} (hclaim : s.floor.own.claim = some c) :
    s.claimsIn c.zone = (s.straps.station, c) :: s.peerClaims.filter fun x => x.2.zone = c.zone := by
  unfold State.claimsIn State.liveClaims
  rw [hclaim]
  exact List.filter_cons_of_pos (by simp)

theorem unconfirmed_of_noHolder {s : State} {z : Nat} (h : s.holderOf z = none) : ∀ y ∈ s.claimsIn z, y.2.confirmed = false := by
  intro y hy
  have hnone := List.find?_eq_none.mp h y hy
  simpa using hnone

/-- The own claim, top-ranked in a zone without a holder, is confirmed at its window's end. -/
theorem examine_confirms_own {s : State} {c : LiveClaim} (hclaim : s.floor.own.claim = some c) (hconfirmed : c.confirmed = false)
    (hholder : s.holderOf c.zone = none) (htop : topClaim (s.claimsIn c.zone) = some (s.straps.station, c)) :
    examine c.zone (changeOwnClaim LiveClaim.settle s) = confirmOwn (changeOwnClaim LiveClaim.settle s) := by
  have hclaim' := changeOwnClaim_claim hclaim LiveClaim.settle
  have hlist := claimsIn_own hclaim
  have hlist' : (changeOwnClaim LiveClaim.settle s).claimsIn c.zone =
      (s.straps.station, c.settle) :: s.peerClaims.filter fun x => x.2.zone = c.zone := claimsIn_own hclaim'
  have hno := unconfirmed_of_noHolder hholder
  rw [hlist] at htop hno
  have htop' : topClaim ((changeOwnClaim LiveClaim.settle s).claimsIn c.zone) = some (s.straps.station, c.settle) := by
    rw [hlist']
    exact topClaim_cons_congr (c := c) rfl htop
  have hno' : ∀ y ∈ (changeOwnClaim LiveClaim.settle s).claimsIn c.zone, y.2.confirmed = false := by
    rw [hlist']
    intro y hy
    rcases List.mem_cons.mp hy with rfl | hy
    · exact hconfirmed
    · exact hno y (List.mem_cons_of_mem _ hy)
  unfold examine
  rw [confirmTop_of_top hno' htop' (settle_windowEnded c _)]
  have hown : confirmClaim (s.straps.station, c.settle).1 (changeOwnClaim LiveClaim.settle s) =
      confirmOwn (changeOwnClaim LiveClaim.settle s) := if_pos rfl
  rw [hown, decideLoss_of_confirmed (confirmOwn_claim hclaim') rfl]

/-- The state from which the own confirmation starts its service: the claim confirmed and counted, the station HOLDING. -/
def State.confirmedHolding (s : State) : State :=
  ((changeOwnClaim s.confirmedClaim s).onFloor fun u => { u with claimsConfirmed := bump u.claimsConfirmed }).onOwn fun o =>
    { o with state := .holding }

theorem confirmOwn_starts {s : State} {v : Service} {route : Route} (hstate : s.floor.own.state = .claiming)
    (hreleased : s.floor.own.released = false) (hslot : s.seq.slot = some v) (hkind : v.kind = .audible route) :
    confirmOwn s = startAudible v.tag route v.script s.confirmedHolding := by
  have hstarts : seqConfirmed s.confirmedHolding = startAudible v.tag route v.script s.confirmedHolding := by
    unfold seqConfirmed
    have hslot' : s.confirmedHolding.seq.slot = some v := hslot
    rw [hslot']
    dsimp only
    rw [hkind]
  rw [← hstarts]
  exact if_pos ⟨hstate, hreleased⟩

/-- The own confirmation starts the whole service. -/
theorem confirmOwn_serviceStarted {s w : State} {v : Service} {e : Entry} {route : Route} (hawake : w.power.mode ≠ .sleep)
    (hat : w.atStart = s.atStart) (hdisplay : w.display = s.display) (hstate : w.floor.own.state = .claiming)
    (hreleased : w.floor.own.released = false) (hslot : w.seq.slot = some v) (hkind : v.kind = .audible route)
    (he : w.entry v.tag = some e) : ServiceStarted e route v s (conclude (confirmOwn w)) := by
  have hstarts := confirmOwn_starts hstate hreleased hslot hkind
  have hstarted : ServiceStarted e route v s (confirmOwn w) := by
    rw [hstarts]
    exact startAudible_started (st := w.confirmedHolding) hawake hat hdisplay he hslot
  have hmode : (confirmOwn w).power.mode = .active := hstarted.1
  obtain ⟨-, hspeaks⟩ := confirmOwn_speaks hstate hreleased hslot hkind he
  obtain ⟨x, hslot'⟩ := serviceStarted_slot hstarted
  have hserved : (confirmOwn w).served = some { e with state := .speaking, deadline := none } := by
    unfold State.served
    rw [hslot']
    exact hspeaks
  exact serviceStarted_of_besideHolds (conclude_of_speaks (by rw [hmode]; nofun) (slotSpeaks_of_served hserved rfl)) hstarted

/-! The end of the window of a peer's claim. -/

theorem settled_claimsIn {s : State} {n : Nat} (hn : n ≠ s.straps.station) (z : Nat) :
    (changePeer n Peer.settled s).claimsIn z = (s.claimsIn z).map (changeAt n LiveClaim.settle) := by
  have hpeers : (changePeer n Peer.settled s).peerClaims = s.peerClaims.map (changeAt n LiveClaim.settle) :=
    changePeer_peerClaims Peer.settled_station (fun _ => rfl) s
  have hlive : (changePeer n Peer.settled s).liveClaims = s.liveClaims.map (changeAt n LiveClaim.settle) := by
    have hown : (changePeer n Peer.settled s).floor.own = s.floor.own := rfl
    have hstraps : (changePeer n Peer.settled s).straps = s.straps := rfl
    unfold State.liveClaims
    rw [hown, hstraps, hpeers]
    split
    · rw [List.map_cons]
      exact congrArg (· :: _) (if_neg (Ne.symm hn)).symm
    · rfl
  have hzone (x : Nat × LiveClaim) : (changeAt n LiveClaim.settle x).2.zone = x.2.zone := by
    unfold changeAt
    split <;> rfl
  unfold State.claimsIn
  rw [hlive, List.filter_map]
  refine congrArg (List.map _) (List.filter_congr fun x _ => ?_)
  dsimp only [Function.comp]
  rw [hzone]

theorem changeAt_settle_keeps (n : Nat) (x : Nat × LiveClaim) :
    (changeAt n LiveClaim.settle x).1 = x.1 ∧ (changeAt n LiveClaim.settle x).2.confirmed = x.2.confirmed
      ∧ (changeAt n LiveClaim.settle x).2.rankKey (changeAt n LiveClaim.settle x).1 = x.2.rankKey x.1 := by
  unfold changeAt
  split <;> exact ⟨rfl, rfl, rfl⟩

theorem settled_topClaim {s : State} {n : Nat} (hn : n ≠ s.straps.station) (z : Nat) :
    topClaim ((changePeer n Peer.settled s).claimsIn z) = (topClaim (s.claimsIn z)).map (changeAt n LiveClaim.settle) := by
  rw [settled_claimsIn hn, topClaim_map fun x => (changeAt_settle_keeps n x).2.2]

theorem settled_confirmed {s : State} {n : Nat} (hn : n ≠ s.straps.station) (z : Nat) :
    (∃ x ∈ (changePeer n Peer.settled s).claimsIn z, x.2.confirmed = true) ↔ ∃ x ∈ s.claimsIn z, x.2.confirmed = true := by
  rw [settled_claimsIn hn]
  simp only [List.mem_map, exists_exists_and_eq_and, changeAt_settle_keeps]

/-- The record of a station whose claim has settled, where the examination leaves it so. -/
theorem settled_stays {s : State} {n : Nat} {p : Peer} {c : LiveClaim} (hpeer : s.peer n = some p) (hpc : p.claim = some c)
    (z : Nat) (h : (confirmTop z (changePeer n Peer.settled s)).records n = (changePeer n Peer.settled s).records n) :
    (conclude (examine z (changePeer n Peer.settled s))).peer n = some { p with claim := some { c with settled := true } } := by
  obtain ⟨hrecords, -, -⟩ := conclude_examine_leaves z (changePeer n Peer.settled s)
  rw [State.peer_of_records_eq ((hrecords n).trans h), changePeer_peer_same Peer.settled_station, hpeer, Option.map_some]
  unfold Peer.settled
  rw [hpc]
  rfl

section
variable {t n z : Nat} {s : State} {p : Peer} {c : LiveClaim} (hn : n ≠ s.straps.station) (hpeer : s.peer n = some p)
  (hpc : p.claim = some c)
include hn hpeer hpc

theorem settleEnds_peer_confirms (hholder : s.holderOf z = none) (htop : topClaim (s.claimsIn z) = some (n, c)) :
    let u := conclude (examine z (changePeer n Peer.settled s))
    u.peer n = some { p with claim := some (s.confirmedClaim c.settle), lastConfirmed := some s.now }
      ∧ (∀ m, m ≠ n → u.peer m = s.peer m) ∧ u.floor.claimsConfirmed = s.floor.claimsConfirmed := by
  have hno : ∀ y ∈ (changePeer n Peer.settled s).claimsIn z, y.2.confirmed = false := by
    intro y hy
    refine Bool.eq_false_iff.mpr fun hc => ?_
    obtain ⟨x, hx, hxc⟩ := (settled_confirmed hn z).mp ⟨y, hy, hc⟩
    rw [unconfirmed_of_noHolder hholder x hx] at hxc
    cases hxc
  have htop' : topClaim ((changePeer n Peer.settled s).claimsIn z) = some (n, c.settle) := by
    rw [settled_topClaim hn, htop]
    exact congrArg some (if_pos rfl)
  obtain ⟨hrecords, -, hconfirmed⟩ := conclude_examine_leaves z (changePeer n Peer.settled s)
  rw [confirmTop_of_top hno htop' (settle_windowEnded c _), confirmClaim_of_peer (by exact hn)] at hrecords hconfirmed
  refine ⟨?_, fun m hm => State.peer_of_records_eq ?_, hconfirmed⟩
  · rw [State.peer_of_records_eq (hrecords n), changePeer_peer_same (Peer.confirmedIn_station _),
      changePeer_peer_same Peer.settled_station, hpeer, Option.map_some, Option.map_some]
    unfold Peer.confirmedIn Peer.settled
    rw [hpc]
    rfl
  · rw [hrecords m, changePeer_records_of_ne (Peer.confirmedIn_station _) hm, changePeer_records_of_ne Peer.settled_station hm]

theorem settleEnds_peer_besideHolder (hholder : s.holderOf z ≠ none) :
    let u := conclude (examine z (changePeer n Peer.settled s))
    u.peer n = some { p with claim := some { c with settled := true } }
      ∧ (∀ m, m ≠ n → u.peer m = s.peer m) ∧ u.floor.claimsConfirmed = s.floor.claimsConfirmed := by
  have hholds := (settled_confirmed hn z).mpr (State.holderOf_isSome.mp (Option.isSome_iff_ne_none.mpr hholder))
  have hsame := confirmTop_of_none (.inl hholds)
  obtain ⟨hrecords, -, hconfirmed⟩ := conclude_examine_leaves z (changePeer n Peer.settled s)
  refine ⟨settled_stays hpeer hpc z (by rw [hsame]), fun m hm => State.peer_of_records_eq ?_, ?_⟩
  · rw [hrecords m, hsame, changePeer_records_of_ne Peer.settled_station hm]
  · rw [hconfirmed, hsame]
    rfl

theorem settleEnds_peer_lower {x : Nat × LiveClaim} (htop : topClaim (s.claimsIn z) = some x) (hx : x.1 ≠ n) :
    (conclude (examine z (changePeer n Peer.settled s))).peer n = some { p with claim := some { c with settled := true } } := by
  refine settled_stays hpeer hpc z ?_
  rcases confirmTop_cases z (changePeer n Peer.settled s) with hsame | ⟨y, hy, -, hconfirmed⟩
  · rw [hsame]
  · rw [settled_topClaim hn, htop] at hy
    have hyx : y.1 = x.1 := by
      rw [← Option.some.inj hy]
      exact (changeAt_settle_keeps n x).1
    rw [hconfirmed]
    by_cases hown : y.1 = s.straps.station
    · unfold confirmClaim
      rw [if_pos (by exact hown)]
      exact State.records_of_peers_eq (confirmOwn_peers _) n
    · rw [confirmClaim_of_peer (by exact hown)]
      exact changePeer_records_of_ne (Peer.confirmedIn_station _) (by rw [hyx]; exact Ne.symm hx) _

end

/-! The loss of the own claim at a window's end. -/

/-- A state at an instant's examination: beside the records of the claims it is the state before. -/
structure OnlyClaimsMoved (t : Nat) (s w : State) : Prop where
  now : w.now = s.instant t
  mode : w.power.mode = s.power.mode
  straps : w.straps = s.straps
  hall : w.hall = s.hall
  seqKept : w.seq = s.seq
  panel : w.panel = s.panel
  claimsLost : w.floor.claimsLost = s.floor.claimsLost
  claimsConfirmed : w.floor.claimsConfirmed = s.floor.claimsConfirmed
  nextSeq : w.floor.own.nextSeq = s.floor.own.nextSeq
  ranks : w.peerRanks = s.peerRanks

theorem onlyClaimsMoved_own (t : Nat) (s : State) (g : LiveClaim → LiveClaim) :
    OnlyClaimsMoved t s (changeOwnClaim g (s.arrive t)) := ⟨rfl, rfl, rfl, rfl, rfl, rfl, rfl, rfl, rfl, rfl⟩

theorem onlyClaimsMoved_settled (t n : Nat) (s : State) : OnlyClaimsMoved t s (changePeer n Peer.settled (s.arrive t)) :=
  ⟨rfl, rfl, rfl, rfl, rfl, rfl, rfl, rfl, rfl,
    changePeer_peerRanks Peer.settled_station (fun _ => rfl) settle_keepsRanks (s.arrive t)⟩

/-- The loss finds the RELEASE at the end of the list. -/
theorem OnlyClaimsMoved.handsRelease {t : Nat} {s w r : State} (h : OnlyClaimsMoved t s w) (hr : BesideRecords w r) (seq : Nat) :
    LosesFrom t seq s (handFrame (.release seq .withdrawn) r) := by
  have hranks : (handFrame (.release seq .withdrawn) r).peerRanks = r.peerRanks := by
    unfold State.peerRanks State.peerClaims
    rw [handFrame_floor]
  have hout := handFrame_outside (.release seq .withdrawn) r
  have henv := handFrame_env (.release seq .withdrawn) r
  have hstate : (handFrame (.release seq .withdrawn) r).hall.state = r.hall.state := congrArg (fun x => x.1.state) hout
  refine ⟨?_, ?_, ?_, ?_, ?_, ?_, ?_, ?_, ?_, ?_, ?_, fun hfault => ?_⟩
  · exact (congrArg Prod.fst henv).trans (hr.now.trans h.now)
  · rw [handFrame_power, hr.mode, h.mode]
  · exact (congrArg (fun x => x.2.2.1) henv).trans (hr.straps.trans h.straps)
  · rw [hstate, hr.hallState, h.hall]
  · rw [handFrame_recovery, hr.recovery, h.hall]
  · rw [handFrame_seq, hr.seq, h.seqKept]
  · exact (congrArg (fun x => x.2.2.1) hout).trans (hr.panel.trans h.panel)
  · rw [handFrame_floor, hr.claimsLost, h.claimsLost]
  · rw [handFrame_floor, hr.claimsConfirmed, h.claimsConfirmed]
  · rw [handFrame_floor, hr.own, h.nextSeq]
  · rw [hranks, hr.ranks, h.ranks]
  · rw [handFrame_txList (by rw [hr.hallState, h.hall]; exact hfault), hr.txList, h.hall]

theorem OnlyClaimsMoved.losesFrom {t : Nat} {s w r : State} (h : OnlyClaimsMoved t s w) (hr : BesideRecords w r) (seq : Nat) :
    LosesFrom t seq s (releaseWithdrawn seq r) := by
  obtain ⟨hnow, hmode, hstraps, hstate, hrecovery, hseq, hpanel, hlost, hcount, hnext, hranks, hlist⟩ := h.handsRelease hr seq
  exact ⟨hnow, hmode, hstraps, hstate, hrecovery, hseq, hpanel, hlost, hcount, hnext, hranks, hlist⟩

section
variable {t seq : Nat} {s w : State} {c : LiveClaim} {x : Nat × LiveClaim} (h : OnlyClaimsMoved t s w)
  (hawake : s.power.mode ≠ .sleep) (hone : OneRecordEach w) (hclaim : w.floor.own.claim = some c) (hseq : c.seq = some seq)
  (hconfirmed : c.confirmed = false) (hreleased : w.floor.own.released = false) (hwindow : c.windowEnded w.now = true)
  (hx : x ∈ w.peerClaims) (hxz : x.2.zone = c.zone) (hrank : (x.2.rankKey x.1).outranks (c.rankKey w.straps.station) = true)
include h hawake hone hclaim hseq hconfirmed hreleased hwindow hx hxz hrank

/-- The examination that the own claim does not survive. -/
theorem OnlyClaimsMoved.loses :
    ClaimLostTo t s.hall.txList seq s (conclude (examine c.zone w))
      ∧ (conclude (examine c.zone w)).floor.own.claim = some c ∧ (conclude (examine c.zone w)).floor.own.released = true := by
  have hr := confirmTop_besideRecords (topClaim_of_outranked hclaim hx hxz hrank hone)
  rw [examine_of_outranked hclaim rfl hx hxz hrank hone hconfirmed hreleased hwindow, hseq]
  obtain ⟨-, hclaim', hreleased', -⟩ := viewKept_of_view
    (conclude_view (claimLost (releaseWithdrawn ((some seq).getD 0) (confirmTop c.zone w))))
  refine ⟨(h.losesFrom hr seq).lostTo hawake, ?_, ?_⟩
  · rw [hclaim', claimLost_floor, releaseWithdrawn_floor]
    exact (congrArg OwnFloor.claim hr.own).trans hclaim
  · rw [hreleased', claimLost_floor, releaseWithdrawn_floor]

end

theorem oneRecordEach_settled {s : State} (h : OneRecordEach s) (n : Nat) : OneRecordEach (changePeer n Peer.settled s) := by
  have hpeers : (changePeer n Peer.settled s).floor.peers = s.floor.peers.map fun p => if p.station = n then p.settled else p := rfl
  have hstation (p : Peer) : (if p.station = n then p.settled else p).station = p.station := by split <;> rfl
  unfold OneRecordEach
  rw [hpeers, List.map_map]
  refine ⟨?_, fun q hq => ?_⟩
  · have hsame : Peer.station ∘ (fun p : Peer => if p.station = n then p.settled else p) = Peer.station := funext hstation
    rw [hsame]
    exact h.1
  · obtain ⟨p, hp, rfl⟩ := List.mem_map.mp hq
    rw [hstation]
    exact h.2 p hp

/-- A live claim as it stands once the window of a claim of its zone has ended. -/
theorem mem_settled_peerClaims {s : State} {x : Nat × LiveClaim} (hx : x ∈ s.peerClaims) (n : Nat) :
    changeAt n LiveClaim.settle x ∈ (changePeer n Peer.settled s).peerClaims := by
  rw [changePeer_peerClaims Peer.settled_station fun _ => rfl]
  exact List.mem_map_of_mem hx

theorem exec_settleWindowEnd (t : Nat) (n : BitVec 5) {s : State} (hawake : s.power.mode ≠ .sleep) :
    exec (.settleWindowEnd t n) s = .next (conclude (settleEnds n.toNat (s.arrive t))) := by
  have hexec : exec (.settleWindowEnd t n) s = concluding t (settleEnds n.toNat) s := rfl
  rw [hexec, concluding_of_awake hawake]

/-- Settles O42. -/
theorem settleWindowEndConfirms : Obligations.SettleWindowEndConfirms := by
  refine ⟨?_, ?_, ?_⟩
  · intro t n s c v route e hawake hn hclaim hopen hconfirmed hdue hholder htop hstate hreleased hslot hkind he
    have hconfirms : settleEnds n.toNat (s.arrive t) = confirmOwn (changeOwnClaim LiveClaim.settle (s.arrive t)) := by
      rw [settleEnds_own (s := s.arrive t) hn hclaim hopen hdue]
      exact examine_confirms_own (s := s.arrive t) hclaim hconfirmed hholder (by rw [hn] at htop; exact htop)
    have hexec := exec_settleWindowEnd t n hawake
    rw [hconfirms] at hexec
    have hstarted : ServiceStarted e route v s (conclude (confirmOwn (changeOwnClaim LiveClaim.settle (s.arrive t)))) :=
      confirmOwn_serviceStarted (w := changeOwnClaim LiveClaim.settle (s.arrive t)) hawake rfl rfl hstate hreleased hslot hkind he
    have hclaim' : (changeOwnClaim LiveClaim.settle (s.arrive t)).floor.own.claim = some c.settle := changeOwnClaim_claim hclaim _
    generalize hw : changeOwnClaim LiveClaim.settle (s.arrive t) = w at *
    obtain ⟨hsome, hspeaks⟩ := confirmOwn_speaks (s := w) (v := v) (e := e) (route := route) (by rw [← hw]; exact hstate)
      (by rw [← hw]; exact hreleased) (by rw [← hw]; exact hslot) hkind (by rw [← hw]; exact he)
    obtain ⟨hcount, hholding⟩ := confirmOwn_of_claiming (s := w) (by rw [← hw]; exact hstate) (by rw [← hw]; exact hreleased)
    obtain ⟨hseq, hfloor, -⟩ := conclude_of_slot hsome
    have houtside : (conclude (confirmOwn w)).outside = s.outside := by
      rw [conclude_outside, confirmOwn_outside, ← hw]
      rfl
    obtain ⟨hbesides, hreports⟩ := besidesHallKept_of_outside houtside
    refine ⟨_, { e with state := .speaking, deadline := none }, hexec, by rw [hfloor]; exact hholding, ?_, ?_,
      by unfold State.entry at *; rw [hseq]; exact hspeaks, rfl, rfl, rfl, ?_, hstarted, ?_, lineKept_of_outside houtside, hreports, hbesides⟩
    · rw [hfloor, confirmOwn_claim hclaim', ← hw]
      rfl
    · rw [hfloor, hcount, ← hw]
      rfl
    · have henv : (conclude (confirmOwn w)).env = w.env := by rw [conclude_env, confirmOwn_env]
      refine (congrArg Prod.fst henv).trans ?_
      rw [← hw]
      rfl
    · rw [hfloor, confirmOwn_peers, ← hw]
      rfl
  · intro t n s p c hawake hn hpeer hpc hopen hconfirmed hdue
    have hsettles : settleEnds n.toNat (s.arrive t) = examine c.zone (changePeer n.toNat Peer.settled (s.arrive t)) :=
      settleEnds_peer (s := s.arrive t) hn ((congrArg (Option.bind · Peer.claim) hpeer).trans hpc) hopen hdue
    have hexec := exec_settleWindowEnd t n hawake
    rw [hsettles] at hexec
    have houtside : (conclude (examine c.zone (changePeer n.toNat Peer.settled (s.arrive t)))).outside = s.outside := by
      rw [conclude_outside, examine_outside]
      rfl
    obtain ⟨hbesides, hreports⟩ := besidesHallKept_of_outside houtside
    exact ⟨_, hexec, settleEnds_peer_confirms (s := s.arrive t) hn hpeer hpc,
      settleEnds_peer_besideHolder (s := s.arrive t) hn hpeer hpc,
      fun x => settleEnds_peer_lower (s := s.arrive t) hn hpeer hpc, lineKept_of_outside houtside, hreports, hbesides⟩
  · intro t n s c x seq hawake hclaim hseq hconfirmed hreleased hone hx hxz hrank hcases
    suffices hw : ∃ w, exec (.settleWindowEnd t n) s = .next (conclude (examine c.zone w)) ∧ w.outside = s.outside
        ∧ ClaimLostTo t s.hall.txList seq s (conclude (examine c.zone w))
        ∧ (conclude (examine c.zone w)).floor.own.claim = some { c with settled := c.settled || decide (n.toNat = s.straps.station) }
        ∧ (conclude (examine c.zone w)).floor.own.released = true by
      obtain ⟨w, hexec, hwout, hlost, hown, hout⟩ := hw
      have houtside : (conclude (examine c.zone w)).outside = s.outside := by
        rw [conclude_outside, examine_outside, hwout]
      obtain ⟨hbesides, hreports⟩ := besidesHallKept_of_outside houtside
      exact ⟨_, hexec, hlost, hown, hout, lineKept_of_outside houtside, hreports, hbesides⟩
    have hexec := exec_settleWindowEnd t n hawake
    rcases hcases with ⟨hn, hopen, hdue⟩ | ⟨hn, hwindow, d, hd, hdz, hdopen, hdue⟩
    · rw [settleEnds_own (s := s.arrive t) hn hclaim hopen hdue] at hexec
      obtain ⟨hlost, hown, hout⟩ := (onlyClaimsMoved_own t s LiveClaim.settle).loses hawake hone (changeOwnClaim_claim hclaim _) hseq
        hconfirmed hreleased (settle_windowEnded c _) hx hxz hrank
      refine ⟨_, hexec, rfl, hlost, hown.trans ?_, hout⟩
      rw [hopen, decide_eq_true hn]
      rfl
    · rw [settleEnds_peer (s := s.arrive t) hn hd hdopen hdue, hdz] at hexec
      have hx' := mem_settled_peerClaims (s := s.arrive t) hx n.toNat
      obtain ⟨-, -, hxrank⟩ := changeAt_settle_keeps n.toNat x
      have hxzone : (changeAt n.toNat LiveClaim.settle x).2.zone = c.zone := by
        unfold changeAt
        split <;> exact hxz
      obtain ⟨hlost, hown, hout⟩ := (onlyClaimsMoved_settled t n.toNat s).loses hawake
        (oneRecordEach_settled (s := s.arrive t) hone n.toNat) hclaim hseq hconfirmed hreleased hwindow hx' hxzone
        (by rw [hxrank]; exact hrank)
      refine ⟨_, hexec, rfl, hlost, hown.trans ?_, hout⟩
      rw [decide_eq_false hn, Bool.or_false]

end Sys2Proof.Machine
end

section
/-! A peer's silence and the expiry of claims (R77, R83, R93, R99), with the examination of the zone (R84, R85, R92). -/

namespace Sys2Proof.Machine
open Sys2Proof Host Safety

/-! A peer's claim that has gone. -/

/-- A removed claim leaves its zone to be examined. -/
theorem removePeerClaim_eq {s : State} {n : Nat} {c : LiveClaim} (h : (s.peer n).bind Peer.claim = some c) :
    removePeerClaim n s = examine c.zone (changePeer n (Peer.withClaim none) s) := by
  unfold removePeerClaim
  rw [h]
  rfl

theorem removePeerClaim_of_none {s : State} {n : Nat} (h : (s.peer n).bind Peer.claim = none) : removePeerClaim n s = s := by
  unfold removePeerClaim
  rw [h]

theorem withoutClaim_claimsIn {s : State} {n : Nat} (hn : n ≠ s.straps.station) (z : Nat) :
    (changePeer n (Peer.withClaim none) s).claimsIn z = (s.claimsIn z).filter fun x => decide (x.1 ≠ n) := by
  have hlive : (changePeer n (Peer.withClaim none) s).liveClaims = s.liveClaims.filter fun x => decide (x.1 ≠ n) := by
    have hown : (changePeer n (Peer.withClaim none) s).floor.own = s.floor.own := rfl
    have hstraps : (changePeer n (Peer.withClaim none) s).straps = s.straps := rfl
    unfold State.liveClaims
    rw [hown, hstraps, changePeer_withoutClaim_peerClaims]
    split
    · rw [List.filter_cons_of_pos (by simpa using Ne.symm hn)]
    · rfl
  unfold State.claimsIn
  rw [hlive, List.filter_comm]

/-- A claim removed at an instant: what the examination of its zone finds. -/
theorem withoutClaim_removed {s r : State} {t n : Nat} (h : AtExamination (s.instant t) s r) (hn : n ≠ s.straps.station)
    (hclaims : r.peerClaims = s.peerClaims) (hrecords : ∀ m, m ≠ n → r.records m = s.records m) (z : Nat) :
    ClaimRemoved (s.instant t) z n s (changePeer n (Peer.withClaim none) r) := by
  have hlive : r.liveClaims = s.liveClaims := by
    unfold State.liveClaims
    rw [h.own, h.straps, hclaims]
  refine ⟨h.changePeer n _, ?_, fun m hm => ?_⟩
  · rw [withoutClaim_claimsIn (by rw [h.straps]; exact hn)]
    unfold State.claimsIn
    rw [hlive]
  · rw [changePeer_records_of_ne (Peer.withClaim_station none) hm, hrecords m hm]

/-- The examination after a claim has gone leaves its station's record without one. -/
theorem examine_withoutClaim_peer {s : State} {n : Nat} {p : Peer} (hpeer : s.peer n = some p) (z : Nat) :
    (conclude (examine z (changePeer n (Peer.withClaim none) s))).peer n = some (p.withClaim none) := by
  have hrecords : (examine z (changePeer n (Peer.withClaim none) s)).records n =
      (changePeer n (Peer.withClaim none) s).records n := by
    refine examine_records (fun q hq c hc => ?_) z
    rw [changePeer_records_same (Peer.withClaim_station none)] at hq
    obtain ⟨q', -, rfl⟩ := List.mem_map.mp hq
    cases hc
  rw [conclude_peer, State.peer_of_records_eq hrecords, changePeer_peer_same (Peer.withClaim_station none), hpeer]
  rfl

/-! The latches through an examination. -/

theorem seqConfirmed_latches (s : State) : (seqConfirmed s).link.latches.besideMasked = s.link.latches.besideMasked := by
  unfold seqConfirmed
  split
  · split
    · exact startAudible_latches ..
    · rfl
  · rfl

theorem confirmOwn_latches (s : State) : (confirmOwn s).link.latches.besideMasked = s.link.latches.besideMasked := by
  unfold confirmOwn
  dsimp only
  split
  · rw [seqConfirmed_latches]
    rfl
  · rfl

theorem returnToQueue_link (s : State) : (returnToQueue s).link = s.link := by
  unfold returnToQueue
  split <;> rfl

theorem claimLost_link (s : State) : (claimLost s).link = s.link := by
  unfold claimLost
  rw [returnToQueue_link]
  rfl

theorem examine_latches (z : Nat) (s : State) : (examine z s).link.latches.besideMasked = s.link.latches.besideMasked := by
  have hloss : (decideLoss z (confirmTop z s)).link = (confirmTop z s).link := by
    rcases decideLoss_cases z (confirmTop z s) with h | ⟨seq, h⟩
    · rw [h]
    · rw [h, claimLost_link]
      exact handFrame_link _ _
  unfold examine
  rw [hloss]
  rcases confirmTop_cases z s with h | ⟨x, -, -, h⟩
  · rw [h]
  · rw [h]
    by_cases hown : x.1 = s.straps.station
    · unfold confirmClaim
      rw [if_pos hown]
      exact confirmOwn_latches s
    · rw [confirmClaim_of_peer hown]
      rfl

theorem peerLost_of_besideMasked {l l' : Latches} (h : l.besideMasked = l'.besideMasked) : l.peerLost = l'.peerLost := by
  have hlatch := congrArg Latches.peerLost h
  exact hlatch

theorem conclude_examine_peerLost (z : Nat) (s : State) :
    (conclude (examine z s)).link.latches.peerLost = s.link.latches.peerLost :=
  peerLost_of_besideMasked (conclude_amp_latch.2.trans (examine_latches z s))

/-! A peer that has fallen silent. -/

/-- A peer's record once the peer is LOST. -/
def Peer.asLost (p : Peer) : Peer := { p with presence := .lost }

theorem Peer.asLost_station (p : Peer) : p.asLost.station = p.station := rfl

/-- The view with a peer LOST, its claim still there, and the latch set. -/
def State.peerSilenced (n : Nat) (s : State) : State :=
  latch (fun l => { l with peerLost := true }) (changePeer n Peer.asLost s)

theorem peerSilenced_peer {s : State} {n : Nat} {p : Peer} (hpeer : s.peer n = some p) :
    (s.peerSilenced n).peer n = some p.asLost := by
  have hsame : (s.peerSilenced n).peer n = (changePeer n Peer.asLost s).peer n := rfl
  rw [hsame, changePeer_peer_same Peer.asLost_station, hpeer]
  rfl

theorem peerSilenced_peerClaims (n : Nat) (s : State) : (s.peerSilenced n).peerClaims = s.peerClaims := by
  show (s.floor.peers.map fun p => if p.station = n then p.asLost else p).filterMap _ = s.floor.peers.filterMap _
  rw [List.filterMap_map]
  refine List.filterMap_congr fun p _ => ?_
  dsimp only [Function.comp]
  split <;> rfl

theorem peerSilenced_records {n m : Nat} (h : m ≠ n) (s : State) : (s.peerSilenced n).records m = s.records m := by
  have hsame : (s.peerSilenced n).records m = (changePeer n Peer.asLost s).records m := rfl
  rw [hsame, changePeer_records_of_ne Peer.asLost_station h]

theorem exec_peerLost (t : Nat) (n : BitVec 5) {s : State} {p : Peer} (hawake : s.power.mode ≠ .sleep)
    (hpeer : s.peer n.toNat = some p) (hpresent : p.presence = .present) (hdue : DueAt s t (p.lastHeard + 6500)) :
    exec (.peerLost t n) s = .next (conclude (removePeerClaim n.toNat ((s.arrive t).peerSilenced n.toNat))) := by
  have hsilent : peerSilent n.toNat (s.arrive t) = peerBecomesLost n.toNat (s.arrive t) := by
    have hpeer' : (s.arrive t).peer n.toNat = some p := hpeer
    unfold peerSilent
    rw [hpeer']
    exact if_pos ⟨hpresent, Timer.reached_of_due (tm := p.lostTimer) hdue⟩
  have hexec : exec (.peerLost t n) s = concluding t (peerSilent n.toNat) s := rfl
  rw [hexec, concluding_of_awake hawake, hsilent]
  rfl

theorem peerLost_ages {t : Nat} {n : BitVec 5} {s : State} {p : Peer} (hawake : s.power.mode ≠ .sleep)
    (hpeer : s.peer n.toNat = some p) (hpresent : p.presence = .present) (hdue : DueAt s t (p.lastHeard + 6500)) :
    ∃ u q, exec (.peerLost t n) s = .next u
      ∧ u.peer n.toNat = some q ∧ q.presence = .lost ∧ q.claim = none ∧ q.lastHeard = p.lastHeard
      ∧ (∀ c, OneRecordEach s → p.claim = some c → Examined t c.zone n.toNat s u)
      ∧ u.link.latches.peerLost = true ∧ LineKept s u ∧ ReportsKept s u ∧ BesidesHallKept s u := by
  have hexec := exec_peerLost t n hawake hpeer hpresent hdue
  have hsilenced := peerSilenced_peer (s := s.arrive t) hpeer
  have hlatch : ((s.arrive t).peerSilenced n.toNat).link.latches.peerLost = true := rfl
  have houtside : (conclude (removePeerClaim n.toNat ((s.arrive t).peerSilenced n.toNat))).outside = s.outside := by
    rw [conclude_outside, removePeerClaim_outside]
    rfl
  obtain ⟨hbesides, hreports⟩ := besidesHallKept_of_outside houtside
  have hline := lineKept_of_outside houtside
  cases hpc : p.claim with
  | none =>
    have hremoves := removePeerClaim_of_none (s := (s.arrive t).peerSilenced n.toNat) (n := n.toNat) (by rw [hsilenced]; exact hpc)
    rw [hremoves] at hexec hline hbesides hreports
    exact ⟨_, p.asLost, hexec, (conclude_peer _ _).trans hsilenced, rfl, hpc, rfl, fun c _ hc => absurd hc nofun,
      (peerLost_of_besideMasked conclude_amp_latch.2).trans hlatch, hline, hreports, hbesides⟩
  | some c =>
    have hremoves := removePeerClaim_eq (s := (s.arrive t).peerSilenced n.toNat) (n := n.toNat) (c := c)
      (by rw [hsilenced]; exact hpc)
    rw [hremoves] at hexec hline hbesides hreports
    refine ⟨_, p.asLost.withClaim none, hexec, examine_withoutClaim_peer hsilenced c.zone, rfl, rfl, rfl, fun c' hone hc => ?_,
      (conclude_examine_peerLost ..).trans hlatch, hline, hreports, hbesides⟩
    obtain rfl := Option.some.inj hc
    have hother : n.toNat ≠ s.straps.station := by
      have hmem := List.mem_of_find?_eq_some hpeer
      have hstation : p.station = n.toNat := by simpa using List.find?_some hpeer
      exact hstation ▸ (hone.2 p hmem).2.2
    have hremoved := withoutClaim_removed (s := s) (r := (s.arrive t).peerSilenced n.toNat) (t := t) (n := n.toNat)
      ⟨rfl, rfl, rfl, rfl, rfl, rfl, rfl, rfl, rfl, rfl⟩ hother (peerSilenced_peerClaims _ (s.arrive t))
      (fun m hm => peerSilenced_records hm (s.arrive t)) c.zone
    exact hremoved.examined hone hawake

/-! A claim at its expiry. -/

theorem exec_claimExpiry (t : Nat) (n : BitVec 5) {s : State} (hawake : s.power.mode ≠ .sleep) :
    exec (.claimExpiry t n) s = .next (conclude (claimExpires n.toNat (s.arrive t))) := by
  have hexec : exec (.claimExpiry t n) s = concluding t (claimExpires n.toNat) s := rfl
  rw [hexec, concluding_of_awake hawake]

theorem claimExpires_peer {s : State} {n : Nat} {c : LiveClaim} (hn : n ≠ s.straps.station)
    (hclaim : (s.peer n).bind Peer.claim = some c) (hdue : c.expiry.due ≤ s.now) :
    claimExpires n s = removePeerClaim n s := by
  unfold claimExpires
  rw [if_neg hn, hclaim]
  exact if_pos (Timer.reached_of_due hdue)

theorem claimExpires_own {s : State} {n : Nat} {c : LiveClaim} (hn : n = s.straps.station) (hclaim : s.floor.own.claim = some c)
    (hdue : c.expiry.due ≤ s.now) : claimExpires n s = ownClaimExpired s := by
  unfold claimExpires
  rw [if_pos hn, hclaim]
  exact if_pos (Timer.reached_of_due hdue)

/-- A confirmation in a view without an own claim. -/
theorem confirmTop_cleared {s : State} (z : Nat) (h : s.floor.own.claim = none) :
    (confirmTop z s).floor.own.claim = none ∧ (confirmTop z s).floor.claimsLost = s.floor.claimsLost
      ∧ (s.floor.own.state ≠ .claiming →
          (confirmTop z s).floor.own.state = s.floor.own.state ∧ (confirmTop z s).seq = s.seq) := by
  have hown : (confirmOwn s).floor.own.claim = none ∧ (confirmOwn s).floor.claimsLost = s.floor.claimsLost
      ∧ (s.floor.own.state ≠ .claiming → (confirmOwn s).floor.own.state = s.floor.own.state ∧ (confirmOwn s).seq = s.seq) := by
    have hnone : (changeOwnClaim s.confirmedClaim s).floor.own.claim = none := congrArg (Option.map s.confirmedClaim) h
    refine ⟨?_, confirmOwn_claimsLost s, fun hstate => ?_⟩
    · unfold confirmOwn
      dsimp only
      split
      · rw [State.floor_eq_of_besideOutput (seqConfirmed_besideOutput _)]
        exact hnone
      · exact hnone
    · have hsame : confirmOwn s = changeOwnClaim s.confirmedClaim s := if_neg fun hclaiming => hstate hclaiming.1
      rw [hsame]
      exact ⟨rfl, rfl⟩
  rcases confirmTop_cases z s with hsame | ⟨x, -, -, hsame⟩
  · rw [hsame]
    exact ⟨h, rfl, fun _ => ⟨rfl, rfl⟩⟩
  · rw [hsame]
    by_cases hx : x.1 = s.straps.station
    · unfold confirmClaim
      rw [if_pos hx]
      exact hown
    · rw [confirmClaim_of_peer hx]
      exact ⟨h, rfl, fun _ => ⟨rfl, rfl⟩⟩

theorem examine_cleared {s : State} (z : Nat) (h : s.floor.own.claim = none) : examine z s = confirmTop z s := by
  unfold examine decideLoss
  rw [(confirmTop_cleared z h).1]

/-- In a view without an own claim no own claim tops a zone. -/
theorem topClaim_cleared {s : State} (h : s.floor.own.claim = none) (hone : OneRecordEach s) (z : Nat) :
    ∀ x, topClaim (s.claimsIn z) = some x → x.1 ≠ s.straps.station := by
  intro x htop hx
  have hclaim := own_claim_of_mem hone (topClaim_mem htop) hx
  rw [h] at hclaim
  cases hclaim

theorem onlyClaimsMoved_cleared (t : Nat) (s : State) : OnlyClaimsMoved t s (clearOwnClaim (s.arrive t)) :=
  ⟨rfl, rfl, rfl, rfl, rfl, rfl, rfl, rfl, rfl, rfl⟩

/-- The own claim's expiry: the claim gone, the zone examined, and a claimant's claim lost. -/
theorem ownClaimExpired_eq {s : State} {c : LiveClaim} (hclaim : s.floor.own.claim = some c) :
    ownClaimExpired s =
      if s.floor.own.state = .claiming ∧ s.floor.own.released = false then
        claimLost (handFrame (.release (c.seq.getD 0) .withdrawn) (confirmTop c.zone (clearOwnClaim s)))
      else confirmTop c.zone (clearOwnClaim s) := by
  have hremoves : removeOwnClaim s = confirmTop c.zone (clearOwnClaim s) := by
    unfold removeOwnClaim
    rw [hclaim]
    exact examine_cleared c.zone rfl
  unfold ownClaimExpired
  rw [hclaim]
  dsimp only
  rw [hremoves]

/-- Settles O41. -/
theorem peersAndClaimsAge : Obligations.PeersAndClaimsAge := by
  refine ⟨?_, ?_, ?_, ?_⟩
  · intro t n s p hawake hpeer hpresent hdue
    exact peerLost_ages hawake hpeer hpresent hdue
  · intro t n s p c hawake hn hpeer hpc hdue
    have hclaim : ((s.arrive t).peer n.toNat).bind Peer.claim = some c := (congrArg (Option.bind · Peer.claim) hpeer).trans hpc
    have hexec := exec_claimExpiry t n hawake
    rw [claimExpires_peer (s := s.arrive t) hn hclaim hdue, removePeerClaim_eq hclaim] at hexec
    have houtside : (conclude (examine c.zone (changePeer n.toNat (Peer.withClaim none) (s.arrive t)))).outside = s.outside := by
      rw [conclude_outside, examine_outside]
      rfl
    obtain ⟨hbesides, hreports⟩ := besidesHallKept_of_outside houtside
    refine ⟨_, p.withClaim none, hexec, examine_withoutClaim_peer (s := s.arrive t) hpeer c.zone, rfl, rfl, rfl, fun hone => ?_,
      lineKept_of_outside houtside, hreports, hbesides⟩
    exact (withoutClaim_removed (r := s.arrive t) ⟨rfl, rfl, rfl, rfl, rfl, rfl, rfl, rfl, rfl, rfl⟩ hn rfl (fun _ _ => rfl)
      c.zone).examined hone hawake
  · intro t n s c hawake hn hclaim hdue hstate hslot
    have hexec := exec_claimExpiry t n hawake
    have hholds : ¬ ((s.arrive t).floor.own.state = .claiming ∧ (s.arrive t).floor.own.released = false) := by
      rintro ⟨hclaiming, -⟩
      cases hstate.symm.trans hclaiming
    rw [claimExpires_own (s := s.arrive t) hn hclaim hdue, ownClaimExpired_eq (s := s.arrive t) hclaim, if_neg hholds] at hexec
    obtain ⟨hnone, hlost, hkept⟩ := confirmTop_cleared (s := clearOwnClaim (s.arrive t)) c.zone rfl
    obtain ⟨hstate', hseq⟩ := hkept fun hclaiming => nomatch hstate.symm.trans hclaiming
    obtain ⟨-, hfloor, -⟩ := conclude_of_slot (s := confirmTop c.zone (clearOwnClaim (s.arrive t))) (by rw [hseq]; exact hslot)
    have houtside : (conclude (confirmTop c.zone (clearOwnClaim (s.arrive t)))).outside = s.outside := by
      rw [conclude_outside, confirmTop_outside]
      rfl
    obtain ⟨hbesides, hreports⟩ := besidesHallKept_of_outside houtside
    exact ⟨_, hexec, by rw [hfloor]; exact hnone, by rw [hfloor]; exact hstate'.trans hstate, by rw [hfloor]; exact hlost,
      lineKept_of_outside houtside, hreports, hbesides⟩
  · intro t n s c hawake hn hclaim hdue hstate hreleased
    have hexec := exec_claimExpiry t n hawake
    rw [claimExpires_own (s := s.arrive t) hn hclaim hdue, ownClaimExpired_eq (s := s.arrive t) hclaim, if_pos ⟨hstate, hreleased⟩] at hexec
    obtain ⟨hnone, hlost, -⟩ := confirmTop_cleared (s := clearOwnClaim (s.arrive t)) c.zone rfl
    have hloses (seq : Nat) (hone : OneRecordEach s) :=
      (onlyClaimsMoved_cleared t s).handsRelease
        (confirmTop_besideRecords (topClaim_cleared (s := clearOwnClaim (s.arrive t)) rfl hone c.zone)) seq
    generalize hw : confirmTop c.zone (clearOwnClaim (s.arrive t)) = w at *
    obtain ⟨-, hclaim', -, -, -, hlost', -⟩ := viewKept_of_view
      (conclude_view (claimLost (handFrame (.release (c.seq.getD 0) .withdrawn) w)))
    have houtside : (conclude (claimLost (handFrame (.release (c.seq.getD 0) .withdrawn) w))).outside = s.outside := by
      rw [conclude_outside, claimLost_outside, handFrame_outside, ← hw, confirmTop_outside]
      rfl
    obtain ⟨hbesides, hreports⟩ := besidesHallKept_of_outside houtside
    refine ⟨_, hexec, ?_, ?_, fun seq hone hseq => ?_, lineKept_of_outside houtside, hreports, hbesides⟩
    · rw [hclaim', claimLost_floor, handFrame_floor]
      exact hnone
    · rw [hlost', claimLost_floor, handFrame_floor, hlost]
      rfl
    · rw [hseq]
      exact (hloses seq hone).lostTo hawake

end Sys2Proof.Machine
end

section
/-! The soft reset (R31, R70, R78, R107, R180, R199): what it clears, what it keeps, and the examination of the own zone. -/

namespace Sys2Proof.Machine
open Sys2Proof Host Safety

/-! The peers' records. -/

/-- Which peers' records an examination leaves, once the own claim has left the view. -/
structure ViewCleared (s : State) (ps : List Peer) : Prop where
  stations : ps.map Peer.station = s.floor.peers.map Peer.station
  zones : ps.map Peer.zone = s.floor.peers.map Peer.zone
  presences : ps.map Peer.presence = s.floor.peers.map Peer.presence
  heard : ps.map Peer.lastHeard = s.floor.peers.map Peer.lastHeard
  idle : s.floor.own.claim = none → ps = s.floor.peers
  keeps : ∀ c, s.floor.own.claim = some c →
    (∃ x ∈ s.peerClaims, x.2.zone = c.zone ∧ x.2.confirmed = true) ∨ (∀ x ∈ s.peerClaims, x.2.zone ≠ c.zone) →
      ps = s.floor.peers
  confirms : ∀ c x, s.floor.own.claim = some c → (∀ y ∈ s.peerClaims, y.2.zone = c.zone → y.2.confirmed = false) →
    topClaim (s.peerClaims.filter fun y => y.2.zone = c.zone) = some x → x.1 ≠ s.straps.station →
      ps = if x.2.windowEnded s.now then s.floor.peers.map fun p => if p.station = x.1 then p.confirmedIn s else p
        else s.floor.peers

/-- What a confirmation leaves of every peer's record. -/
theorem map_confirmedIn {α : Type} {g : Peer → α} (hg : ∀ s p, g (Peer.confirmedIn s p) = g p) (s : State) (n : Nat) (l : List Peer) :
    (l.map fun p => if p.station = n then p.confirmedIn s else p).map g = l.map g := by
  rw [List.map_map]
  refine List.map_congr_left fun p _ => ?_
  dsimp only [Function.comp]
  split
  · exact hg s p
  · rfl

theorem changeOwnClaim_of_none {s : State} (h : s.floor.own.claim = none) (g : LiveClaim → LiveClaim) : changeOwnClaim g s = s := by
  have hown : { s.floor.own with claim := s.floor.own.claim.map g } = s.floor.own := by
    rw [h]
    exact congrArg (fun c => { s.floor.own with claim := c }) h.symm
  show { s with floor := { s.floor with own := { s.floor.own with claim := s.floor.own.claim.map g } } } = s
  rw [hown]

section
variable {s : State} {z : Nat} (hclaim : s.floor.own.claim = none) (hstate : s.floor.own.state ≠ .claiming)
include hclaim

theorem claimsIn_cleared : s.claimsIn z = s.peerClaims.filter fun x => x.2.zone = z := by
  unfold State.claimsIn State.liveClaims
  rw [hclaim]

include hstate

/-- A confirmation in a view without an own claim, for a station that asks for none, moves the peers' records alone. -/
theorem confirmTop_idle :
    confirmTop z s = s ∨ ∃ n, confirmTop z s = changePeer n (Peer.confirmedIn s) s := by
  rcases confirmTop_cases z s with hsame | ⟨x, -, -, hsame⟩
  · exact .inl hsame
  · by_cases hx : x.1 = s.straps.station
    · have hown : confirmClaim x.1 s = changeOwnClaim s.confirmedClaim s :=
        (if_pos hx).trans (if_neg fun hclaiming => hstate hclaiming.1)
      exact .inl (hsame.trans (hown.trans (changeOwnClaim_of_none hclaim _)))
    · exact .inr ⟨x.1, hsame.trans (confirmClaim_of_peer hx)⟩

/-- The view after the examination of a zone that the own claim has left. -/
theorem confirmTop_cleared_view :
    ∃ ps, confirmTop z s = s.onFloor (fun u => { u with peers := ps })
      ∧ ps.map Peer.station = s.floor.peers.map Peer.station ∧ ps.map Peer.zone = s.floor.peers.map Peer.zone
      ∧ ps.map Peer.presence = s.floor.peers.map Peer.presence ∧ ps.map Peer.lastHeard = s.floor.peers.map Peer.lastHeard
      ∧ ((∃ x ∈ s.peerClaims, x.2.zone = z ∧ x.2.confirmed = true) ∨ (∀ x ∈ s.peerClaims, x.2.zone ≠ z) → ps = s.floor.peers)
      ∧ (∀ x, (∀ y ∈ s.peerClaims, y.2.zone = z → y.2.confirmed = false) →
          topClaim (s.peerClaims.filter fun y => y.2.zone = z) = some x → x.1 ≠ s.straps.station →
            ps = if x.2.windowEnded s.now then s.floor.peers.map fun p => if p.station = x.1 then p.confirmedIn s else p
              else s.floor.peers) := by
  have hlist := claimsIn_cleared (z := z) hclaim
  have hmem (x : Nat × LiveClaim) : x ∈ s.claimsIn z ↔ x ∈ s.peerClaims ∧ x.2.zone = z := by simp [hlist]
  refine ⟨(confirmTop z s).floor.peers, ?_, ?_, ?_, ?_, ?_, fun hkeeps => ?_, fun x hno htop hother => ?_⟩
  · rcases confirmTop_idle (z := z) hclaim hstate with hsame | ⟨n, hsame⟩ <;> rw [hsame] <;> rfl
  · rcases confirmTop_idle (z := z) hclaim hstate with hsame | ⟨n, hsame⟩ <;> rw [hsame]
    exact map_confirmedIn (fun _ _ => rfl) s n _
  · rcases confirmTop_idle (z := z) hclaim hstate with hsame | ⟨n, hsame⟩ <;> rw [hsame]
    exact map_confirmedIn (fun _ _ => rfl) s n _
  · rcases confirmTop_idle (z := z) hclaim hstate with hsame | ⟨n, hsame⟩ <;> rw [hsame]
    exact map_confirmedIn (fun _ _ => rfl) s n _
  · rcases confirmTop_idle (z := z) hclaim hstate with hsame | ⟨n, hsame⟩ <;> rw [hsame]
    exact map_confirmedIn (fun _ _ => rfl) s n _
  · rw [confirmTop_of_none]
    rcases hkeeps with ⟨x, hx, hxz, hxc⟩ | hempty
    · exact .inl ⟨x, (hmem x).mpr ⟨hx, hxz⟩, hxc⟩
    · refine .inr fun x htop => ?_
      obtain ⟨hx, hxz⟩ := (hmem x).mp (topClaim_mem htop)
      exact absurd hxz (hempty x hx)
  · rw [← hlist] at htop
    split
    next hwindow =>
      rw [confirmTop_of_top (fun y hy => ?_) htop hwindow, confirmClaim_of_peer hother]
      · rfl
      · obtain ⟨hy, hyz⟩ := (hmem y).mp hy
        exact hno y hy hyz
    next hwindow =>
      rw [confirmTop_of_none (.inr fun y hy => ?_)]
      obtain rfl := Option.some.inj (htop.symm.trans hy)
      simpa using hwindow

end

/-! The floor unit and the hall port of a soft reset. -/

/-- The own record after a soft reset: the sequence counter goes on. -/
def OwnFloor.softened (o : OwnFloor) : OwnFloor := { OwnFloor.reset with nextSeq := o.nextSeq }

/-- The hall port after a soft reset, the RELEASE of a held floor handed over. -/
def State.resetHall (s : State) : HallPort := (releaseFloor .cut s).hall.softReset

theorem softResetFloor_releases (s : State) :
    ((releaseFloor .cut s).onHall HallPort.softReset).onOwn (fun o =>
        { o with state := .free, gapEnd := none, outgoing := none, pendingClaim := none, released := false }) =
      (s.onHall fun _ => s.resetHall).onOwn fun o => { o.softened with claim := o.claim } := by
  unfold State.resetHall
  by_cases h : s.floor.own.state = .holding
  · rw [releaseFloor_of_holding h]
    unfold handFrame
    split <;> rfl
  · rw [releaseFloor_of_other h]
    rfl

/-- The floor unit and the hall port move, and nothing else. -/
theorem softResetFloor_eq (s : State) :
    ∃ ps, ViewCleared s ps
      ∧ softResetFloor s =
          (s.onHall fun _ => s.resetHall).onFloor fun u => { u with peers := ps, own := u.own.softened } := by
  unfold softResetFloor
  dsimp only
  rw [softResetFloor_releases]
  cases hclaim : s.floor.own.claim with
  | none =>
    refine ⟨s.floor.peers, ⟨rfl, rfl, rfl, rfl, fun _ => rfl, fun c hc => ?_, fun c x hc => ?_⟩, ?_⟩
    · rw [hclaim] at hc
      cases hc
    · rw [hclaim] at hc
      cases hc
    · unfold removeOwnClaim
      have hnone : ((s.onHall fun _ => s.resetHall).onOwn fun o => { o.softened with claim := o.claim }).floor.own.claim = none :=
        hclaim
      rw [hnone]
      dsimp only
      have hown : { s.floor.own.softened with claim := s.floor.own.claim } = s.floor.own.softened := by
        rw [hclaim]
        rfl
      show { s with
        hall := s.resetHall
        floor := { s.floor with own := { s.floor.own.softened with claim := s.floor.own.claim } } } = _
      rw [hown]
      rfl
  | some c =>
    have hremoves : removeOwnClaim ((s.onHall fun _ => s.resetHall).onOwn fun o => { o.softened with claim := o.claim }) =
        confirmTop c.zone ((s.onHall fun _ => s.resetHall).onOwn OwnFloor.softened) := by
      unfold removeOwnClaim
      have hsome : ((s.onHall fun _ => s.resetHall).onOwn fun o => { o.softened with claim := o.claim }).floor.own.claim =
          some c := hclaim
      rw [hsome]
      exact examine_cleared (s := (s.onHall fun _ => s.resetHall).onOwn OwnFloor.softened) c.zone rfl
    obtain ⟨ps, hps, hstations, hzones, hpresences, hheard, hkeeps, hconfirms⟩ :=
      confirmTop_cleared_view (s := (s.onHall fun _ => s.resetHall).onOwn OwnFloor.softened) (z := c.zone) rfl nofun
    refine ⟨ps, ⟨hstations, hzones, hpresences, hheard, fun hnone => ?_, fun c' hc => ?_, fun c' x hc => ?_⟩, hremoves.trans hps⟩
    · rw [hclaim] at hnone
      cases hnone
    · obtain rfl := Option.some.inj (hclaim.symm.trans hc)
      exact hkeeps
    · obtain rfl := Option.some.inj (hclaim.symm.trans hc)
      exact hconfirms x

/-! What waits on the hall line after a soft reset. -/

theorem softReset_txList (h : HallPort) :
    h.softReset.txList = (h.txList.filter fun x => !x.isClaim).map fun x => ⟨x.frame, false⟩ := by
  show (h.txList.map fun x : TxEntry => { x with driving := false }).filter _ = _
  rw [List.filter_map]
  rfl

theorem resetHall_line (s : State) :
    (s.hall.line = .sending → s.hall.onLine.isSome = true → s.resetHall.line = .waitIdle)
      ∧ (s.hall.line ≠ .sending → s.resetHall.line = s.hall.line) := by
  have hout : (releaseFloor .cut s).hall.besideList = s.hall.besideList := congrArg Apart.line (releaseFloor_apart .cut s)
  have hline : (releaseFloor .cut s).hall.line = s.hall.line := (congrArg HallPort.line hout : _)
  have honLine : (releaseFloor .cut s).hall.onLine = s.hall.onLine := (congrArg HallPort.onLine hout : _)
  unfold State.resetHall HallPort.softReset HallPort.sendingFrame
  dsimp only
  rw [hline, honLine]
  refine ⟨fun hsending hon => ?_, fun hnot => ?_⟩
  · rw [if_pos hsending]
    obtain ⟨g, hg⟩ := Option.isSome_iff_exists.mp hon
    cases (releaseFloor .cut s).hall.driven with
    | some f => rfl
    | none =>
      rw [hg]
      rfl
  · rw [if_neg hnot]
    rfl

/-- The fields of the port that a soft reset leaves. -/
theorem resetHall_kept (s : State) :
    s.resetHall.onLine = none ∧ s.resetHall.state = s.hall.state ∧ s.resetHall.heartbeat = s.hall.heartbeat
      ∧ s.resetHall.framesReceived = s.hall.framesReceived ∧ s.resetHall.badFrames = s.hall.badFrames
      ∧ s.resetHall.ownBitErrors = s.hall.ownBitErrors ∧ s.resetHall.errorRun = s.hall.errorRun
      ∧ s.resetHall.recovery = s.hall.recovery := by
  have hout : (releaseFloor .cut s).hall.besideList = s.hall.besideList := congrArg Apart.line (releaseFloor_apart .cut s)
  exact ⟨rfl, (congrArg HallPort.state hout : _), (congrArg HallPort.heartbeat hout : _),
    (congrArg HallPort.framesReceived hout : _), (congrArg HallPort.badFrames hout : _),
    (congrArg HallPort.ownBitErrors hout : _), (congrArg HallPort.errorRun hout : _), releaseFloor_recovery .cut s⟩

/-- The list that waits after a soft reset: a held floor is given up, but in FAULT. -/
theorem resetHall_txList (s : State) :
    (∀ seq, s.floor.own.state = .holding → s.hall.state.isFault = false → ReleaseSeq s.floor.own seq →
        s.resetHall.txList =
          ((s.hall.txList.filter fun x => !x.isClaim).map fun x => ⟨x.frame, false⟩) ++ [⟨.release seq .cut, false⟩])
      ∧ (s.floor.own.state ≠ .holding ∨ s.hall.state.isFault = true →
          s.resetHall.txList = (s.hall.txList.filter fun x => !x.isClaim).map fun x => ⟨x.frame, false⟩) := by
  unfold State.resetHall
  rw [softReset_txList]
  refine ⟨fun seq hholding hfault hseq => ?_, fun hkept => ?_⟩
  · rw [releaseFloor_hall hholding, handFrame_txList hfault, releaseSeq_eq hseq, List.filter_append, List.map_append]
    rfl
  · have hlist : (releaseFloor .cut s).hall.txList = s.hall.txList := by
      by_cases hholding : s.floor.own.state = .holding
      · rw [releaseFloor_hall hholding]
        exact congrArg (fun x : State => x.hall.txList) (if_pos (hkept.resolve_left (not_not_intro hholding)))
      · rw [releaseFloor_of_other hholding]
    rw [hlist]

/-- Without a PRESENCE in the list before, none waits after the reset. -/
theorem resetHall_noPresence {s : State} (h : ∀ x ∈ s.hall.txList, x.isPresence = false) :
    ∀ x ∈ s.resetHall.txList, x.isPresence = false := by
  have hbase : ∀ x ∈ (s.hall.txList.filter fun x => !x.isClaim).map fun x => (⟨x.frame, false⟩ : TxEntry), x.isPresence = false := by
    intro x hx
    obtain ⟨y, hy, rfl⟩ := List.mem_map.mp hx
    exact h y (List.mem_filter.mp hy).1
  by_cases hkept : s.floor.own.state ≠ .holding ∨ s.hall.state.isFault = true
  · rw [(resetHall_txList s).2 hkept]
    exact hbase
  · obtain ⟨hholding, hfault⟩ := not_or.mp hkept
    have hlist : s.resetHall.txList =
        ((s.hall.txList.filter fun x => !x.isClaim).map fun x => ⟨x.frame, false⟩) ++
          [⟨.release s.floor.own.releaseSeq .cut, false⟩] := by
      unfold State.resetHall
      rw [softReset_txList, releaseFloor_hall (not_not.mp hholding), handFrame_txList (by simpa using hfault), List.filter_append,
        List.map_append]
      rfl
    rw [hlist]
    intro x hx
    rcases List.mem_append.mp hx with hx | hx
    · exact hbase x hx
    · rw [List.mem_singleton.mp hx]
      rfl

/-! The state that a soft reset leaves. -/

/-- A soft reset but for its HELLO, from the hall port and the peers' records that it leaves. -/
def State.cleared (down : Keys Bool) (ps : List Peer) (s : State) : State :=
  ((((((((s.onHall fun _ => s.resetHall).onFloor fun u => { u with peers := ps, own := u.own.softened }).setSpeech .idle).onSeq
    Sequencer.softReset).onTone fun _ => ToneUnit.reset).onLevel fun l =>
      { l with hold := .settling (s.after Config.settling), quiet := false }).onRem ReminderUnit.softReset).onPanel fun _ =>
        Panel.softReset s.now s.link.config down).onPower (Power.softReset s.now) |>.onDisplay fun _ => Display.reset

/-- The HELLO that a soft reset sends. -/
def State.resetHello (s : State) : Report :=
  .hello (helloCode (s.store.state = .failed) s.power.result.isFault (s.hall.state = .fault .stuck)) s.straps.station s.straps.zone

theorem diagnosticCode_eq (s : State) :
    s.diagnosticCode = helloCode (s.store.state = .failed) s.power.result.isFault (s.hall.state = .fault .stuck) := by
  unfold State.diagnosticCode
  by_cases hfailed : s.store.state = .failed <;> by_cases hfault : s.power.result.isFault = true <;>
    by_cases hstuck : s.hall.state = .fault .stuck <;> simp [hfailed, hfault, hstuck, helloCode, byte]

/-- The HELLO of a listening link finds room behind the oldest report. -/
theorem sayHello_behindFirst {s : State} (hlistening : s.link.listening = true) :
    sayHello (s.onLink fun l => { l with reports := l.reports.take 1 }) =
      s.onLink fun l => { l with reports := l.reports.take 1 ++ [s.resetHello] } := by
  have hroom : (s.link.reports.take 1).length < Config.reportLimit :=
    Nat.lt_of_le_of_lt (List.length_take_le ..) (by decide)
  have hcode := diagnosticCode_eq (s.onLink fun l => { l with reports := l.reports.take 1 })
  unfold sayHello report
  rw [hcode]
  exact congrArg (fun l : CueLink => { s with link := l }) ((if_pos hlistening).trans (if_pos hroom))

theorem cleared_hello (down : Keys Bool) (ps : List Peer) (s : State) : (s.cleared down ps).resetHello = s.resetHello := by
  have hstate : (s.cleared down ps).hall.state = s.hall.state := (resetHall_kept s).2.1
  unfold State.resetHello
  rw [hstate]
  rfl

theorem softReset_eq {s : State} (down : Keys Bool) (hlistening : s.link.listening = true) :
    ∃ ps, ViewCleared s ps
      ∧ softReset down s =
          (s.cleared down ps).onLink fun l => { l with reports := l.reports.take 1 ++ [s.resetHello] } := by
  obtain ⟨ps, hview, hfloor⟩ := softResetFloor_eq s
  refine ⟨ps, hview, ?_⟩
  rw [← cleared_hello down ps s, ← sayHello_behindFirst (by exact hlistening)]
  unfold softReset State.cleared
  dsimp only
  rw [hfloor]

/-- Nothing is output and nothing is served: neither hold moves. -/
theorem holds_at_rest {r : State} (hslot : r.seq.slot = none) (hspeech : r.speech = .idle) (hchime : r.tone.chime = .idle)
    (hcheck : r.power.check = .idle) (hheld : r.power.timersHeld = false) (hsample : r.level.hold ≠ .held) :
    holdTimers (holdSampling r) = r := by
  have hquiet : r.outputting = false := by
    unfold State.outputting
    rw [hspeech, hchime, hcheck]
    rfl
  have hsampling : holdSampling r = r := by
    unfold holdSampling
    rw [hquiet]
    split
    · next h => cases h
    · split
      · next h => exact absurd h hsample
      · rfl
  have hserves : r.timersHeldNow = false := by
    unfold State.timersHeldNow
    rw [hslot, hcheck]
    rfl
  rw [hsampling]
  unfold holdTimers
  rw [hserves, hheld]
  rfl

/-- What follows at rest is a waiting recovery attempt at most. -/
theorem conclude_at_rest {s : State} (hawake : s.power.mode ≠ .sleep) (hslot : s.seq.slot = none) (hqueue : s.seq.queue = [])
    (hspeech : s.speech = .idle) (hchime : s.tone.chime = .idle) (hcheck : s.power.check = .idle)
    (hheld : s.power.timersHeld = false) (hsample : s.level.hold ≠ .held) :
    conclude s = (startWaitingRecovery s).onSeq fun q => { q with askedAt := s.now } := by
  obtain ⟨x, l, hstart, -⟩ := startWaitingRecovery_onHall s
  rw [conclude_of_awake hawake, hstart, select_of_none (s := s.onHall _) hslot (by simp [hqueue])]
  exact holds_at_rest (r := (s.onHall fun h => { h with recovery := x, txList := l }).onSeq fun q => { q with askedAt := s.now })
    hslot hspeech hchime hcheck hheld hsample

/-- A waiting recovery attempt starts where no service speaks. -/
theorem startWaitingRecovery_cases {s : State} (hslot : s.seq.slot = none) :
    ∃ x l, startWaitingRecovery s = s.onHall (fun h => { h with recovery := x, txList := l })
      ∧ (s.hall.recovery ≠ .waiting → x = s.hall.recovery ∧ l = s.hall.txList)
      ∧ (s.hall.recovery = .waiting → x = .attempting s.now ∧ l = joinPresence .recovery s.hall.txList) := by
  have hsilent : s.slotSpeaks = false := by
    unfold State.slotSpeaks State.served
    rw [hslot]
  by_cases h : s.hall.recovery = .waiting
  · exact ⟨_, _, if_pos ⟨h, hsilent⟩, fun hne => absurd h hne, fun _ => ⟨rfl, rfl⟩⟩
  · refine ⟨_, _, startWaitingRecovery_of_ne h, fun _ => ⟨rfl, rfl⟩, fun hw => absurd hw h⟩

/-- The PRESENCE of an attempt joins a list that held none. -/
theorem mem_joinPresence {l : List TxEntry} (h : ∀ x ∈ l, x.isPresence = false) (k : PresenceKind) :
    ⟨.presence k, false⟩ ∈ joinPresence k l := by
  have hfinal : (l.any fun x => x.isPresenceOf .final) = false := by
    refine List.any_eq_false.mpr fun x hx hpresence => ?_
    have hframe : x.frame = .presence .final := of_decide_eq_true hpresence
    have hno := h x hx
    unfold TxEntry.isPresence at hno
    rw [hframe] at hno
    cases hno
  unfold joinPresence
  rw [hfinal]
  exact List.mem_append_right _ (List.mem_singleton.mpr rfl)

/-- Settles O29. -/
theorem softResetClearsAndKeeps : Obligations.SoftResetClearsAndKeeps := by
  refine ⟨fun t down trail s hready => ?_, fun t down s hready => ?_⟩
  · exact hearCue_of_ready t down 0x0E#8 trail hready (by simp)
  · obtain ⟨p, d, hstirred, hexec⟩ := hearCue_handled (s := s) (t := t) (down := down) (type := 0x0E#8) (payload := [])
      (f := softReset down) hready (by simp) rfl fun st => rfl
    have hlasting := hstirred.lasting
    generalize hx : (s.arrive t).stirred p d = x at hexec
    obtain ⟨ps, hview, hreset⟩ := softReset_eq (s := x) down (by rw [← hx]; exact hready.2.1)
    have hpower : x.power = p := by rw [← hx]; rfl
    have hspeaker : p.speaker = s.power.speaker := congrArg Prod.fst hlasting
    have hresult : p.result = s.power.result := congrArg (fun x => x.2.1) hspeaker
    rw [lockFor_of_none (by decide), hreset] at hexec
    obtain ⟨r, l, hstart, hgoes, hwaits⟩ := startWaitingRecovery_cases
      (s := (x.cleared down ps).onLink fun k => { k with reports := k.reports.take 1 ++ [x.resetHello] }) rfl
    rw [conclude_at_rest (ne_of_eq_of_ne (b := PowerMode.active) rfl nofun) rfl rfl rfl rfl rfl rfl
      (ne_of_eq_of_ne (b := SampleHold.settling (x.after Config.settling)) rfl nofun), hstart] at hexec
    obtain ⟨-, hstate, hheartbeat, hreceived, hbad, hbits, hrun, hrecovery⟩ := resetHall_kept x
    obtain ⟨hsent, hkept⟩ := resetHall_txList x
    obtain ⟨hsending, hnot⟩ := resetHall_line x
    have hpresence := resetHall_noPresence (s := x)
    have hhello : x.resetHello = .hello (helloCode (s.store.state = .failed) s.power.result.isFault (s.hall.state = .fault .stuck))
        s.straps.station s.straps.zone := by
      unfold State.resetHello
      rw [hpower, hresult, ← hx]
      rfl
    obtain ⟨hstations, hzones, hpresences, hheard, hidle, hkeeps, hconfirms⟩ := hview
    subst hx
    refine ⟨_, hexec, rfl, rfl, rfl, rfl, rfl, rfl, rfl, rfl, rfl, rfl, rfl, hresult, congrArg (fun x => x.2.2.1) hspeaker,
      congrArg (fun x => x.2.2.2) hspeaker, rfl, rfl, rfl, hstate, hheartbeat, hreceived, hbad, hbits, rfl, rfl, rfl, rfl, rfl, rfl,
      rfl, rfl, rfl, rfl, hrun, rfl, hsending, hnot, fun hne => ⟨?_, ?_, ?_⟩, fun hwaiting => ⟨?_, ?_⟩, rfl, hstations, hzones,
      hpresences, hheard, hidle, hkeeps, hconfirms, ?_, ⟨rfl, rfl, rfl⟩, ⟨rfl, rfl, rfl⟩, ⟨rfl, rfl, rfl⟩⟩
    · exact (hgoes (by exact fun hw => hne (hrecovery.symm.trans hw))).1.trans hrecovery
    · intro seq hholding hfault hseq
      exact (hgoes (by exact fun hw => hne (hrecovery.symm.trans hw))).2.trans (hsent seq hholding hfault hseq)
    · intro hother
      exact (hgoes (by exact fun hw => hne (hrecovery.symm.trans hw))).2.trans (hkept hother)
    · exact (hwaits (hrecovery.trans hwaiting)).1
    · intro hno
      have hlist := (hwaits (hrecovery.trans hwaiting)).2
      show _ ∈ l
      rw [hlist]
      exact mem_joinPresence (hpresence hno) .recovery
    · exact congrArg (fun k => s.link.reports.take 1 ++ [k]) hhello

end Sys2Proof.Machine
end

section
/-! STORE_CHECK_END (R35, R198): HELLO, and the reports that wait behind it, once the speaker check has ended. -/

namespace Sys2Proof.Machine
open Sys2Proof Host Safety

/-! Reports that find room. -/

/-- A report of a listening link that holds fewer than 16 joins as the newest. -/
theorem report_of_room {s : State} (h : ReportFits s) (r : Report) :
    report r s = s.onLink fun l => { l with reports := l.reports ++ [r] } :=
  congrArg (fun l : CueLink => { s with link := l }) ((if_pos h.1).trans (if_pos h.2))

theorem reportAll_of_room (rs : List Report) {s : State} (hlistening : s.link.listening = true)
    (hroom : s.link.reports.length + rs.length ≤ Config.reportLimit) :
    reportAll rs s = s.onLink fun l => { l with reports := l.reports ++ rs } := by
  induction rs generalizing s with
  | nil => simp [reportAll, State.onLink]
  | cons r rs ih =>
    rw [List.length_cons] at hroom
    have hfits : ReportFits s := ⟨hlistening, by omega⟩
    calc reportAll (r :: rs) s
        = reportAll rs (s.onLink fun l => { l with reports := l.reports ++ [r] }) := by rw [← report_of_room hfits]; rfl
      _ = _ := ih hlistening (by rw [State.onLink_link, List.length_append, List.length_singleton]; omega)
      _ = _ := by simp [State.onLink]

/-- The cue link that takes cues from now on, its held reports taken over (R198, log 43). -/
def CueLink.opened (l : CueLink) : CueLink := { l with listening := true, early := [] }

/-- The HELLO of a listening link joins the empty queue. -/
theorem sayHello_of_empty {s : State} (hlistening : s.link.listening = true) (hempty : s.link.reports = []) :
    sayHello s = s.onLink fun l => { l with reports := [s.resetHello] } := by
  have hfits : ReportFits s := ⟨hlistening, by simp [hempty, Config.reportLimit]⟩
  unfold sayHello
  rw [report_of_room hfits, diagnosticCode_eq]
  simp [State.onLink, hempty, State.resetHello]

/-! What HELLO leaves, and when it is made. -/

/-- A step that touches the cue link alone, and there neither the framer nor its counters. -/
def OnlyReports (s w : State) : Prop := (∃ l, w = s.onLink fun _ => l) ∧ FramerKept s w

theorem OnlyReports.trans {s w v : State} (hw : OnlyReports s w) (hv : OnlyReports w v) : OnlyReports s v := by
  obtain ⟨⟨_, rfl⟩, hframer, herrors, hrefusals⟩ := hw
  obtain ⟨⟨l, rfl⟩, hframer', herrors', hrefusals'⟩ := hv
  exact ⟨⟨l, rfl⟩, hframer'.trans hframer, herrors'.trans herrors, hrefusals'.trans hrefusals⟩

theorem report_onlyReports (r : Report) (s : State) : OnlyReports s (report r s) :=
  ⟨⟨_, rfl⟩, (settings_framer_of_apart (congrArg Apart.link (report_apart r s))).2⟩

theorem reportAll_onlyReports (rs : List Report) (s : State) : OnlyReports s (reportAll rs s) := by
  induction rs generalizing s with
  | nil => exact ⟨⟨s.link, rfl⟩, rfl, rfl, rfl⟩
  | cons r rs ih => exact (report_onlyReports r s).trans (ih (report r s))

theorem helloIfChecked_onlyReports (s : State) : OnlyReports s (helloIfChecked s) := by
  unfold helloIfChecked
  split
  · exact ⟨⟨s.link, rfl⟩, rfl, rfl, rfl⟩
  · have hopened : OnlyReports s (s.onLink CueLink.opened) := ⟨⟨_, rfl⟩, rfl, rfl, rfl⟩
    exact (hopened.trans (report_onlyReports _ _)).trans (reportAll_onlyReports _ _)

/-- What follows such a step leaves all that a frame names but for the reports. -/
theorem OnlyReports.kept {s w : State} (h : OnlyReports s w) :
    StoreKept s (conclude w) ∧ LineKept s (conclude w) ∧ ViewKept s (conclude w) ∧ RemindersKept s (conclude w)
      ∧ PanelKept s (conclude w) ∧ FramerKept s (conclude w) ∧ QueueKept s (conclude w) ∧ LevelKept s (conclude w)
      ∧ SpeakerKept s (conclude w) ∧ StatusLineKept s (conclude w) := by
  obtain ⟨⟨l, rfl⟩, hframer, herrors, hrefusals⟩ := h
  have houtside := conclude_outside (s.onLink fun _ => l)
  have hline := lineKept_of_outside houtside
  obtain ⟨⟨hrem, hpanel, -, ⟨hframer', herrors', hrefusals'⟩, hqueue, hstore, hlevel, hspeaker, hstatus⟩, -⟩ :=
    besidesHallKept_of_outside houtside
  exact ⟨hstore, hline, conclude_viewKept rfl, hrem, hpanel,
    ⟨hframer'.trans hframer, herrors'.trans herrors, hrefusals'.trans hrefusals⟩, hqueue, hlevel, hspeaker, hstatus⟩

/-- No HELLO is made while the speaker check goes on. -/
theorem helloIfChecked_of_checking {s : State} (h : s.power.check ≠ .idle) : helloIfChecked s = s :=
  if_pos (.inr (.inr h))

/-- When both checks have ended, HELLO is the first report of the empty queue, and those held for it follow. -/
theorem helloIfChecked_of_checked {s : State} (hlistening : s.link.listening = false) (hstore : s.store.state ≠ .checking)
    (hcheck : s.power.check = .idle) (hempty : s.link.reports = []) (hearly : s.link.early.length ≤ 15) :
    helloIfChecked s =
      s.onLink fun l => { l with listening := true, early := [], reports := s.resetHello :: l.early } := by
  calc helloIfChecked s
      = reportAll s.link.early (sayHello (s.onLink CueLink.opened)) := if_neg (by simp [hlistening, hstore, hcheck])
    _ = reportAll s.link.early ((s.onLink CueLink.opened).onLink fun l => { l with reports := [s.resetHello] }) := by
        rw [sayHello_of_empty rfl (by exact hempty)]
        rfl
    _ = _ := reportAll_of_room _ rfl (show 1 + s.link.early.length ≤ 16 by omega)

/-! The check's end. -/

theorem PhraseStore.checked_state (now : Nat) (p : PhraseStore) :
    (p.checked now).state = if p.flash.checks now then .ready else .failed := by
  unfold PhraseStore.checked
  split <;> rfl

theorem PhraseStore.checked_index (now : Nat) (p : PhraseStore) :
    (p.checked now).index = if p.flash.checks now then p.flash.directories else [] := by
  unfold PhraseStore.checked
  split <;> rfl

/-- The state in which the store has been checked, before HELLO. -/
def State.storeChecked (t : Nat) (s : State) : State := (s.arrive t).onStore (PhraseStore.checked (s.instant t))

theorem State.storeChecked_ne_checking (t : Nat) (s : State) : (s.storeChecked t).store.state ≠ .checking := by
  show (s.store.checked (s.instant t)).state ≠ .checking
  rw [PhraseStore.checked_state]
  split <;> nofun

theorem exec_storeCheckEnd {s : State} (t : Nat) (hawake : s.power.mode ≠ .sleep) (hchecking : s.store.state = .checking) :
    exec (.storeCheckEnd t) s = .next (conclude (helloIfChecked (s.storeChecked t))) := by
  have hends : storeCheckEnds (s.arrive t) = helloIfChecked (s.storeChecked t) := if_pos hchecking
  rw [← hends]
  exact concluding_of_awake hawake t storeCheckEnds

/-- Settles O11: `helloIfChecked` touches the cue link alone, and makes HELLO exactly when the speaker check has ended. -/
theorem storeCheckEndGivesHello : Obligations.StoreCheckEndGivesHello := by
  intro t s hawake hchecking
  obtain ⟨⟨hstate, hindex, -⟩, hframe⟩ := (helloIfChecked_onlyReports (s.storeChecked t)).kept
  obtain ⟨⟨-, -, ⟨-, -, hlistening⟩, -⟩, hreports⟩ :=
    besidesHallKept_of_outside (conclude_outside (helloIfChecked (s.storeChecked t)))
  refine ⟨_, exec_storeCheckEnd t hawake hchecking, hstate.trans (PhraseStore.checked_state ..),
    hindex.trans (PhraseStore.checked_index ..), fun hgoing => ?_, fun hended hdeaf hempty hearly => ?_, hframe⟩
  · rw [helloIfChecked_of_checking (by exact hgoing)] at hlistening hreports ⊢
    exact ⟨hlistening, hreports⟩
  · have hhello := helloIfChecked_of_checked (s := s.storeChecked t) hdeaf (s.storeChecked_ne_checking t) hended hempty hearly
    obtain ⟨hqueued, hheld, hlost⟩ := hreports
    have hcode : (s.storeChecked t).resetHello = .hello (helloCode
        (decide ((conclude (helloIfChecked (s.storeChecked t))).store.state = .failed)) s.power.result.isFault
        (s.hall.state = .fault .stuck)) s.straps.station s.straps.zone := by rw [hstate]; rfl
    refine ⟨hlistening.trans (by rw [hhello]; rfl), hheld.trans (by rw [hhello]; rfl), hlost.trans (by rw [hhello]; rfl), _,
      hqueued.trans (by rw [hhello, ← hcode]; rfl), ?_⟩
    -- The list of codes in R198 is the table of `helloCode`, whatever the store's state has become.
    generalize (conclude (helloIfChecked (s.storeChecked t))).store.state = state
    clear * -
    simp +contextual [helloCode]

end Sys2Proof.Machine
end

section
/-! NUMBER and DURATION items (R40, R41, R140): the phrases of a value and of a remaining time, and their characters. -/

namespace Sys2Proof.Machine
open Sys2Proof Host Safety

/-! The phrases of a remaining time, range by range (R41). -/

theorem durationPhrases_below_minute {r : Nat} (h : r < 60) : durationPhrases r = [105] := if_pos h

theorem durationPhrases_minutes {r : Nat} (hlow : 60 ≤ r) (hhigh : r < 600) :
    durationPhrases r = [(r + 59) / 60, if (r + 59) / 60 = 1 then 100 else 101] :=
  (if_neg (Nat.not_lt.mpr hlow)).trans (if_pos hhigh)

/-- From 600 s on the phrases are those of the hours and minutes of the rounded time. -/
theorem durationPhrases_rounded {r : Nat} (h : 600 ≤ r) {t : Nat} (ht : t = 5 * ((r + 150) / 300)) :
    durationPhrases r =
      if t / 60 = 0 then [t % 60, 101]
      else if t % 60 = 0 then [t / 60, if t / 60 = 1 then 102 else 103]
      else [t / 60, if t / 60 = 1 then 102 else 103, 104, t % 60, 101] := by
  subst ht
  exact (if_neg (by omega)).trans (if_neg (by omega))

/-- The rounded time lies within 10 to 720 minutes, a multiple of 5 (R41). -/
theorem roundedMinutes_bounds {r t : Nat} (hlow : 600 ≤ r) (hhigh : r ≤ 43200) (ht : t = 5 * ((r + 150) / 300)) :
    10 ≤ t ∧ t ≤ 720 ∧ t / 60 ≤ 12 ∧ t % 60 % 5 = 0 ∧ t % 60 ≤ 55 := by omega

/-! The characters of a value and of a remaining time (R140). -/

theorem decimal_below_ten {v : Nat} (h : v < 10) : decimal v = [digitChar v] := if_pos h

theorem decimal_from_ten {v : Nat} (h : 10 ≤ v) : decimal v = [digitChar (v / 10), digitChar (v % 10)] :=
  if_neg (Nat.not_lt.mpr h)

theorem hoursMinutes_length (m : Nat) : (hoursMinutes m).length = 4 ∨ (hoursMinutes m).length = 5 := by
  unfold hoursMinutes
  by_cases h : m / 60 < 10
  · rw [decimal_below_ten h]
    exact .inl rfl
  · rw [decimal_from_ten (Nat.not_lt.mp h)]
    exact .inr rfl

/-- The hours as one or two digits, the colon, and the minutes of the hour as two digits. -/
theorem hoursMinutes_eq (m : Nat) :
    hoursMinutes m =
      (if m / 60 < 10 then [digitChar (m / 60)] else [digitChar (m / 60 / 10), digitChar (m / 60 % 10)])
        ++ [colonChar, digitChar (m % 60 / 10), digitChar (m % 60 % 10)] :=
  List.append_assoc (decimal (m / 60)) [colonChar] (twoDigits (m % 60))

/-- Settles O59: each range of R41 is one branch of `durationPhrases`, and h:mm is `hoursMinutes` of the started minutes. -/
theorem durationsAreSpokenAndShown : Obligations.DurationsAreSpokenAndShown := by
  refine ⟨fun s e i => ⟨rfl, rfl, fun hon => if_neg hon, rfl, rfl, rfl⟩, fun r => durationPhrases_below_minute,
    fun r hlow hhigh => ⟨by omega, by omega, durationPhrases_minutes hlow hhigh⟩, ?_, by decide, by decide,
    fun r hlow hhigh => by omega, fun v => decimal_below_ten, fun v hlow _ => decimal_from_ten hlow, ?_, fun d _ => rfl, rfl⟩
  · rintro r T _ _ hlow hhigh hT rfl rfl
    obtain ⟨hten, hmost, hhours, hfives, hminutes⟩ := roundedMinutes_bounds hlow hhigh hT
    rw [durationPhrases_rounded hlow hT]
    refine ⟨hten, hmost, hhours, hfives, hminutes, fun hnone => ⟨by omega, if_pos hnone⟩, fun hone hzero => ?_,
      fun hone hfive => ?_⟩
    · rw [if_neg (Nat.ne_of_gt hone), if_pos hzero]
    · rw [if_neg (Nat.ne_of_gt hone), if_neg (by omega)]
  · rintro r _ - rfl
    exact ⟨hoursMinutes_eq (startedMinutes r), hoursMinutes_length (startedMinutes r)⟩

end Sys2Proof.Machine
end

section
/-! What a step does to the counters and to the run of bit errors (00_scope.md "Counters", R62, R196): a counter moves by `bump`
alone, and the run stops at 16, so each operation keeps the bounds; one lemma for each that moves a counter or has branches, in
the order of the model. An update of other fields keeps them by definition. -/

namespace Sys2Proof.Safety
open Sys2Proof Machine

/-! The bounds block by block. -/

def LinkCounted (l : CueLink) : Prop := counter l.framingErrors ∧ counter l.refusals ∧ counter l.reportsLost

def SeqCounted (q : Sequencer) : Prop := counter q.internalDrops ∧ counter q.cuts

def StoreCounted (p : PhraseStore) : Prop := counter p.readErrors ∧ counter p.truncated

def HallCounted (h : HallPort) : Prop :=
  counter h.framesReceived ∧ counter h.badFrames ∧ counter h.ownBitErrors ∧ h.errorRun ≤ 16

def FloorCounted (u : FloorUnit) : Prop :=
  counter u.claimsSent ∧ counter u.claimsConfirmed ∧ counter u.claimsLost ∧ counter u.overlaps

theorem countersBounded_iff (s : State) :
    CountersBounded s ↔ LinkCounted s.link ∧ SeqCounted s.seq ∧ StoreCounted s.store ∧ counter s.level.maskedPhrases
      ∧ HallCounted s.hall ∧ FloorCounted s.floor ∧ counter s.power.weakSpeaker := by
  simp only [CountersBounded, LinkCounted, SeqCounted, StoreCounted, HallCounted, FloorCounted, Config.errorRun]
  tauto

theorem counter_bump (n : Nat) : counter (bump n) := Nat.min_le_left ..

theorem counter_min (n : Nat) : counter (min Config.counterLimit n) := Nat.min_le_left ..

theorem counter_zero : counter 0 := Nat.zero_le _

variable {s : State}

namespace CountersBounded

theorem onLink (h : CountersBounded s) {f : CueLink → CueLink} (hf : LinkCounted s.link → LinkCounted (f s.link)) :
    CountersBounded (s.onLink f) := by
  rw [countersBounded_iff] at h ⊢
  exact ⟨hf h.1, h.2⟩

theorem onSeq (h : CountersBounded s) {f : Sequencer → Sequencer} (hf : SeqCounted s.seq → SeqCounted (f s.seq)) :
    CountersBounded (s.onSeq f) := by
  rw [countersBounded_iff] at h ⊢
  obtain ⟨hlink, hseq, hrest⟩ := h
  exact ⟨hlink, hf hseq, hrest⟩

theorem onStore (h : CountersBounded s) {f : PhraseStore → PhraseStore} (hf : StoreCounted s.store → StoreCounted (f s.store)) :
    CountersBounded (s.onStore f) := by
  rw [countersBounded_iff] at h ⊢
  obtain ⟨hlink, hseq, hstore, hrest⟩ := h
  exact ⟨hlink, hseq, hf hstore, hrest⟩

theorem onLevel (h : CountersBounded s) {f : LevelUnit → LevelUnit}
    (hf : counter s.level.maskedPhrases → counter (f s.level).maskedPhrases) : CountersBounded (s.onLevel f) := by
  rw [countersBounded_iff] at h ⊢
  obtain ⟨hlink, hseq, hstore, hlevel, hrest⟩ := h
  exact ⟨hlink, hseq, hstore, hf hlevel, hrest⟩

theorem onHall (h : CountersBounded s) {f : HallPort → HallPort} (hf : HallCounted s.hall → HallCounted (f s.hall)) :
    CountersBounded (s.onHall f) := by
  rw [countersBounded_iff] at h ⊢
  obtain ⟨hlink, hseq, hstore, hlevel, hhall, hrest⟩ := h
  exact ⟨hlink, hseq, hstore, hlevel, hf hhall, hrest⟩

theorem onFloor (h : CountersBounded s) {f : FloorUnit → FloorUnit} (hf : FloorCounted s.floor → FloorCounted (f s.floor)) :
    CountersBounded (s.onFloor f) := by
  rw [countersBounded_iff] at h ⊢
  obtain ⟨hlink, hseq, hstore, hlevel, hhall, hfloor, hpower⟩ := h
  exact ⟨hlink, hseq, hstore, hlevel, hhall, hf hfloor, hpower⟩

theorem onPower (h : CountersBounded s) {f : Power → Power} (hf : counter s.power.weakSpeaker → counter (f s.power).weakSpeaker) :
    CountersBounded (s.onPower f) := by
  rw [countersBounded_iff] at h ⊢
  obtain ⟨hlink, hseq, hstore, hlevel, hhall, hfloor, hpower⟩ := h
  exact ⟨hlink, hseq, hstore, hlevel, hhall, hfloor, hf hpower⟩

theorem onOwn {f : OwnFloor → OwnFloor} (h : CountersBounded s) : CountersBounded (s.onOwn f) := h

theorem onRem {f : ReminderUnit → ReminderUnit} (h : CountersBounded s) : CountersBounded (s.onRem f) := h

theorem onPanel {f : Panel → Panel} (h : CountersBounded s) : CountersBounded (s.onPanel f) := h

theorem onDisplay {f : Display → Display} (h : CountersBounded s) : CountersBounded (s.onDisplay f) := h

theorem onTone {f : ToneUnit → ToneUnit} (h : CountersBounded s) : CountersBounded (s.onTone f) := h

theorem setSpeech {x : Speech} (h : CountersBounded s) : CountersBounded (s.setSpeech x) := h

theorem fold (h : CountersBounded s) {α : Type} {f : State → α → State}
    (hf : ∀ w x, CountersBounded w → CountersBounded (f w x)) (l : List α) : CountersBounded (l.foldl f s) := by
  induction l generalizing s with
  | nil => exact h
  | cons x xs ih => exact ih (hf s x h)

theorem ite (p : Prop) [Decidable p] {a b : State} (ha : CountersBounded a) (hb : CountersBounded b) :
    CountersBounded (if p then a else b) := by
  split
  · exact ha
  · exact hb

/-! Reports and the store. -/

theorem report {r : Report} (h : CountersBounded s) : CountersBounded (report r s) := by
  refine onLink h fun hl => ?_
  have hlost : LinkCounted s.link.lose := ⟨hl.1, hl.2.1, counter_bump _⟩
  unfold CueLink.join CueLink.hold
  (repeat' split)
  · exact hl
  · exact hlost
  · exact hl
  · exact hlost

theorem reportAll {rs : List Report} (h : CountersBounded s) : CountersBounded (reportAll rs s) :=
  fold h (fun _ _ hw => report hw) rs

theorem reportDone {origin : Origin} {tag : Nat} {outcome : DoneOutcome} (h : CountersBounded s) :
    CountersBounded (reportDone origin tag outcome s) := by
  unfold Machine.reportDone
  split
  · exact report h
  · exact h

theorem refuse {type : Byte} {tag : Nat} {reason : Reason} (h : CountersBounded s) :
    CountersBounded (refuse type tag reason s) :=
  report (onLink h fun hl => ⟨hl.1, counter_bump _, hl.2.2⟩)

theorem readFailed {n : Nat} (h : CountersBounded s) : CountersBounded (readFailed n s) :=
  onStore h fun hs => ⟨counter_min _, hs.2⟩

theorem countComposition {c : Composed} (h : CountersBounded s) : CountersBounded (countComposition c s) := by
  refine onStore h fun hs => ⟨counter_min _, ?_⟩
  dsimp only
  split
  · exact counter_bump _
  · exact hs.2

/-! The outputs, the display and the power modes. -/

theorem holdSampling (h : CountersBounded s) : CountersBounded (holdSampling s) := by
  unfold Machine.holdSampling
  (repeat' split) <;> exact h

theorem askClick {vs : Nat} (h : CountersBounded s) : CountersBounded (askClick vs s) := by
  unfold Machine.askClick
  split <;> exact h

theorem postText {text : Option (List Byte)} {cls : Cls} (h : CountersBounded s) : CountersBounded (postText text cls s) := by
  unfold Machine.postText
  split <;> exact h

theorem lookUpPhase (h : CountersBounded s) : CountersBounded (lookUpPhase s) := by
  unfold Machine.lookUpPhase
  split
  · exact h
  · exact readFailed h

theorem setMode {m : PowerMode} (h : CountersBounded s) : CountersBounded (setMode m s) := by
  unfold Machine.setMode
  split <;> exact h

theorem activity (h : CountersBounded s) : CountersBounded (activity s) := by
  unfold Machine.activity
  split
  · exact h
  · exact setMode h

theorem holdTimers (h : CountersBounded s) : CountersBounded (holdTimers s) := by
  unfold Machine.holdTimers
  (repeat' split) <;> exact h

theorem startCheck {powerOn : Bool} (h : CountersBounded s) : CountersBounded (startCheck powerOn s) := by
  unfold Machine.startCheck
  split <;> exact h

theorem endCheck {powerOn : Bool} {result : SpeakerResult} {steps : Nat} (h : CountersBounded s) :
    CountersBounded (endCheck powerOn result steps s) := by
  have hcounted : CountersBounded (s.onPower fun p =>
      { p with
        check := .idle
        result := result
        impedance := steps
        amp := if result.isFault then .off else .on
        weakSpeaker := if result = .weak then bump p.weakSpeaker else p.weakSpeaker }) := by
    refine onPower h fun hp => ?_
    dsimp only
    split
    · exact counter_bump _
    · exact hp
  exact ite _ (ite _ hcounted (report hcounted)) hcounted

theorem helloIfChecked (h : CountersBounded s) : CountersBounded (helloIfChecked s) := by
  unfold Machine.helloIfChecked
  split
  · exact h
  · exact reportAll (report h)

/-! The queue and the slot. -/

theorem countDrop (h : CountersBounded s) : CountersBounded (countDrop s) := onSeq h fun hq => ⟨counter_bump _, hq.2⟩

theorem evict {v : Entry} (h : CountersBounded s) : CountersBounded (evict v s) := by
  unfold Machine.evict
  dsimp only
  split
  · exact report h
  · exact countDrop h

theorem returnToQueue (h : CountersBounded s) : CountersBounded (returnToQueue s) := by
  unfold Machine.returnToQueue
  split <;> exact h

theorem applyLevel {r : LevelResult} (h : CountersBounded s) : CountersBounded (applyLevel r s) := by
  have hcounted : CountersBounded (s.onLevel fun l =>
      { l with lastG := r.gain, maskedPhrases := if r.masked then bump l.maskedPhrases else l.maskedPhrases }) := by
    refine onLevel h fun hl => ?_
    dsimp only
    split
    · exact counter_bump _
    · exact hl
  exact ite _ hcounted hcounted

theorem startItem {items : List ScriptItem} {i : Nat} (h : CountersBounded s) : CountersBounded (startItem items i s) := by
  unfold Machine.startItem
  split <;> exact h

theorem beginOutput {e : Entry} {route : Route} {script : Script} {r : LevelResult} (h : CountersBounded s) :
    CountersBounded (beginOutput e route script r s) := by
  unfold Machine.beginOutput
  dsimp only
  split
  · exact applyLevel h
  · exact startItem (applyLevel h)

theorem beginWarmUp {e : Entry} {route : Route} {script : Script} {r : LevelResult} (h : CountersBounded s) :
    CountersBounded (beginWarmUp e route script r s) := by
  unfold Machine.beginWarmUp
  dsimp only
  split <;> exact h

theorem startAudible {tag : Nat} {route : Route} {script : Script} (h : CountersBounded s) :
    CountersBounded (startAudible tag route script s) := by
  unfold Machine.startAudible
  split
  · exact h
  · exact ite _ (beginWarmUp (postText (activity h))) (beginOutput (postText (activity h)))

theorem startSilent {tag : Nat} {script : Script} (h : CountersBounded s) : CountersBounded (startSilent tag script s) := by
  unfold Machine.startSilent
  split
  · exact h
  · exact postText (activity h)

theorem seqConfirmed (h : CountersBounded s) : CountersBounded (seqConfirmed s) := by
  unfold Machine.seqConfirmed
  (repeat' split)
  · exact startAudible h
  · exact h
  · exact h

/-! The floor. -/

theorem handFrame {f : TxFrame} (h : CountersBounded s) : CountersBounded (handFrame f s) := by
  unfold Machine.handFrame
  split <;> exact h

theorem releaseWithdrawn {seq : Nat} (h : CountersBounded s) : CountersBounded (releaseWithdrawn seq s) := handFrame h

theorem claimLost (h : CountersBounded s) : CountersBounded (claimLost s) := by
  have hcounted : CountersBounded (s.onFloor fun u => { u with claimsLost := bump u.claimsLost }) :=
    onFloor h fun ⟨hsent, hconfirmed, _, hoverlaps⟩ => ⟨hsent, hconfirmed, counter_bump _, hoverlaps⟩
  exact returnToQueue hcounted

theorem confirmOwn (h : CountersBounded s) : CountersBounded (confirmOwn s) := by
  have hcounted : CountersBounded ((changeOwnClaim s.confirmedClaim s).onFloor fun u =>
      { u with claimsConfirmed := bump u.claimsConfirmed }) :=
    onFloor (s := changeOwnClaim s.confirmedClaim s) h fun ⟨hsent, _, hlost, hoverlaps⟩ => ⟨hsent, counter_bump _, hlost, hoverlaps⟩
  exact ite _ (seqConfirmed hcounted) h

theorem confirmTop {z : Nat} (h : CountersBounded s) : CountersBounded (confirmTop z s) := by
  rcases confirmTop_cases z s with heq | ⟨x, -, -, heq⟩
  · rwa [heq]
  · rw [heq]
    unfold confirmClaim
    split
    · exact confirmOwn h
    · exact h

theorem examine {z : Nat} (h : CountersBounded s) : CountersBounded (examine z s) := by
  have htop := confirmTop (z := z) h
  unfold Machine.examine
  rcases decideLoss_cases z (Machine.confirmTop z s) with heq | ⟨seq, heq⟩
  · rwa [heq]
  · rw [heq]
    exact claimLost (releaseWithdrawn htop)

theorem removePeerClaim {station : Nat} (h : CountersBounded s) : CountersBounded (removePeerClaim station s) := by
  unfold Machine.removePeerClaim
  split
  · exact examine h
  · exact h

theorem removeOwnClaim (h : CountersBounded s) : CountersBounded (removeOwnClaim s) := by
  unfold Machine.removeOwnClaim
  split
  · exact examine h
  · exact h

theorem preempt {z : Nat} {cls : Cls} {heard : Nat} (h : CountersBounded s) : CountersBounded (preempt z cls heard s) := by
  rcases preempt_cases z cls heard s with heq | heq | heq | ⟨x, -, -, heq⟩ <;> rw [heq] <;> exact h

theorem requestClaim {cls : Cls} {arrival length : Nat} (h : CountersBounded s) :
    CountersBounded (requestClaim cls arrival length s) := by
  unfold Machine.requestClaim
  dsimp only
  split
  · exact h
  · exact handFrame h

theorem promotePending (h : CountersBounded s) : CountersBounded (promotePending s) := by
  unfold Machine.promotePending
  split
  · exact handFrame h
  · exact h

theorem claimUnsent (h : CountersBounded s) : CountersBounded (claimUnsent s) := by
  unfold Machine.claimUnsent
  dsimp only
  (repeat' split)
  · exact claimLost h
  · exact promotePending h
  · exact h

theorem takeBack {why : TakenBack} (h : CountersBounded s) : CountersBounded (takeBack why s) := by
  unfold Machine.takeBack
  dsimp only
  split
  · exact h
  · exact claimUnsent h

theorem withdraw (h : CountersBounded s) : CountersBounded (withdraw s) := by
  refine ite _ h ?_
  dsimp only
  split
  · exact h
  · exact takeBack h
  · exact ite _ h (releaseWithdrawn h)
  · exact h

theorem releaseFloor {outcome : ReleaseOutcome} (h : CountersBounded s) : CountersBounded (releaseFloor outcome s) := by
  unfold Machine.releaseFloor
  split
  · exact h
  · exact handFrame h

theorem ownClaimHeard (h : CountersBounded s) : CountersBounded (ownClaimHeard s) := by
  unfold Machine.ownClaimHeard
  split
  · exact h
  next o _ =>
    have hsent : CountersBounded (s.onFloor fun u => { u with claimsSent := bump u.claimsSent }) :=
      onFloor h fun hf => ⟨counter_bump _, hf.2⟩
    dsimp only
    cases o.takenBack
    · exact promotePending (ite _ (examine (preempt hsent)) (preempt hsent))
    · exact promotePending
        (ite _ (examine (claimLost (releaseWithdrawn (preempt hsent)))) (claimLost (releaseWithdrawn (preempt hsent))))
    · exact promotePending (ite _ (examine (releaseWithdrawn (preempt hsent))) (releaseWithdrawn (preempt hsent)))

theorem ownReleaseHeard {seq : Nat} (h : CountersBounded s) : CountersBounded (ownReleaseHeard seq s) := by
  unfold Machine.ownReleaseHeard
  (repeat' split)
  · exact examine h
  · exact h
  · exact h

theorem ownClaimExpired (h : CountersBounded s) : CountersBounded (ownClaimExpired s) := by
  unfold Machine.ownClaimExpired
  dsimp only
  (repeat' split)
  · exact h
  · exact claimLost (handFrame (removeOwnClaim h))
  · exact removeOwnClaim h

theorem floorFault (h : CountersBounded s) : CountersBounded (floorFault s) := by
  have hreturned : CountersBounded (if s.floor.own.state = .claiming then Machine.returnToQueue s else s) :=
    ite _ (returnToQueue h) h
  exact removeOwnClaim hreturned

theorem hearPeer {station zone : Nat} {presence : Presence} (h : CountersBounded s) :
    CountersBounded (hearPeer station zone presence s) := by
  unfold Machine.hearPeer
  split <;> exact h

theorem takeBackIfOutranked {zone : Nat} {c : LiveClaim} {station : Nat} (h : CountersBounded s) :
    CountersBounded (takeBackIfOutranked zone c station s) := by
  unfold Machine.takeBackIfOutranked
  (repeat' split)
  · exact takeBack h
  · exact h
  · exact h

theorem hearClaim {f : ClaimFrame} (h : CountersBounded s) : CountersBounded (hearClaim f s) := by
  unfold Machine.hearClaim
  dsimp only
  split
  · exact examine (takeBackIfOutranked (preempt (hearPeer h)))
  · exact takeBackIfOutranked (preempt (hearPeer h))

theorem hearRelease {f : ReleaseFrame} (h : CountersBounded s) : CountersBounded (hearRelease f s) := by
  unfold Machine.hearRelease
  dsimp only
  (repeat' split)
  · exact removePeerClaim (hearPeer h)
  · exact hearPeer h
  · exact hearPeer h

theorem testOverlap {f : PresenceFrame} (h : CountersBounded s) : CountersBounded (testOverlap f s) := by
  have hcounted : CountersBounded (s.onFloor fun u => { u with overlaps := bump u.overlaps }) :=
    onFloor h fun ⟨hsent, hconfirmed, hlost, _⟩ => ⟨hsent, hconfirmed, hlost, counter_bump _⟩
  exact ite _ (ite _ hcounted hcounted) h

theorem applyPresence {f : PresenceFrame} (h : CountersBounded s) : CountersBounded (applyPresence f s) := by
  unfold Machine.applyPresence
  dsimp only
  split
  · exact ite _ (examine h) h
  · exact ite _ (ite _ h (removePeerClaim h)) h

theorem hearPresence {f : PresenceFrame} (h : CountersBounded s) : CountersBounded (hearPresence f s) := by
  unfold Machine.hearPresence
  dsimp only
  split
  · exact removePeerClaim (hearPeer h)
  · exact applyPresence (testOverlap (hearPeer h))

theorem emptySlot (h : CountersBounded s) : CountersBounded (emptySlot s) := onDisplay (onTone (onSeq (setSpeech h) id))

/-! The selection, and the entries that leave and join. -/

theorem takeEntry {e : Entry} (h : CountersBounded s) : CountersBounded (takeEntry e s) := by
  have hslot : CountersBounded (fillSlot e.tag (s.kindFor e) (s.compose e (s.kindFor e)) s) := countComposition h
  unfold Machine.takeEntry
  dsimp only
  split
  · exact startSilent hslot
  · exact ite _ (requestClaim hslot) (startAudible hslot)

theorem select (h : CountersBounded s) : CountersBounded (select s) := by
  unfold Machine.select
  (repeat' split)
  · exact h
  · exact takeEntry h
  · exact h

theorem startWaitingRecovery (h : CountersBounded s) : CountersBounded (startWaitingRecovery s) := ite _ h h

theorem conclude (h : CountersBounded s) : CountersBounded (conclude s) :=
  ite _ (holdTimers (holdSampling (select (startWaitingRecovery h)))) h

theorem leaveWith {e : Entry} {outcome : DoneOutcome} (h : CountersBounded s) : CountersBounded (leaveWith e outcome s) :=
  reportDone h

theorem stopRemoved {e : Entry} {outcome : DoneOutcome} (h : CountersBounded s) : CountersBounded (stopRemoved e outcome s) :=
  leaveWith (emptySlot (releaseFloor h))

theorem cutEntry {e : Entry} (h : CountersBounded s) : CountersBounded (cutEntry e s) := by
  have hcounted : CountersBounded ((Machine.emptySlot (Machine.releaseFloor .cut s)).onSeq fun q => { q with cuts := bump q.cuts }) :=
    onSeq (emptySlot (releaseFloor h)) fun hq => ⟨hq.1, counter_bump _⟩
  exact ite _ (leaveWith hcounted) hcounted

theorem atBoundary {e : Entry} {v : Service} {goOn : LevelResult → State → State}
    (hgoOn : ∀ r w, CountersBounded w → CountersBounded (goOn r w)) (h : CountersBounded s) :
    CountersBounded (atBoundary e v goOn s) := by
  unfold Machine.atBoundary
  dsimp only
  split
  · exact stopRemoved h
  · exact ite _ (cutEntry h) (hgoOn _ s h)

theorem answerAwaiting {tag : Nat} {outcome : DoneOutcome} (h : CountersBounded s) :
    CountersBounded (answerAwaiting tag outcome s) := report h

theorem makeAwaiting {e : Entry} (h : CountersBounded s) : CountersBounded (makeAwaiting e s) := by
  have hroom : CountersBounded (if s.panel.awaiting.length < Config.awaitingLimit then s
      else match s.panel.awaiting with
        | a :: _ => Machine.answerAwaiting a.tag .unacknowledged s
        | [] => s) := by
    refine ite _ h ?_
    split
    · exact answerAwaiting h
    · exact h
  exact hroom

theorem completeEntry {e : Entry} (h : CountersBounded s) : CountersBounded (completeEntry e s) := by
  have hnoted : CountersBounded (if e.origin = .key then s
      else s.onPanel fun p => { p with lastCompleted := some ⟨e.template, e.param1, e.param2, e.cls, e.channels⟩ }) :=
    ite _ h h
  exact ite _ (makeAwaiting hnoted) (leaveWith hnoted)

theorem endService {e : Entry} {v : Service} (h : CountersBounded s) : CountersBounded (endService e v s) := by
  have hended : CountersBounded (Machine.emptySlot (Machine.activity (Machine.releaseFloor .complete s))) :=
    emptySlot (activity (releaseFloor h))
  unfold Machine.endService
  dsimp only
  split
  · exact leaveWith hended
  · exact completeEntry hended

theorem endSilent {e : Entry} (h : CountersBounded s) : CountersBounded (endSilent e s) := completeEntry (emptySlot (activity h))

theorem removeEntry {tag : Nat} {outcome : DoneOutcome} (h : CountersBounded s) :
    CountersBounded (removeEntry tag outcome s) := by
  have hwithdrawn := emptySlot (withdraw h)
  unfold Machine.removeEntry
  (repeat' split)
  · exact h
  · exact leaveWith h
  · exact leaveWith hwithdrawn
  · exact h
  · exact leaveWith h

theorem expireEntry {tag : Nat} (h : CountersBounded s) : CountersBounded (expireEntry tag s) := by
  have hwithdrawn := emptySlot (withdraw h)
  unfold Machine.expireEntry
  (repeat' split)
  · exact h
  · exact leaveWith h
  · exact leaveWith hwithdrawn
  · exact h
  · exact h

theorem replaceEntry {c : PromptCue} {old : Entry} (h : CountersBounded s) : CountersBounded (replaceEntry c old s) :=
  report (report h)

theorem supersedeAwaiting {tag : Nat} (h : CountersBounded s) : CountersBounded (supersedeAwaiting tag s) := by
  unfold Machine.supersedeAwaiting
  split
  · exact answerAwaiting h
  · exact h

theorem clear {c : Capacity} (h : CountersBounded s) : CountersBounded (c.clear s) := by
  unfold Capacity.clear
  split
  · exact evict h
  · exact h

theorem newPrompt {c : PromptCue} {cap : Capacity} (h : CountersBounded s) : CountersBounded (newPrompt c cap s) := by
  have hcleared := clear (c := cap) (supersedeAwaiting (tag := c.tag) h)
  exact report hcleared

theorem internalPrompt {p : InternalPrompt} (h : CountersBounded s) : CountersBounded (internalPrompt p s) := by
  refine ite _ (countDrop h) (ite _ h ?_)
  split
  · exact countDrop h
  · have hcleared := clear (c := s.capacity p.cls) h
    exact hcleared

theorem makeRepeat {a : Awaiting} {cap : Capacity} (h : CountersBounded s) : CountersBounded (makeRepeat a cap s) := by
  have hcleared := clear (c := cap) h
  exact report hcleared

theorem repeatFallsDue {a : Awaiting} (h : CountersBounded s) : CountersBounded (repeatFallsDue a s) := by
  refine ite _ (answerAwaiting h) ?_
  split
  · exact h
  · exact makeRepeat h

/-! The steps of the output. -/

theorem chimeEnds (h : CountersBounded s) : CountersBounded (chimeEnds s) := by
  unfold Machine.chimeEnds
  split
  · refine ite _ ?_ h
    dsimp only
    split
    next x _ =>
      have hstopped : CountersBounded (stopChime s) := h
      exact ite _ (endService hstopped) (atBoundary (fun r w hw => startItem (applyLevel hw)) hstopped)
    · exact h
  · exact h

theorem itemEnds (h : CountersBounded s) : CountersBounded (itemEnds s) := by
  unfold Machine.itemEnds
  split
  · refine ite _ ?_ h
    split
    next x _ =>
      have hidle : CountersBounded (s.setSpeech .idle) := h
      exact ite _ (endService hidle) (atBoundary (fun r w hw => applyLevel hw) h)
    · exact h
  · exact h

theorem itemGapEnds (h : CountersBounded s) : CountersBounded (itemGapEnds s) := by
  unfold Machine.itemGapEnds
  split
  · exact ite _ (startItem h) h
  · exact h

theorem silentServiceEnds (h : CountersBounded s) : CountersBounded (silentServiceEnds s) := by
  unfold Machine.silentServiceEnds
  split
  · exact ite _ (endSilent h) h
  · exact h

theorem phraseReadTimesOut (h : CountersBounded s) : CountersBounded (phraseReadTimesOut s) := by
  have hcounted := readFailed (n := 1) h
  unfold Machine.phraseReadTimesOut
  split
  · exact ite _ hcounted h
  · exact h

theorem warmUpEnds (h : CountersBounded s) : CountersBounded (warmUpEnds s) := by
  unfold Machine.warmUpEnds
  split
  · refine ite _ ?_ h
    dsimp only
    (repeat' split)
    · exact h
    · exact beginOutput h
    · exact h
    · exact h
  · exact h

theorem speakerFails {kind : SpeakerFaultKind} (h : CountersBounded s) : CountersBounded (speakerFails kind s) := by
  have hstop {w : State} (hw : CountersBounded w) : CountersBounded (stopForFault w) := by
    unfold stopForFault
    (repeat' split)
    · exact stopRemoved hw
    · exact returnToQueue (releaseFloor hw)
    · exact hw
  refine ite _ ?_ h
  have hstopped : CountersBounded (stopForFault (s.onPower fun p =>
      { p with amp := .off, result := (faultResult kind).1, impedance := (faultResult kind).2 })) := hstop h
  exact report hstopped

/-! The reminders, the sessions and the keys. -/

theorem fire {p : InternalPrompt} (h : CountersBounded s) : CountersBounded (fire p s) := by
  have hactive := activity (internalPrompt (p := p) h)
  exact hactive

theorem crossMarks {old new : Nat} (h : CountersBounded s) : CountersBounded (crossMarks old new s) := by
  unfold Machine.crossMarks
  dsimp only
  split
  · exact fire h
  · exact h

theorem progressTaken {remaining : Nat} {running : Bool} (h : CountersBounded s) :
    CountersBounded (progressTaken remaining running s) := by
  have hcrossed := crossMarks (old := s.rem.estimate) (new := remaining) h
  exact hcrossed

theorem decrement (h : CountersBounded s) : CountersBounded (decrement s) := by
  unfold Machine.decrement
  split
  · refine ite _ (ite _ h ?_) h
    have hcrossed : CountersBounded (Machine.crossMarks s.rem.estimate (s.rem.estimate - 1)
        (s.onRem fun u => { u with estimate := s.rem.estimate - 1 })) := crossMarks h
    exact hcrossed
  · exact h

theorem remindTaken {c : RemindCue} (h : CountersBounded s) : CountersBounded (remindTaken c s) := by
  unfold Machine.remindTaken
  dsimp only
  (repeat' split) <;> exact h

theorem slotFires {n : Nat} (h : CountersBounded s) : CountersBounded (slotFires n s) := by
  unfold Machine.slotFires
  split
  next r _ =>
    have hfired := fire (p := slotPrompt n r) h
    exact ite _ hfired h
  · exact h

theorem endSession (h : CountersBounded s) : CountersBounded (endSession s) := by
  have hqueued : CountersBounded (removeQueued s) := fold h (fun _ _ hw => removeEntry hw) _
  have hserved : CountersBounded (removeServed (removeQueued s)) := by
    unfold removeServed
    split
    · exact ite _ (removeEntry hqueued) hqueued
    · exact hqueued
  have hanswered : CountersBounded (clearAwaiting (removeServed (removeQueued s))) :=
    fold hserved (fun _ _ hw => answerAwaiting hw) _
  have hcleared : CountersBounded (clearSessionSlots (clearAwaiting (removeServed (removeQueued s)))) := onRem hanswered
  exact onPanel (lookUpPhase (onPanel (onPanel hcleared)))

theorem sessionTaken {c : SessionCue} (h : CountersBounded s) : CountersBounded (sessionTaken c s) := by
  cases c with
  | end_ => exact endSession h
  | begin_ language =>
    have hended : CountersBounded (if s.panel.inSession then Machine.endSession s else s) := ite _ (endSession h) h
    exact lookUpPhase hended

theorem acknowledge {tag : Nat} (h : CountersBounded s) : CountersBounded (acknowledge tag s) := by
  unfold Machine.acknowledge
  split
  · exact answerAwaiting h
  · exact removeEntry h

theorem stepVolume {up : Bool} (h : CountersBounded s) : CountersBounded (stepVolume up s) := ite _ h h

theorem pressAction {k : Key} (h : CountersBounded s) : CountersBounded (pressAction k s) := by
  cases k with
  | rep =>
    unfold Machine.pressAction actRepeat
    dsimp only
    split
    · exact internalPrompt h
    · exact h
  | hlp =>
    unfold Machine.pressAction actHelp
    dsimp only
    split
    · exact internalPrompt h
    · exact h
  | lng => exact h
  | vdn => exact stepVolume h
  | vup => exact stepVolume h
  | ok =>
    unfold Machine.pressAction actOk
    dsimp only
    split
    · exact acknowledge h
    · exact h

theorem pressKey {k : Key} (h : CountersBounded s) : CountersBounded (pressKey k s) := by
  have hactive : CountersBounded (pressActivity s) := activity h
  have hacted := pressAction (k := k) (askClick (vs := s.clickVolume k) hactive)
  exact ite _ hacted h

theorem classifyPress {k : Key} {long : Bool} (h : CountersBounded s) : CountersBounded (classifyPress k long s) := by
  have hlang : CountersBounded (actLang long s) := ite _ (internalPrompt (lookUpPhase h)) h
  exact report (ite _ hlang h)

theorem keyComesUp {k : Key} (h : CountersBounded s) : CountersBounded (keyComesUp k s) := by
  unfold Machine.keyComesUp
  split
  · exact h
  · exact classifyPress h
  · exact h
  · exact h

theorem releaseKey {k : Key} (h : CountersBounded s) : CountersBounded (releaseKey k s) := by
  have hup := keyComesUp (k := k) h
  exact ite _ hup h

theorem holdKey {k : Key} (h : CountersBounded s) : CountersBounded (holdKey k s) := by
  unfold Machine.holdKey
  split
  · exact ite _ (classifyPress h) h
  · exact h

/-! The entry to SLEEP and the wake. -/

theorem discardPartial (h : CountersBounded s) : CountersBounded (discardPartial s) := by
  unfold Machine.discardPartial
  split
  · exact h
  · exact onLink h fun hl => ⟨counter_bump _, hl.2⟩

theorem enterSleep (h : CountersBounded s) : CountersBounded (enterSleep s) :=
  discardPartial (onRem (onLevel (onOwn (onHall (onPower (setMode h) id) id)) id))

theorem announcementEnds (h : CountersBounded s) : CountersBounded (announcementEnds s) := ite _ (enterSleep h) h

theorem wakeUp (h : CountersBounded s) : CountersBounded (wakeUp s) := by
  have hhall {w : State} (hw : CountersBounded w) : CountersBounded (wakeHall w) := by
    unfold wakeHall
    split <;> exact hw
  have hmode : CountersBounded ((Machine.setMode .active s).onPower fun p => { p with dim := some (s.after Config.dim) }) :=
    setMode h
  have hwoken : CountersBounded (wakeHall (clearView ((Machine.setMode .active s).onPower fun p =>
      { p with dim := some (s.after Config.dim) }))) := hhall hmode
  exact hwoken

theorem wakeIfAsleep (h : CountersBounded s) : CountersBounded (wakeIfAsleep s) := ite _ h (wakeUp h)

/-! The hall line. -/

theorem tellFault {cause : FaultCause} (h : CountersBounded s) : CountersBounded (tellFault cause s) :=
  ite _ (report h) (report h)

theorem enterFault {cause : FaultCause} (h : CountersBounded s) : CountersBounded (enterFault cause s) := by
  have hhall : CountersBounded (s.onHall (HallPort.faulted s.now cause)) :=
    onHall h fun ⟨hreceived, hbad, herrors, _⟩ => ⟨hreceived, hbad, herrors, Nat.zero_le _⟩
  exact announcementEnds (tellFault (floorFault hhall))

theorem hallCounted_withoutPresence {k : PresenceKind} {p : HallPort} (h : HallCounted p) : HallCounted (p.withoutPresence k) := by
  unfold HallPort.withoutPresence
  split <;> exact h

theorem attemptFails (h : CountersBounded s) : CountersBounded (attemptFails s) := by
  unfold Machine.attemptFails
  split
  · exact onHall h fun hh => hallCounted_withoutPresence (k := .recovery) hh
  · exact h

theorem duplicateHeard (h : CountersBounded s) : CountersBounded (duplicateHeard s) := by
  unfold Machine.duplicateHeard
  split
  · exact h
  · exact h
  · have hhall : CountersBounded (s.onHall fun p =>
        { p.withoutPresence .recovery with state := .fault .duplicate, recovery := .none_ }) :=
      onHall h fun hh => hallCounted_withoutPresence (k := .recovery) hh
    exact tellFault hhall
  · exact enterFault h

theorem watchBits {bits : List Bool} (h : CountersBounded s) : CountersBounded (watchBits bits s) := ite _ h h

theorem frameBad {counting : Bool} (h : CountersBounded s) : CountersBounded (frameBad counting s) :=
  onHall h fun ⟨hreceived, _, hrest⟩ => ⟨hreceived, counter_bump _, hrest⟩

theorem handedOver {f : HallFrame} (h : CountersBounded s) : CountersBounded (handedOver f s) := by
  cases f with
  | claim c => exact hearClaim h
  | release r => exact hearRelease h
  | presence p => exact hearPresence h

theorem frameGood {f : HallFrame} (h : CountersBounded s) : CountersBounded (frameGood f s) := by
  have hcounted : CountersBounded (s.onHall fun p =>
      { p with
        framesReceived := bump p.framesReceived, line := .receiving, idleCounting := true
        watch := s.after Config.stuck }) := onHall h fun hh => ⟨counter_bump _, hh.2⟩
  exact ite _ (duplicateHeard hcounted) (handedOver hcounted)

theorem frameHeard {f : HallFrame} (h : CountersBounded s) : CountersBounded (frameHeard f s) :=
  ite _ (ite _ (frameGood h) (frameBad h)) h

theorem bitsHeard {bits : List Bool} (h : CountersBounded s) : CountersBounded (bitsHeard bits s) := by
  refine ite _ ?_ h
  split
  · exact frameGood h
  · exact frameBad (watchBits h)
  · exact frameBad (watchBits h)

theorem dropTakenBack {f : TxFrame} (h : CountersBounded s) : CountersBounded (dropTakenBack f s) := by
  unfold Machine.dropTakenBack
  split
  · exact ite _ (claimUnsent h) h
  · exact h

theorem arbitrationLost (h : CountersBounded s) : CountersBounded (arbitrationLost s) := by
  unfold Machine.arbitrationLost
  split
  · exact dropTakenBack h
  · exact h

theorem restHeard {rest : Option (List Bool)} (h : CountersBounded s) : CountersBounded (restHeard rest s) := by
  unfold Machine.restHeard
  split
  · refine ite _ h ?_
    split
    · exact ite _ (frameGood h) h
    · exact frameBad (watchBits h)
    · exact frameBad (watchBits h)
  · exact h

theorem bitErrs {rest : Option (List Bool)} (h : CountersBounded s) : CountersBounded (bitErrs rest s) := by
  have hfailed : CountersBounded (s.onHall HallPort.bitFailed) :=
    onHall h fun ⟨hreceived, hbad, _, _⟩ => ⟨hreceived, hbad, counter_bump _, Nat.min_le_left ..⟩
  unfold Machine.bitErrs
  split
  next f _ =>
    have hrecovery : CountersBounded (failIfRecovery f (Machine.dropTakenBack f (s.onHall HallPort.bitFailed))) :=
      ite _ (attemptFails (dropTakenBack hfailed)) (dropTakenBack hfailed)
    have hrun : CountersBounded
        (faultAtRun (failIfRecovery f (Machine.dropTakenBack f (s.onHall HallPort.bitFailed)))) :=
      ite _ (enterFault hrecovery) hrecovery
    exact restHeard hrun
  · exact h

theorem wentThrough (h : CountersBounded s) : CountersBounded (s.onHall (HallPort.wentThrough s.now)) :=
  onHall h fun ⟨hreceived, hbad, herrors, _⟩ => ⟨hreceived, hbad, herrors, Nat.zero_le _⟩

theorem ownClaimGoes (h : CountersBounded s) : CountersBounded (ownClaimGoes s) := by
  unfold Machine.ownClaimGoes
  split
  · exact ownClaimHeard (wentThrough h)
  · exact h

theorem ownReleaseGoes (h : CountersBounded s) : CountersBounded (ownReleaseGoes s) := by
  unfold Machine.ownReleaseGoes
  split
  · exact ownReleaseHeard (wentThrough h)
  · exact h

theorem ownPresenceGoes (h : CountersBounded s) : CountersBounded (ownPresenceGoes s) := by
  have hthrough := wentThrough h
  unfold Machine.ownPresenceGoes
  split
  · exact report hthrough
  · exact announcementEnds hthrough
  · exact hthrough
  · exact h

theorem lineSticks (h : CountersBounded s) : CountersBounded (lineSticks s) := by
  refine ite _ h ?_
  dsimp only
  split
  · exact h
  · exact h
  · exact attemptFails h
  · exact enterFault h

theorem frameStarts (h : CountersBounded s) : CountersBounded (frameStarts s) := by
  unfold Machine.frameStarts
  split <;> exact h

theorem listenInEnds (h : CountersBounded s) : CountersBounded (listenInEnds s) := by
  unfold Machine.listenInEnds
  split
  · exact ite _ h h
  · exact h

theorem heartbeatDue (h : CountersBounded s) : CountersBounded (heartbeatDue s) := by
  unfold Machine.heartbeatDue
  split
  · exact ite _ h h
  · exact h

theorem recoveryDue (h : CountersBounded s) : CountersBounded (recoveryDue s) := by
  unfold Machine.recoveryDue
  split
  · exact ite _ (ite _ h h) h
  · exact h

theorem recoveryTimesOut (h : CountersBounded s) : CountersBounded (recoveryTimesOut s) := by
  unfold Machine.recoveryTimesOut
  split
  · exact ite _ (attemptFails h) h
  · exact h

theorem finalTimesOut (h : CountersBounded s) : CountersBounded (finalTimesOut s) := by
  have hhall : CountersBounded (s.onHall fun p => { p.withoutPresence .final with finalTimer := none }) :=
    onHall h fun hh => hallCounted_withoutPresence (k := .final) hh
  exact ite _ (announcementEnds hhall) h

theorem peerSilent {station : Nat} (h : CountersBounded s) : CountersBounded (peerSilent station s) := by
  unfold Machine.peerSilent
  split
  · exact ite _ (removePeerClaim h) h
  · exact h

theorem claimExpires {station : Nat} (h : CountersBounded s) : CountersBounded (claimExpires station s) := by
  unfold Machine.claimExpires
  (repeat' split)
  · exact ownClaimExpired h
  · exact h
  · exact h
  · exact removePeerClaim h
  · exact h
  · exact h

theorem settleEnds {station : Nat} (h : CountersBounded s) : CountersBounded (settleEnds station s) := by
  unfold Machine.settleEnds
  (repeat' split)
  · exact examine h
  · exact h
  · exact h
  · exact examine h
  · exact h
  · exact h

theorem turnGapEnds (h : CountersBounded s) : CountersBounded (turnGapEnds s) := ite _ h h

theorem lineIdles (h : CountersBounded s) : CountersBounded (lineIdles s) := ite _ h h

/-! The cue link. -/

theorem softReset {down : Keys Bool} (h : CountersBounded s) : CountersBounded (softReset down s) := by
  have hhall : CountersBounded ((Machine.releaseFloor .cut s).onHall HallPort.softReset) :=
    onHall (releaseFloor h) fun hh => hh
  have hfloor : CountersBounded (softResetFloor s) := removeOwnClaim hhall
  have hblocks : CountersBounded ((((softResetFloor s).setSpeech .idle).onSeq Sequencer.softReset).onTone fun _ => ToneUnit.reset) :=
    onTone (onSeq (setSpeech hfloor) id)
  exact report (onLink (onDisplay (onPower (onPanel (onRem (onLevel hblocks id))) id)) id)

end CountersBounded

/-- What a cue's own checks hand on keeps the bounds. -/
def HandledBounded : Handled → Prop
  | .taken s => CountersBounded s
  | .refused _ => True

theorem HandledBounded.withFields {α : Type} {fields : Option α} {handle : α → Handled}
    (h : ∀ x, HandledBounded (handle x)) : HandledBounded (withFields fields handle) := by
  cases fields with
  | none => trivial
  | some x => exact h x

theorem HandledBounded.ite (p : Prop) [Decidable p] {a b : Handled} (ha : HandledBounded a) (hb : HandledBounded b) :
    HandledBounded (if p then a else b) := by
  split
  · exact ha
  · exact hb

namespace CountersBounded

theorem enqueuePrompt {c : PromptCue} (h : CountersBounded s) : HandledBounded (enqueuePrompt c s) := by
  have hwithdrawn := emptySlot (withdraw h)
  refine HandledBounded.ite _ trivial ?_
  (repeat' split)
  · exact replaceEntry h
  · exact replaceEntry hwithdrawn
  · trivial
  · trivial
  · trivial
  · exact newPrompt h

theorem cancelTag {tag : Nat} (h : CountersBounded s) : HandledBounded (cancelTag tag s) := by
  unfold Machine.cancelTag
  (repeat' split)
  · exact removeEntry h
  · exact answerAwaiting h
  · trivial

theorem handleCue {down : Keys Bool} {type : Byte} {payload : List Byte} (h : CountersBounded s) :
    HandledBounded (handleCue down type payload s) := by
  unfold Machine.handleCue
  split
  · exact HandledBounded.ite _ trivial (.withFields fun c => lookUpPhase h)
  · exact .withFields fun c => sessionTaken h
  · exact .withFields fun c => lookUpPhase h
  · exact .withFields fun c => progressTaken h
  · exact .withFields fun c => enqueuePrompt h
  · exact .withFields fun c => cancelTag h
  · exact .withFields fun c => .ite _ (acknowledge h) trivial
  · exact .withFields fun c => h
  · exact .withFields fun c => remindTaken h
  · exact .withFields fun c => h
  · exact .ite _ (ite _ h (enterSleep h)) trivial
  · exact .ite _ (startCheck h) trivial
  · exact .withFields fun c => reportAll (ite _ h h)
  · exact softReset h
  · trivial

theorem takeCue {down : Keys Bool} {type : Byte} {payload : List Byte} (h : CountersBounded s) :
    CountersBounded (takeCue down type payload s) := by
  have hactive : CountersBounded (cueActivity type payload s) := ite _ (activity h) (activity h)
  have hchecked : HandledBounded (checkCue down type payload (cueActivity type payload s)) := by
    unfold checkCue
    split
    · trivial
    · exact .ite _ (handleCue hactive) trivial
  unfold Machine.takeCue
  dsimp only
  split
  next u hu =>
    rw [hu] at hchecked
    exact ite _ hchecked hchecked
  · exact refuse hactive

theorem linkCounted_receive {l : CueLink} (now : Nat) (b : Byte) (h : LinkCounted l) : LinkCounted (l.receive now b).1 := by
  unfold CueLink.receive
  (repeat' split)
  any_goals exact h
  exact ⟨counter_bump _, h.2⟩

theorem dropStale (h : CountersBounded s) : CountersBounded (dropStale s) := ite _ (discardPartial h) h

theorem receiveByte {down : Keys Bool} {b : Byte} (h : CountersBounded s) : CountersBounded (receiveByte down s b) := by
  refine ite _ ?_ h
  have hstale := dropStale (wakeIfAsleep h)
  have hheard : CountersBounded ((Machine.dropStale (Machine.wakeIfAsleep s)).onLink fun _ =>
      ((Machine.dropStale (Machine.wakeIfAsleep s)).link.receive (Machine.dropStale (Machine.wakeIfAsleep s)).now b).1) :=
    onLink hstale (linkCounted_receive _ b)
  dsimp only
  split
  · exact takeCue hheard
  · exact hheard

theorem receiveBytes {down : Keys Bool} {bs : List Byte} (h : CountersBounded s) : CountersBounded (receiveBytes down bs s) :=
  fold h (fun _ _ hw => receiveByte hw) bs

theorem frameDiscarded {rx : List Byte} {last : Byte} {badStop : Bool} (h : CountersBounded s) :
    CountersBounded (frameDiscarded rx last badStop s) := by
  have hbytes := receiveBytes (down := s.keysDown) (bs := rx) h
  exact ite _ (ite _ (discardPartial (wakeIfAsleep hbytes)) hbytes) (receiveByte hbytes)

theorem gapHeard {t : Nat} {rx : List Byte} (h : CountersBounded s) : CountersBounded (gapHeard t rx s) := by
  have hbytes : CountersBounded ((Machine.receiveBytes s.keysDown rx (s.arrive (t - Config.interByte))).arrive t) :=
    receiveBytes (s := s.arrive (t - Config.interByte)) h
  exact ite _ (discardPartial hbytes) hbytes

/-! The start-up and the remaining timers. -/

theorem storeCheckEnds (h : CountersBounded s) : CountersBounded (storeCheckEnds s) := by
  have hchecked : CountersBounded (s.onStore (PhraseStore.checked s.now)) := by
    refine onStore h fun hs => ?_
    unfold PhraseStore.checked
    split <;> exact hs
  exact ite _ (helloIfChecked hchecked) h

theorem speakerCheckEnds {milliohms : Nat} (h : CountersBounded s) : CountersBounded (speakerCheckEnds milliohms s) := by
  unfold Machine.speakerCheckEnds
  split
  · exact ite _ (helloIfChecked (endCheck h)) h
  · exact h

theorem checkOvercurrent (h : CountersBounded s) : CountersBounded (checkOvercurrent s) := by
  unfold Machine.checkOvercurrent
  split
  · exact helloIfChecked (endCheck h)
  · exact h

theorem bucketSteps {tag : Nat} (h : CountersBounded s) : CountersBounded (bucketSteps tag s) := by
  unfold Machine.bucketSteps
  split
  · exact ite _ (conclude h) h
  · exact h

theorem repeatDueFor {tag : Nat} (h : CountersBounded s) : CountersBounded (repeatDueFor tag s) := by
  unfold Machine.repeatDueFor
  split
  · exact ite _ (repeatFallsDue h) h
  · exact h

theorem toneStepEnds (h : CountersBounded s) : CountersBounded (toneStepEnds s) := by
  unfold Machine.toneStepEnds
  (repeat' split) <;> exact h

theorem clickEnds (h : CountersBounded s) : CountersBounded (clickEnds s) := by
  unfold Machine.clickEnds
  (repeat' split) <;> exact h

theorem scrollStepped {field : ScrollField} (h : CountersBounded s) : CountersBounded (scrollStepped field s) := by
  unfold Machine.scrollStepped
  (repeat' split) <;> exact h

theorem blinkToggled {field : BlinkField} (h : CountersBounded s) : CountersBounded (blinkToggled field s) := by
  unfold Machine.blinkToggled
  (repeat' split) <;> exact h

theorem sampleDue {reading : Int} (h : CountersBounded s) : CountersBounded (sampleDue reading s) := by
  unfold Machine.sampleDue
  split
  · exact ite _ h h
  · exact h

theorem holdSettles (h : CountersBounded s) : CountersBounded (holdSettles s) := by
  unfold Machine.holdSettles
  (repeat' split) <;> exact h

theorem dimPasses (h : CountersBounded s) : CountersBounded (dimPasses s) := by
  have hmode := setMode (m := .dim) h
  exact ite _ hmode h

theorem standbyPasses (h : CountersBounded s) : CountersBounded (standbyPasses s) := by
  have hmode := setMode (m := .standby) h
  exact ite _ hmode h

/-! Every command. -/

theorem poweredOn (t station zone : Nat) (down : Keys Bool) (flash : Flash) (waiting : List Instr) :
    CountersBounded (poweredOn t station zone down flash waiting) := by
  have hhall : HallCounted (HallPort.poweredOn t station) := by
    unfold HallPort.poweredOn
    split <;> exact ⟨counter_zero, counter_zero, counter_zero, Nat.zero_le _⟩
  rw [countersBounded_iff]
  exact ⟨⟨counter_zero, counter_zero, counter_zero⟩, ⟨counter_zero, counter_zero⟩, ⟨counter_zero, counter_zero⟩, counter_zero,
    hhall, ⟨counter_zero, counter_zero, counter_zero, counter_zero⟩, counter_zero⟩

theorem whileAwake {f : State → State} (hf : ∀ w, CountersBounded w → CountersBounded (f w)) {t : Nat} {u : State}
    (h : CountersBounded s) (hu : whileAwake t f s = .next u) : CountersBounded u := by
  unfold Machine.whileAwake at hu
  split at hu <;> cases hu
  · exact hf (s.arrive t) h
  · exact h

theorem concluding {f : State → State} (hf : ∀ w, CountersBounded w → CountersBounded (f w)) {t : Nat} {u : State}
    (h : CountersBounded s) (hu : concluding t f s = .next u) : CountersBounded u :=
  whileAwake (fun w hw => conclude (hf w hw)) h hu

theorem hearCue {t : Nat} {down : Keys Bool} {type : Byte} {payload trail : List Byte} {u : State} (h : CountersBounded s)
    (hu : hearCue t down type payload trail s = .next u) : CountersBounded u := by
  cases hu
  exact conclude (receiveBytes (dropStale h))

theorem wakeByKey {k : Key} (h : CountersBounded s) : CountersBounded (wakeByKey k s) := by
  have hup := keyComesUp (k := k) (wakeUp h)
  exact ite _ h hup

theorem execKeyPress {t : Nat} {k : Key} {u : State} (h : CountersBounded s) (hu : execKeyPress t k s = .next u) :
    CountersBounded u := by
  cases hu
  have hwoken : CountersBounded (wokenFor t k s) := ite _ h (conclude (wakeByKey h))
  exact conclude (pressKey hwoken)

theorem exec {c : Instr} {u : State} (h : CountersBounded s) (hu : exec c s = .next u) : CountersBounded u := by
  cases c with
  | powerOnReset t station zone down flash =>
    cases hu
    exact poweredOn ..
  | storeCheckEnd t => exact concluding (fun _ hw => storeCheckEnds hw) h hu
  | speakerCheckEnd t m => exact concluding (fun _ hw => speakerCheckEnds hw) h hu
  | speakerCheckOvercurrent t => exact concluding (fun _ hw => checkOvercurrent hw) h hu
  | warmUpEnd t => exact concluding (fun _ hw => warmUpEnds hw) h hu
  | speakerFault t kind => exact concluding (fun _ hw => speakerFails hw) h hu
  | configure | sessionBegin | sessionEnd | phase | progress | prompt | cancel | ack | mask | remind | remindClear | quiet
  | sleep | selftest | status | reset | unknownCue => exact hearCue h hu
  | cueFrameDiscard t rx last badStop =>
    cases hu
    exact conclude (frameDiscarded h)
  | interByteTimeout t rx =>
    cases hu
    exact conclude (gapHeard h)
  | reportSent t =>
    cases hu
    exact h
  | peerClaim t f => exact concluding (fun _ hw => frameHeard hw) h hu
  | peerRelease t f => exact concluding (fun _ hw => frameHeard hw) h hu
  | peerPresence t f => exact concluding (fun _ hw => frameHeard hw) h hu
  | badFrame t bits => exact concluding (fun _ hw => bitsHeard hw) h hu
  | frameStart t => exact whileAwake (fun _ hw => frameStarts hw) h hu
  | arbitrationLoss t => exact concluding (fun _ hw => arbitrationLost hw) h hu
  | bitError t rest => exact concluding (fun _ hw => bitErrs hw) h hu
  | stuckLine t => exact concluding (fun _ hw => lineSticks hw) h hu
  | ownClaimSent t => exact concluding (fun _ hw => ownClaimGoes hw) h hu
  | ownReleaseSent t => exact concluding (fun _ hw => ownReleaseGoes hw) h hu
  | ownPresenceSent t => exact concluding (fun _ hw => ownPresenceGoes hw) h hu
  | listenInEnd t => exact concluding (fun _ hw => listenInEnds hw) h hu
  | heartbeat t => exact whileAwake (fun _ hw => heartbeatDue hw) h hu
  | recoveryAttempt t => exact concluding (fun _ hw => recoveryDue hw) h hu
  | recoveryTimeout t => exact concluding (fun _ hw => recoveryTimesOut hw) h hu
  | finalPresenceTimeout t => exact concluding (fun _ hw => finalTimesOut hw) h hu
  | peerLost t n => exact concluding (fun _ hw => peerSilent hw) h hu
  | claimExpiry t n => exact concluding (fun _ hw => claimExpires hw) h hu
  | settleWindowEnd t n => exact concluding (fun _ hw => settleEnds hw) h hu
  | turnGapEnd t => exact concluding (fun _ hw => turnGapEnds hw) h hu
  | lineIdle t => exact whileAwake (fun _ hw => lineIdles hw) h hu
  | waitBucketStep t tag => exact whileAwake (fun _ hw => bucketSteps hw) h hu
  | deadline t tag => exact concluding (fun _ hw => expireEntry hw) h hu
  | chimeEnd t => exact concluding (fun _ hw => chimeEnds hw) h hu
  | itemEnd t => exact concluding (fun _ hw => itemEnds hw) h hu
  | itemGapEnd t => exact concluding (fun _ hw => itemGapEnds hw) h hu
  | silentServiceEnd t => exact concluding (fun _ hw => silentServiceEnds hw) h hu
  | repeatDue t tag => exact concluding (fun _ hw => repeatDueFor hw) h hu
  | phraseReadTimeout t => exact whileAwake (fun _ hw => phraseReadTimesOut hw) h hu
  | toneStepEnd t => exact whileAwake (fun _ hw => toneStepEnds hw) h hu
  | clickEnd t =>
    cases hu
    exact clickEnds h
  | scrollStep t field => exact whileAwake (fun _ hw => scrollStepped hw) h hu
  | blinkPhase t field => exact whileAwake (fun _ hw => blinkToggled hw) h hu
  | ambientSample t reading => exact whileAwake (fun _ hw => sampleDue hw) h hu
  | sampleHoldSettled t => exact whileAwake (fun _ hw => holdSettles hw) h hu
  | estimateDecrement t => exact concluding (fun _ hw => decrement hw) h hu
  | slotFiring t n => exact concluding (fun _ hw => slotFires hw) h hu
  | keyPress t k => exact execKeyPress h hu
  | keyRelease t k => exact concluding (fun _ hw => releaseKey hw) h hu
  | keyLong t k => exact concluding (fun _ hw => holdKey hw) h hu
  | dimDeadline t => exact whileAwake (fun _ hw => dimPasses hw) h hu
  | standbyDeadline t => exact whileAwake (fun _ hw => standbyPasses hw) h hu
  | wake t cause =>
    cases cause <;> cases hu
    · exact conclude (wakeIfAsleep h)
    · exact conclude (wakeByKey h)

end CountersBounded

/-- Settles O3: every command keeps the bounds, whatever waits behind it. -/
theorem stepKeepsCounters : Obligations.StepKeepsCounters := by
  intro s u hs hu
  unfold step at hu
  split at hu
  · cases hu
    exact hs
  next c rest _ => exact CountersBounded.exec (s := s.withPending rest) hs hu

end Sys2Proof.Safety
end

section
/-! The frames of the hall line (R57, R58, R59, R202): the fields of a frame stand where a receiver looks for them, so that the
bits it is sent as spell it again. -/

namespace Sys2Proof.Machine
open Sys2Proof

/-! Numbers sent most significant bit first. -/

theorem foldl_bits (bs : List Bool) (acc : Nat) :
    bs.foldl (fun acc b => acc * 2 + bit 0 b) acc = acc * 2 ^ bs.length + ofMsb bs := by
  induction bs generalizing acc with
  | nil => simp [ofMsb]
  | cons b bs ih =>
    simp only [List.foldl_cons, ofMsb, List.length_cons]
    rw [ih, ih (0 * 2 + bit 0 b)]
    ring

@[simp] theorem msb_length (n v : Nat) : (msb n v).length = n := by simp [msb]

theorem msb_succ (n v : Nat) : msb (n + 1) v = v.testBit n :: msb n v := by
  rw [msb, List.range_succ_eq_map, List.map_cons, List.map_map]
  refine congrArg₂ List.cons rfl (List.map_congr_left fun i _ => ?_)
  simp only [Function.comp_apply]
  congr 1
  omega

theorem ofMsb_msb (n v : Nat) : ofMsb (msb n v) = v % 2 ^ n := by
  induction n with
  | zero => simp [Nat.mod_one, msb, ofMsb]
  | succ n ih =>
    have hbit : bit 0 (v.testBit n) = v / 2 ^ n % 2 := by
      rw [← Nat.toNat_testBit]
      cases v.testBit n <;> rfl
    rw [msb_succ, ofMsb, List.foldl_cons, foldl_bits, msb_length, ih, hbit, Nat.mod_pow_succ]
    ring

theorem ofMsb_msb_toNat {n : Nat} (x : BitVec n) : ofMsb (msb n x.toNat) = x.toNat := by
  rw [ofMsb_msb, Nat.mod_eq_of_lt x.isLt]

theorem ofNat_ofMsb_msb {n : Nat} (x : BitVec n) : BitVec.ofNat n (ofMsb (msb n x.toNat)) = x := by
  rw [ofMsb_msb_toNat, BitVec.ofNat_toNat, BitVec.setWidth_eq]

/-! The fields of the bits a frame is sent as. -/

theorem field_append (pre mid rest : List Bool) : field (pre ++ (mid ++ rest)) (pre.length + 1) mid.length = mid := by
  refine List.ext_getElem (by simp [field]) fun i hi hmid => ?_
  simp [field, List.getElem?_append, hmid]

theorem covered_length (f : HallFrame) : f.covered.length + 2 = f.checkAt := by
  rcases f with f | ⟨_, _, _, o⟩ | ⟨_, _, m, _, _⟩
  · simp [HallFrame.covered, HallFrame.checkAt]
  · cases o <;> simp [HallFrame.covered, HallFrame.checkAt, ReleaseOutcome.bits]
  · cases m <;> simp [HallFrame.covered, HallFrame.checkAt, PresenceMode.bits]

theorem frameOf_claim (f : ClaimFrame) (rest : List Bool) :
    frameOf (false :: (HallFrame.claim f).covered ++ rest) = some (.claim f) := by
  have hcls : Cls.ofCode (3 - ofMsb (msb 2 (3 - f.cls.val))) = f.cls := by cases f.cls <;> rfl
  obtain ⟨station, zone, cls, bucket, length, seq⟩ := f
  change some (HallFrame.claim
    { station := BitVec.ofNat 5 (ofMsb (msb 5 station.toNat)), zone := BitVec.ofNat 3 (ofMsb (msb 3 zone.toNat))
      cls := Cls.ofCode (3 - ofMsb (msb 2 (3 - cls.val))), bucket := BitVec.ofNat 4 (ofMsb (msb 4 bucket.toNat))
      length := BitVec.ofNat 8 (ofMsb (msb 8 length.toNat)), seq := BitVec.ofNat 4 (ofMsb (msb 4 seq.toNat)) }) = _
  simp only [ofNat_ofMsb_msb, hcls]

theorem frameOf_release (f : ReleaseFrame) (rest : List Bool) :
    frameOf (false :: (HallFrame.release f).covered ++ rest) = some (.release f) := by
  obtain ⟨station, zone, seq, outcome⟩ := f
  have hfields : frameOf (false :: (HallFrame.release ⟨station, zone, seq, outcome⟩).covered ++ rest) =
      some (.release
        { station := BitVec.ofNat 5 (ofMsb (msb 5 station.toNat)), zone := BitVec.ofNat 3 (ofMsb (msb 3 zone.toNat))
          seq := BitVec.ofNat 4 (ofMsb (msb 4 seq.toNat)), outcome := outcome }) := by
    cases outcome <;> rfl
  simpa only [ofNat_ofMsb_msb] using hfields

theorem frameOf_presence (f : PresenceFrame) (rest : List Bool) :
    frameOf (false :: (HallFrame.presence f).covered ++ rest) = some (.presence f) := by
  obtain ⟨station, zone, mode, holding, hallState⟩ := f
  generalize hbits : false :: (HallFrame.presence ⟨station, zone, mode, holding, hallState⟩).covered ++ rest = bits
  have hkind : field bits 2 2 = [true, false] := hbits ▸ rfl
  have hrank : field bits 4 2 = [false, false] := hbits ▸ rfl
  have hstation : field bits 6 5 = msb 5 station.toNat := hbits ▸ rfl
  have hzone : field bits 11 3 = msb 3 zone.toNat := hbits ▸ rfl
  have hmode : field bits 14 2 = mode.bits := by cases mode <;> exact hbits ▸ rfl
  have hholding : bits.getD 15 true = holding := by cases mode <;> exact hbits ▸ rfl
  have hstate : bits.getD 16 true = decide (hallState = .listenIn) := by cases mode <;> exact hbits ▸ rfl
  have hzeros : field bits 18 4 = [false, false, false, false] := by cases mode <;> exact hbits ▸ rfl
  simp only [frameOf, hkind, hrank, hstation, hzone, hmode, hholding, hstate, hzeros, ofNat_ofMsb_msb]
  cases mode <;> cases hallState <;> rfl

theorem frameOf_covered (f : HallFrame) (rest : List Bool) : frameOf (false :: f.covered ++ rest) = some f := by
  cases f with
  | claim f => exact frameOf_claim f rest
  | release f => exact frameOf_release f rest
  | presence f => exact frameOf_presence f rest

/-- The three fields that the judgement of R59 compares, of a frame with any check and any end field. -/
theorem judged_fields (f : HallFrame) (check : BitVec 8) (a b c : Bool) :
    let bits := false :: f.covered ++ msb 8 check.toNat ++ [a, b, c]
    frameOf bits = some f ∧ field bits 2 (f.checkAt - 2) = f.covered ∧ ofMsb (field bits f.checkAt 8) = check.toNat
      ∧ field bits (f.checkAt + 8) 3 = [a, b, c] := by
  have hlen := covered_length f
  have hcovered := field_append [false] f.covered (msb 8 check.toNat ++ [a, b, c])
  have hcheck := field_append (false :: f.covered) (msb 8 check.toNat) [a, b, c]
  have hend := field_append (false :: f.covered ++ msb 8 check.toNat) [a, b, c] []
  simp only [List.length_cons, List.length_append, List.length_nil, msb_length, List.append_nil,
    ← List.append_assoc] at hcovered hcheck hend
  intro bits
  refine ⟨?_, ?_, ?_, ?_⟩
  · exact (congrArg frameOf (List.append_assoc ..)).trans (frameOf_covered f _)
  · rwa [show f.checkAt - 2 = f.covered.length by omega]
  · rw [show f.checkAt = f.covered.length + 1 + 1 by omega]
    exact (congrArg ofMsb hcheck).trans (ofMsb_msb_toNat check)
  · rwa [show f.checkAt + 8 = f.covered.length + 1 + 8 + 1 by omega]

/-- The judgement of R59 on the bits of a frame with the fields of R58, under any check and any end field. -/
theorem judge_covered {f : HallFrame} (hgood : f.good = true) (check : BitVec 8) (a b c : Bool) :
    judge (false :: f.covered ++ msb 8 check.toNat ++ [a, b, c]) =
      if [a, b, c] ≠ [true, true, true] then .badCheck else if check ≠ crc8 f.covered then .badCheck else .good f := by
  obtain ⟨hframe, hcovered, hcheck, hend⟩ := judged_fields f check a b c
  simp only [judge, hframe, hgood, hcovered, hcheck, hend, not_true_eq_false, if_false, ne_eq, BitVec.toNat_inj]

/-- Settles O30: the check of a frame as it is sent is the one its covered bits give. -/
theorem hallFrameRoundTrip : Obligations.HallFrameRoundTrip := by
  intro f hgood
  refine ⟨(judge_covered hgood (crc8 f.covered) true true true).trans (by simp), rfl, ?_⟩
  have hlen := covered_length f
  cases f <;> simp only [HallFrame.checkAt, HallFrame.bits, List.length_append, List.length_cons, List.length_nil,
    msb_length] at hlen ⊢ <;> omega

end Sys2Proof.Machine
end

section
/-! A step that works on the hall port alone, and bad frames (R55, R59; log 38). -/

namespace Sys2Proof.Machine
open Sys2Proof Safety

/-! The port after a step that the selection follows. -/

/-- A state that a step reaches from a change of the hall port: the port's line as the change has it, all else kept. -/
theorem kept_of_onHall {s u : State} {t : Nat} {f : HallPort → HallPort} (h : u.outside = ((s.arrive t).onHall f).outside) :
    LineKept ((s.arrive t).onHall f) u ∧ ReportsKept s u ∧ BesidesHallKept s u :=
  ⟨lineKept_of_outside h, (besidesHallKept_of_outside h).2, (besidesHallKept_of_outside h).1⟩

theorem conclude_onHall (s : State) (t : Nat) (f : HallPort → HallPort) :
    LineKept ((s.arrive t).onHall f) (conclude ((s.arrive t).onHall f)) ∧ ViewKept s (conclude ((s.arrive t).onHall f))
      ∧ ReportsKept s (conclude ((s.arrive t).onHall f)) ∧ BesidesHallKept s (conclude ((s.arrive t).onHall f)) := by
  obtain ⟨hline, hkept⟩ := kept_of_onHall (conclude_outside ((s.arrive t).onHall f))
  exact ⟨hline, conclude_viewKept rfl, hkept⟩

/-! A bad frame. -/

/-- The hall port once a bad frame has been heard, with the watch that its recessive bits have left. -/
def HallPort.badHeard (counting : Bool) (watch : Timer) (h : HallPort) : HallPort :=
  { h with
    badFrames := min 65535 (h.badFrames + 1), line := if counting then .receiving else .waitIdle, idleCounting := counting
    watch := watch }

theorem frameBad_watchBits (counting : Bool) (bits : List Bool) (s : State) :
    ∃ watch, frameBad counting (watchBits bits s) = s.onHall (HallPort.badHeard counting watch) := by
  unfold watchBits
  split
  · exact ⟨s.after Config.stuck, rfl⟩
  · exact ⟨s.hall.watch, rfl⟩

/-- A judged frame that is not good is a bad one; the idle line is counted after one that fails its check or end field. -/
theorem bitsHeard_of_bad {bits : List Bool} {s : State} (hfollows : s.hall.follows = true) (hbad : ∀ f, judge bits ≠ .good f) :
    ∃ counting watch, bitsHeard bits s = s.onHall (HallPort.badHeard counting watch)
      ∧ (judge bits = .bad → counting = false) ∧ (judge bits = .badCheck → counting = true) := by
  unfold bitsHeard
  rw [if_pos hfollows]
  cases hjudge : judge bits with
  | good f => exact absurd hjudge (hbad f)
  | badCheck =>
    obtain ⟨watch, hport⟩ := frameBad_watchBits true bits s
    exact ⟨true, watch, hport, nofun, fun _ => rfl⟩
  | bad =>
    obtain ⟨watch, hport⟩ := frameBad_watchBits false bits s
    exact ⟨false, watch, hport, fun _ => rfl, nofun⟩

/-- Settles O31: the judgement of R59 compares the check and the end field after the fields, and BAD_FRAME works on the port alone. -/
theorem badFramesReachNoBlock : Obligations.BadFramesReachNoBlock := by
  refine ⟨fun f check hgood hcheck => ?_, fun f a b c hgood hend => ?_, fun t bits s hawake hfollows hbad => ?_⟩
  · rw [judge_covered hgood]
    simp [hcheck]
  · rw [judge_covered hgood, if_pos]
    rcases hend with rfl | rfl | rfl <;> simp
  · obtain ⟨counting, watch, hport, hearly, hlate⟩ := bitsHeard_of_bad (s := s.arrive t) hfollows hbad
    obtain ⟨⟨hline, hidle, -, hstate, -, -, -, -, hreceived, hcount, -⟩, hview, hreports, hbesides⟩ :=
      conclude_onHall s t (HallPort.badHeard counting watch)
    refine ⟨_, (concluding_of_awake hawake t _).trans (by rw [hport]), hcount, hreceived, fun hb => ?_, fun hc => ⟨?_, ?_⟩, hstate,
      hview, hreports, hbesides⟩
    · rw [hline, hearly hb]
      rfl
    · rw [hline, hlate hc]
      rfl
    · rw [hidle, hlate hc]
      rfl

end Sys2Proof.Machine
end

section
/-! The first frame of the transmit list goes on the line (R60, R61, R74), and the port's timers (R55, R56, R65, R73). -/

namespace Sys2Proof.Machine
open Sys2Proof Safety

/-! The first frame of the list. -/

theorem TxEntry.kind_cases (x : TxEntry) : x.isRelease = true ∨ x.isClaim = true ∨ x.isPresence = true := by
  rcases x with ⟨_ | _ | _, _⟩
  · exact .inr (.inl rfl)
  · exact .inl rfl
  · exact .inr (.inr rfl)

theorem TxEntry.isRelease_iff (x : TxEntry) : x.isRelease = true ↔ ∃ seq o, x.frame = .release seq o := by
  rcases x with ⟨_ | _ | _, _⟩ <;> simp [TxEntry.isRelease]

theorem TxEntry.isClaim_iff (x : TxEntry) : x.isClaim = true ↔ ∃ c, x.frame = .claim c := by
  rcases x with ⟨_ | _ | _, _⟩ <;> simp [TxEntry.isClaim]

theorem firstFrame_of_release {l : List TxEntry} (h : ∃ x ∈ l, x.isRelease = true) :
    ∃ x ∈ l, x.isRelease = true ∧ firstFrame l = some x.frame := by
  obtain ⟨y, hy⟩ := Option.isSome_iff_exists.mp (List.find?_isSome.mpr h)
  exact ⟨y, List.mem_of_find?_eq_some hy, List.find?_some hy, by rw [firstFrame, hy]⟩

theorem firstFrame_of_claim {l : List TxEntry} (hnone : ∀ x ∈ l, x.isRelease = false) (h : ∃ x ∈ l, x.isClaim = true) :
    ∃ x ∈ l, x.isClaim = true ∧ firstFrame l = some x.frame := by
  have hrelease : l.find? TxEntry.isRelease = none := List.find?_eq_none.mpr fun x hx => by simp [hnone x hx]
  obtain ⟨y, hy⟩ := Option.isSome_iff_exists.mp (List.find?_isSome.mpr h)
  exact ⟨y, List.mem_of_find?_eq_some hy, List.find?_some hy, by rw [firstFrame, hrelease, hy]⟩

theorem firstFrame_of_presence {l : List TxEntry} (hrelease : ∀ x ∈ l, x.isRelease = false)
    (hclaim : ∀ x ∈ l, x.isClaim = false) (h : l ≠ []) : ∃ x ∈ l, firstFrame l = some x.frame := by
  have hnorelease : l.find? TxEntry.isRelease = none := List.find?_eq_none.mpr fun x hx => by simp [hrelease x hx]
  have hnoclaim : l.find? TxEntry.isClaim = none := List.find?_eq_none.mpr fun x hx => by simp [hclaim x hx]
  obtain ⟨x, hx⟩ := List.exists_mem_of_ne_nil l h
  have hpresence : ∃ y ∈ l, y.isPresence = true := by
    rcases x.kind_cases with hk | hk | hk
    · exact absurd (hrelease x hx) (by simp [hk])
    · exact absurd (hclaim x hx) (by simp [hk])
    · exact ⟨x, hx, hk⟩
  obtain ⟨y, hy⟩ := Option.isSome_iff_exists.mp (List.find?_isSome.mpr hpresence)
  exact ⟨y, List.mem_of_find?_eq_some hy, by rw [firstFrame, hnorelease, hnoclaim, hy]; rfl⟩

theorem firstFrame_mem {l : List TxEntry} (h : l ≠ []) : ∃ x ∈ l, firstFrame l = some x.frame := by
  by_cases hrelease : ∃ x ∈ l, x.isRelease = true
  · obtain ⟨x, hx, -, hfirst⟩ := firstFrame_of_release hrelease
    exact ⟨x, hx, hfirst⟩
  · have hnorelease : ∀ x ∈ l, x.isRelease = false := by simpa using hrelease
    by_cases hclaim : ∃ x ∈ l, x.isClaim = true
    · obtain ⟨x, hx, -, hfirst⟩ := firstFrame_of_claim hnorelease hclaim
      exact ⟨x, hx, hfirst⟩
    · exact firstFrame_of_presence hnorelease (by simpa using hclaim) h

theorem undriven_filter_driving (l : List TxEntry) : (undriven l).filter TxEntry.driving = [] := by
  simp [undriven, List.filter_map, Function.comp_def]

/-- Of a list none of whose frames is on the line, the marked one alone is. -/
theorem markDriving_filter_driving {l : List TxEntry} {x : TxEntry} (h : x ∈ l) :
    (markDriving x.frame (undriven l)).filter TxEntry.driving = [⟨x.frame, true⟩] := by
  induction l with
  | nil => exact absurd h List.not_mem_nil
  | cons y ys ih =>
    have hcons : undriven (y :: ys) = ⟨y.frame, false⟩ :: undriven ys := rfl
    rw [hcons, markDriving]
    split
    next heq => simp [undriven_filter_driving, ← heq]
    next hne =>
      have hys : x ∈ ys := (List.mem_cons.mp h).resolve_left fun heq => hne (heq ▸ rfl)
      simp [ih hys]

theorem find?_eq_head_of_filter {l : List TxEntry} {x : TxEntry} (h : l.filter TxEntry.driving = [x]) :
    l.find? TxEntry.driving = some x := by
  rw [← List.head?_filter, h]
  rfl

/-! FRAME_START (R61, R74). -/

theorem frameStarts_of_idle {s : State} {f : TxFrame} (hidle : s.hall.line = .idle) (hfirst : firstFrame s.hall.txList = some f) :
    frameStarts s =
      s.onHall fun h =>
        { h with
          line := .sending, idleCounting := false, txList := markDriving f (undriven h.txList)
          onLine := some (s.frameFor f), watch := s.after Config.stuck } := by
  simp only [frameStarts, hidle, hfirst]

/-- The content that a PRESENCE takes at its start (R74). -/
theorem presenceContent_eq (s : State) (k : PresenceKind) :
    s.presenceContent k =
      { station := BitVec.ofNat 5 s.straps.station, zone := BitVec.ofNat 3 s.straps.zone
        mode := if k = .final then .sleeping else match s.power.mode with
          | .active => .active
          | .dim => .dim
          | .standby => .standby
          | .sleep => .sleeping
        holding := decide (k ≠ .final) && decide (s.floor.own.state = .holding)
        hallState := if k ≠ .recovery ∧ s.hall.state = .on then .on else .listenIn } := by
  have hmode : presenceMode s.power.mode = match s.power.mode with
      | .active => .active
      | .dim => .dim
      | .standby => .standby
      | .sleep => .sleeping := by cases s.power.mode <;> rfl
  rw [State.presenceContent, hmode]
  by_cases hk : k = .recovery <;> simp [hk]

/-- Settles O34: the first frame stands in the list, so it is the one that is marked. -/
theorem frameStartDrivesTheFirstFrame : Obligations.FrameStartDrivesTheFirstFrame := by
  intro t s hawake hidle hlist
  obtain ⟨x, hx, hfirst⟩ := firstFrame_mem hlist
  have hdriving := markDriving_filter_driving hx
  have hsome {f : TxFrame} (h : firstFrame s.hall.txList = some f) : x.frame = f := Option.some.inj (hfirst.symm.trans h)
  have hstart := frameStarts_of_idle (s := s.arrive t) hidle hfirst
  refine ⟨_, x.frame, (whileAwake_of_awake hawake t _).trans (congrArg Host.Outcome.next hstart), hfirst,
    ⟨rfl, congrArg (Option.map TxEntry.frame) (find?_eq_head_of_filter hdriving)⟩, congrArg List.length hdriving, fun h => ?_,
    fun hno h => ?_, fun seq o heq => ?_, fun c heq => ?_, fun k heq => ?_, rfl, rfl, ?_⟩
  · obtain ⟨y, -, hrelease, hy⟩ := firstFrame_of_release h
    rw [hsome hy]
    exact y.isRelease_iff.mp hrelease
  · obtain ⟨y, -, hclaim, hy⟩ := firstFrame_of_claim hno h
    rw [hsome hy]
    exact y.isClaim_iff.mp hclaim
  · rw [heq]
    rfl
  · rw [heq]
    rfl
  · rw [heq]
    exact congrArg (fun p => some (HallFrame.presence p)) (presenceContent_eq (s.arrive t) k)
  · exact (markDriving_frames _ _).trans (undriven_frames _)

/-! The port's timers. -/

theorem joinPresence_of_final {l : List TxEntry} (h : ∃ x ∈ l, x.frame = .presence .final) (k : PresenceKind) :
    joinPresence k l = l := by
  refine if_pos (List.any_eq_true.mpr ?_)
  obtain ⟨x, hx, hfinal⟩ := h
  exact ⟨x, hx, decide_eq_true hfinal⟩

theorem joinPresence_of_noFinal {l : List TxEntry} (h : ∀ x ∈ l, x.frame ≠ .presence .final) (k : PresenceKind) :
    joinPresence k l = (l.filter fun x => !x.isPresence) ++ [⟨.presence k, false⟩] := by
  refine if_neg ?_
  simpa [TxEntry.isPresenceOf] using h

theorem not_final_of_not_presence {x : TxEntry} (h : x.isPresence = false) : x.frame ≠ .presence .final := by
  intro heq
  simp [TxEntry.isPresence, heq] at h

theorem filter_not_presence {l : List TxEntry} (h : ∀ x ∈ l, x.isPresence = false) : (l.filter fun x => !x.isPresence) = l :=
  List.filter_eq_self.mpr fun x hx => by simp [h x hx]

theorem heartbeatDue_of_due {s : State} {tm : Timer} (hbeat : s.hall.heartbeat = some tm) (hdue : tm.due ≤ s.now)
    (hup : s.hall.state.isUp = true) :
    heartbeatDue s =
      s.onHall fun h => { h with heartbeat := some ⟨s.now + 2000, 2000⟩, txList := joinPresence .heartbeat h.txList } := by
  simp only [heartbeatDue, hbeat, Timer.reached_of_due hdue, hup, and_self, if_true]
  rfl

/-- Settles O35. -/
theorem portTimersRun : Obligations.PortTimersRun := by
  refine ⟨fun t s hawake hline => ?_, fun t s tm hawake hstate hdue => ?_, fun t s tm hawake hbeat hdue hup hnone => ?_,
    fun t s tm l r driving hawake hbeat hdue hup hlist hnone => ?_, fun t s tm hawake hbeat hdue hup hfinal => ?_⟩
  · exact (whileAwake_of_awake hawake t _).trans (congrArg Host.Outcome.next (if_pos hline))
  · have hends : listenInEnds (s.arrive t) = (s.arrive t).onHall fun h => { h with state := .on } := by
      have hreached : tm.reached (s.arrive t).now = true := Timer.reached_of_due hdue
      simp only [listenInEnds, State.arrive, hstate]
      exact if_pos hreached
    obtain ⟨⟨hline, -, -, hon, -, hbeat, -⟩, hview, hreports, hbesides⟩ := conclude_onHall s t fun h => { h with state := .on }
    exact ⟨_, (concluding_of_awake hawake t _).trans (by rw [hends]), hon, hline, hbeat, hview, hreports, hbesides⟩
  · have hjoin : joinPresence .heartbeat s.hall.txList = s.hall.txList ++ [⟨.presence .heartbeat, false⟩] := by
      rw [joinPresence_of_noFinal fun x hx => not_final_of_not_presence (hnone x hx), filter_not_presence hnone]
    refine (whileAwake_of_awake hawake t _).trans ?_
    rw [heartbeatDue_of_due (s := s.arrive t) hbeat hdue hup, ← hjoin]
    rfl
  · have hkept : ∀ x ∈ s.hall.txList, x.frame ≠ .presence .final := by
      rw [hlist]
      intro x hx
      rcases List.mem_append.mp hx with hl | hr
      · exact not_final_of_not_presence (hnone x (List.mem_append_left _ hl))
      · rcases List.mem_cons.mp hr with rfl | hr
        · nofun
        · exact not_final_of_not_presence (hnone x (List.mem_append_right _ hr))
    have hjoin : joinPresence .heartbeat s.hall.txList = l ++ r ++ [⟨.presence .heartbeat, false⟩] := by
      rw [joinPresence_of_noFinal hkept, hlist, List.filter_append, List.filter_cons_of_neg (by simp [TxEntry.isPresence]),
        ← List.filter_append, filter_not_presence hnone]
    refine (whileAwake_of_awake hawake t _).trans ?_
    rw [heartbeatDue_of_due (s := s.arrive t) hbeat hdue hup, ← hjoin]
    rfl
  · refine (whileAwake_of_awake hawake t _).trans ?_
    rw [heartbeatDue_of_due (s := s.arrive t) hbeat hdue hup]
    exact congrArg (fun l => Host.Outcome.next { s with
      now := s.instant t
      hall := { s.hall with heartbeat := some ⟨s.instant t + 2000, 2000⟩, txList := l } }) (joinPresence_of_final hfinal .heartbeat)

end Sys2Proof.Machine
end

section
/-! PEER_PRESENCE (R87, R101): the clause of the overlap asks of no state that it holds one record a peer (R75), and without that
the examination that R87 adds to a PRESUMED claim can reach the own claim. -/

namespace Sys2Proof.Machine
open Sys2Proof Safety

/-- The own record after a command. -/
def ownAfter (c : Instr) (s : State) : OwnFloor :=
  match exec c s with
  | .next u => u.floor.own
  | .fault _ => s.floor.own
  | .refused _ => s.floor.own

theorem ownAfter_of_next {c : Instr} {s u : State} (h : exec c s = .next u) : ownAfter c s = u.floor.own := by
  rw [ownAfter, h]

/-- A claim of class ACTION, 2 s long, heard at 9,000 ms, its window over. -/
def actionClaim (zone : Nat) (seq : Nat) (confirmed : Bool) : LiveClaim where
  zone := zone
  cls := .heard .action
  bucket := 0
  length := 20
  seq := some seq
  heard := 9000
  settled := true
  confirmed := confirmed
  expiry := ⟨12060, 3000⟩
  preemptPending := false
  outer := none

/-- A record of a station in zone 3. -/
def zoneThree (station : Nat) (claim : Option LiveClaim) : Peer := ⟨station, 3, .present, 9000, claim, none⟩

/-- The service of a station that is HOLDING. -/
def heldService : Service := ⟨5, .audible .speech, ⟨none, [.pause 200], 2, []⟩, false, false, none, none, none⟩

/-- Station 7 of zone 3, HOLDING by a claim of zone 2, with two records of station 9, of which the later has the confirmed claim of
zone 3, and a record of the number 7 itself with a PRESUMED claim there: no run leads here (R75). -/
def twiceRecorded : State :=
  { State.reset with
    now := 10000
    straps := ⟨7, 3⟩
    seq := { Sequencer.reset with slot := some heldService }
    hall := { HallPort.reset with line := .idle, state := .on }
    floor :=
      { FloorUnit.reset with
        own := { OwnFloor.reset with state := .holding, claim := some (actionClaim 2 4 true) }
        peers :=
          [zoneThree 9 none, zoneThree 9 (some (actionClaim 3 2 true)),
            zoneThree 7 (some { actionClaim 3 2 false with cls := .presumed, bucket := 15 })] } }

/-- A holding PRESENCE of station 9 in zone 3. -/
def holdingPresence : PresenceFrame := ⟨9#5, 3#3, .active, true, .on⟩

/-- The PRESUMED claim of station 9 replaces the claims of both its records, so the zone has no holder, the claim under the own
number is the top-ranked one, and its confirmation gives the own claim another expiry. -/
theorem ownAfter_holdingPresence :
    ownAfter (.peerPresence 10000 holdingPresence) twiceRecorded ≠ twiceRecorded.floor.own := by decide

/-- Refutes O33: the overlap's clause says that the own record stands, and in `twiceRecorded` the expiry of the own claim moves. -/
theorem not_peerPresenceUpdatesTheView : ¬ Obligations.PeerPresenceUpdatesTheView := by
  rintro ⟨-, -, -, -, hoverlap, -⟩
  have hnone : (twiceRecorded.peer 9).bind Peer.claim = none := by decide
  obtain ⟨u, hu, -, -, -, -, -, hown, -, -⟩ := hoverlap 10000 holdingPresence twiceRecorded heldService (by decide) (by decide)
    (by decide) (by decide) (by decide) rfl rfl rfl rfl (by rintro c ⟨⟩; rfl)
    fun c hc => absurd (hnone.symm.trans hc) nofun
  exact ownAfter_holdingPresence ((ownAfter_of_next hu).trans hown)

end Sys2Proof.Machine
end

section
/-! Entry to FAULT and what leads there (R56, R59, R67, R69, R106). -/

namespace Sys2Proof.Machine
open Sys2Proof Safety

/-! What a step of the hall line leaves, its reports and latches aside. -/

/-- Everything that a step of the hall line leaves but for its reports and its latches. -/
def State.besideLine (s : State) :=
  (s.rem, s.panel, s.link.settled, s.seq.standing, s.store.besideCounters, s.level.sampling, s.power.speaker, s.display.statusLine)

theorem besideLine_of_outside {s u : State} (h : u.outside = s.outside) : u.besideLine = s.besideLine := by
  simp only [State.outside, Prod.mk.injEq] at h
  obtain ⟨-, hrem, hpanel, hlink, hseq, hstore, hlevel, hspeaker, hstatus⟩ := h
  have hsettled : u.link.settled = s.link.settled := (congrArg CueLink.settled hlink : u.link.besideLatches.settled = _)
  simp only [State.besideLine, hrem, hpanel, hsettled, hseq, hstore, hlevel, hspeaker, hstatus]

theorem besidesHallKept_of_besideLine {s u : State} (h : u.besideLine = s.besideLine) : BesidesHallKept s u := by
  simp only [State.besideLine, Prod.mk.injEq, CueLink.settled, CueLink.mk.injEq, Sequencer.standing, Sequencer.mk.injEq,
    PhraseStore.besideCounters, PhraseStore.mk.injEq, LevelUnit.sampling, Power.speaker, Display.statusLine] at h
  obtain ⟨hrem, hpanel, ⟨hframer, hlistening, -, -, hconfig, hlocked, -, herrors, hrefusals, -⟩,
    ⟨htags, -, hmade, -, hmask, hdrops, hcuts, -⟩, ⟨hstate, hindex, hflash, -, -⟩, hlevel, hspeaker, hstatus⟩ := h
  exact ⟨hrem, hpanel, ⟨hconfig, hlocked, hlistening⟩, ⟨hframer, herrors, hrefusals⟩,
    ⟨htags, hmask, hmade, hdrops, hcuts⟩, ⟨hstate, hindex, hflash⟩, hlevel, hspeaker, hstatus⟩

@[simp] theorem conclude_besideLine (s : State) : (conclude s).besideLine = s.besideLine := besideLine_of_outside (conclude_outside s)
@[simp] theorem returnToQueue_besideLine (s : State) : (returnToQueue s).besideLine = s.besideLine :=
  besideLine_of_outside (returnToQueue_outside s)
@[simp] theorem onHall_besideLine (f : HallPort → HallPort) (s : State) : (s.onHall f).besideLine = s.besideLine := rfl
@[simp] theorem onFloor_besideLine (f : FloorUnit → FloorUnit) (s : State) : (s.onFloor f).besideLine = s.besideLine := rfl
@[simp] theorem arrive_besideLine (t : Nat) (s : State) : (s.arrive t).besideLine = s.besideLine := rfl
@[simp] theorem latch_besideLine (f : Latches → Latches) (s : State) : (latch f s).besideLine = s.besideLine := rfl

@[simp] theorem report_besideLine (r : Report) (s : State) : (report r s).besideLine = s.besideLine := by
  have hlink : (report r s).link.settled = s.link.settled := congrArg Apart.link (report_apart r s)
  show (_, _, (report r s).link.settled, _, _, _, _, _) = _
  rw [hlink]
  rfl

/-! What follows a step of a station that takes no part on the line. -/

theorem takeEntry_floor_of_down (e : Entry) {s : State} (hdown : s.hall.state.isUp = false) : (takeEntry e s).floor = s.floor := by
  unfold takeEntry
  dsimp only
  split
  · exact State.floor_eq_of_besideOutput (startSilent_besideOutput ..)
  · rw [if_neg (by simp [hdown])]
    exact State.floor_eq_of_besideOutput (startAudible_besideOutput ..)

theorem select_floor_of_down {s : State} (hdown : s.hall.state.isUp = false) : (select s).floor = s.floor := by
  unfold select
  split
  · rfl
  · dsimp only
    split
    · exact takeEntry_floor_of_down _ (s := s.onSeq fun q => { q with askedAt := s.now }) hdown
    · rfl

/-- In OFF and FAULT the selection makes no claim, so what follows a step leaves the line and the floor. -/
theorem conclude_of_down {s : State} (hdown : s.hall.state.isUp = false) (hr : s.hall.recovery ≠ .waiting) :
    (conclude s).hall = s.hall ∧ (conclude s).floor = s.floor := by
  constructor
  · obtain ⟨l, hl, hkept⟩ := conclude_hallSelected hr
    rw [hl, hkept hdown]
  · unfold conclude
    split
    · rw [startWaitingRecovery_of_ne hr, State.floor_eq_of_besideOutput (holdTimers_besideOutput _),
        State.floor_eq_of_besideOutput (holdSampling_besideOutput _), select_floor_of_down hdown]
    · rfl

/-! The floor on an entry to FAULT (R106). -/

/-- The own record of a station that has given everything up. -/
def OwnFloor.faulted (o : OwnFloor) : OwnFloor :=
  { o with state := .free, gapEnd := none, outgoing := none, pendingClaim := none, released := false, claim := none }

/-- The state in which a claimant's entry has returned to the queue. -/
def State.unclaimed (s : State) : State := if s.floor.own.state = .claiming then returnToQueue s else s

theorem unclaimed_besideOutput (s : State) : s.unclaimed.besideOutput = s.besideOutput := by
  unfold State.unclaimed
  split <;> simp

theorem unclaimed_link (s : State) : s.unclaimed.link = s.link := by
  unfold State.unclaimed
  split
  · exact returnToQueue_link s
  · rfl

theorem unclaimed_power (s : State) : s.unclaimed.power = s.power := by
  unfold State.unclaimed
  split <;> simp

theorem floorFault_eq (s : State) :
    ∃ ps, ps.map Peer.station = s.floor.peers.map Peer.station
      ∧ floorFault s = s.unclaimed.onFloor fun u => { u with peers := ps, own := u.own.faulted } := by
  have hpeers : s.unclaimed.floor.peers = s.floor.peers :=
    congrArg FloorUnit.peers (State.floor_eq_of_besideOutput (unclaimed_besideOutput s))
  have hfault : floorFault s = removeOwnClaim (s.unclaimed.onOwn fun o =>
      { o with state := .free, gapEnd := none, outgoing := none, pendingClaim := none, released := false }) := rfl
  rw [hfault, ← hpeers]
  generalize s.unclaimed = r
  unfold removeOwnClaim
  split
  next c _ =>
    rw [examine_cleared c.zone rfl]
    obtain ⟨ps, htop, hstations, -⟩ := confirmTop_cleared_view (z := c.zone)
      (s := clearOwnClaim (r.onOwn fun o =>
        { o with state := .free, gapEnd := none, outgoing := none, pendingClaim := none, released := false })) rfl nofun
    exact ⟨ps, hstations, htop⟩
  next hnone =>
    have hclaim : r.floor.own.claim = none := hnone
    refine ⟨r.floor.peers, rfl, ?_⟩
    simp only [State.onOwn, State.onFloor, OwnFloor.faulted, hclaim]

/-! The entry to FAULT (R67, R69). -/

/-- The report of an entry to FAULT. -/
def FaultCause.report (cause : FaultCause) : Report := .event (if cause = .duplicate then .duplicateStation else .hallFault)

/-- The latch of an entry to FAULT. -/
def FaultCause.latched (cause : FaultCause) (l : Latches) : Latches :=
  if cause = .duplicate then { l with duplicateStation := true } else { l with hallFault := true }

theorem tellFault_eq {s : State} (cause : FaultCause) (hfits : ReportFits s) :
    tellFault cause s =
      s.onLink fun l => { l with latches := cause.latched l.latches, reports := l.reports ++ [cause.report] } := by
  unfold tellFault FaultCause.latched FaultCause.report
  split <;> exact report_of_room (s := latch _ s) hfits _

/-- What an entry to FAULT makes of the state `s`: the port and the floor give everything up, and the fault is told. -/
structure FaultEntered (cause : FaultCause) (s w : State) : Prop where
  hall : w.hall = s.hall.faulted s.now cause
  own : w.floor.own.state = .free ∧ w.floor.own.claim = none ∧ w.floor.own.outgoing = none
  stations : w.floor.peers.map Peer.station = s.floor.peers.map Peer.station
  latches : w.link.latches = cause.latched s.link.latches
  reports : w.link.reports = s.link.reports ++ [cause.report]
  listening : w.link.listening = s.link.listening
  power : w.power = s.power
  besideLine : w.besideLine = s.besideLine

theorem tellFault_floorFault {s : State} (cause : FaultCause) (hfits : ReportFits s) :
    FaultEntered cause s (tellFault cause (floorFault (s.onHall (HallPort.faulted s.now cause)))) := by
  generalize hr : s.onHall (HallPort.faulted s.now cause) = r
  obtain ⟨ps, hstations, hfloor⟩ := floorFault_eq r
  have hlink : (floorFault r).link = s.link := by rw [hfloor, State.onFloor_link, unclaimed_link, ← hr]; rfl
  have hkept := unclaimed_besideOutput r
  have hhall : (floorFault r).hall = r.hall := by
    rw [hfloor, State.onFloor_hall]
    exact State.hall_eq_of_besideOutput hkept
  have hbeside : (floorFault r).besideLine = s.besideLine := by
    rw [hfloor, onFloor_besideLine, besideLine_of_outside (State.outside_eq_of_besideOutput hkept), ← hr, onHall_besideLine]
  have hpower : (floorFault r).power = s.power := by rw [hfloor, State.onFloor_power, unclaimed_power, ← hr]; rfl
  have hlistening : (floorFault r).link.listening = s.link.listening := congrArg CueLink.listening hlink
  rw [tellFault_eq cause (reportFits_of_link hlink hfits)]
  subst hr
  refine ⟨hhall, ?_, ?_, congrArg (fun l : CueLink => cause.latched l.latches) hlink,
    congrArg (fun l : CueLink => l.reports ++ [cause.report]) hlink, hlistening, hpower, ?_⟩
  · rw [hfloor]
    exact ⟨rfl, rfl, rfl⟩
  · rw [hfloor]
    exact hstations
  · refine Eq.trans ?_ hbeside
    rfl

theorem enterFault_entered {s : State} (cause : FaultCause) (hcalm : s.power.announcing = false) (hfits : ReportFits s) :
    FaultEntered cause s (enterFault cause s) := by
  have hentered := tellFault_floorFault cause hfits
  have hends : enterFault cause s = tellFault cause (floorFault (s.onHall (HallPort.faulted s.now cause))) := by
    refine if_neg ?_
    rw [hentered.power, hcalm]
    exact nofun
  rwa [hends]

/-- What follows an entry to FAULT leaves the line, the floor and the reports as they are then. -/
theorem FaultEntered.conclude {cause : FaultCause} {s w : State} (h : FaultEntered cause s w) :
    let u := Machine.conclude w
    u.hall = s.hall.faulted s.now cause
      ∧ (u.floor.own.state = .free ∧ u.floor.own.claim = none ∧ u.floor.own.outgoing = none)
      ∧ u.floor.peers.map Peer.station = s.floor.peers.map Peer.station
      ∧ u.link.latches.besideMasked = (cause.latched s.link.latches).besideMasked
      ∧ u.link.reports = s.link.reports ++ [cause.report] ∧ u.besideLine = s.besideLine := by
  obtain ⟨hhall, hown, hstations, hlatches, hreports, -, -, hbeside⟩ := h
  have hdown : w.hall.state.isUp = false := by rw [hhall]; rfl
  have hr : w.hall.recovery ≠ .waiting := by
    rw [hhall]
    by_cases hcause : cause = .duplicate <;> simp [HallPort.faulted, hcause]
  obtain ⟨hline, hfloor⟩ := conclude_of_down hdown hr
  refine ⟨hline.trans hhall, by rw [hfloor]; exact hown, by rw [hfloor]; exact hstations,
    conclude_amp_latch.2.trans (congrArg Latches.besideMasked hlatches), (conclude_reports w).trans hreports,
    (conclude_besideLine w).trans hbeside⟩

theorem hallFault_of_besideMasked {l l' : Latches} (h : l.besideMasked = l'.besideMasked) : l.hallFault = l'.hallFault := by
  have hlatch := congrArg Latches.hallFault h
  exact hlatch

theorem duplicateStation_of_besideMasked {l l' : Latches} (h : l.besideMasked = l'.besideMasked) :
    l.duplicateStation = l'.duplicateStation := by
  have hlatch := congrArg Latches.duplicateStation h
  exact hlatch

/-! STUCK_LINE (R56, R106). -/

/-- The hall port once the line has been found stuck: the frame on the line is abandoned, and the port waits for idle line. -/
def HallPort.stuck (h : HallPort) : HallPort :=
  { h with line := .waitIdle, idleCounting := false, txList := undriven h.txList, onLine := none }

theorem lineSticks_of_due {s : State} (hline : s.hall.line ≠ .silent) (hdue : s.hall.watch.due ≤ s.now) :
    lineSticks s = match s.hall.state with
      | .off => s
      | .fault .duplicate => s.onHall HallPort.stuck
      | .fault _ => attemptFails ((s.onHall HallPort.stuck).onHall fun h => { h with state := .fault .stuck })
      | _ => enterFault .stuck (s.onHall HallPort.stuck) := by
  have hgoes : ¬ (s.hall.line = .silent ∨ s.hall.watch.reached s.now = false) := by
    simp [hline, Timer.reached_of_due hdue]
  unfold lineSticks
  rw [if_neg hgoes]
  rfl

theorem lineSticks_of_up {s : State} (hline : s.hall.line ≠ .silent) (hdue : s.hall.watch.due ≤ s.now)
    (hup : s.hall.state.isUp = true) : lineSticks s = enterFault .stuck (s.onHall HallPort.stuck) := by
  rw [lineSticks_of_due hline hdue]
  cases hstate : s.hall.state with
  | off => cases hstate ▸ hup
  | fault _ => cases hstate ▸ hup
  | listenIn _ => rfl
  | on => rfl

/-- A line found stuck too soon, or by a part that takes no part on it, is nothing (logs 3 and 13). -/
theorem lineSticks_of_off {s : State}
    (h : s.hall.state = .off ∨ s.now + Config.tolerance s.hall.watch.len < s.hall.watch.due) : lineSticks s = s := by
  unfold lineSticks
  rcases h with hoff | hsoon
  · rw [hoff]
    split <;> rfl
  · refine if_pos (.inr (decide_eq_false (Nat.not_le.mpr hsoon)))

/-- With no frame on the line a failed attempt changes the list and the schedule alone (R68). -/
theorem attemptFailed_of_undriven {h : HallPort} (start : Nat) (hdriven : h.driven = none) :
    h.attemptFailed start =
      { h with
        txList := h.txList.filter fun x => !x.isPresenceOf .recovery, recovery := .scheduled ⟨start + 10000, 10000⟩ } := by
  unfold HallPort.attemptFailed HallPort.withoutPresence
  rw [if_neg (by rw [hdriven]; exact nofun)]

theorem attemptFails_of_attempting {s : State} {start : Nat} (h : s.hall.recovery = .attempting start) :
    attemptFails s = s.onHall (HallPort.attemptFailed start) := by
  unfold attemptFails
  rw [h]
  rfl

theorem attemptFails_of_idle {s : State} (h : ∀ start, s.hall.recovery ≠ .attempting start) : attemptFails s = s := by
  unfold attemptFails
  split
  next start hrec => exact absurd hrec (h start)
  next => rfl

theorem attemptFails_onHall {s : State} (hdriven : s.hall.driven = none) :
    ∃ l r, attemptFails s = s.onHall fun h => { h with txList := l, recovery := r } := by
  by_cases h : ∃ start, s.hall.recovery = .attempting start
  · obtain ⟨start, hrec⟩ := h
    rw [attemptFails_of_attempting hrec, State.onHall, attemptFailed_of_undriven start hdriven]
    exact ⟨_, _, rfl⟩
  · rw [attemptFails_of_idle (by simpa using h)]
    exact ⟨s.hall.txList, s.hall.recovery, rfl⟩

theorem driven_of_undriven {h : HallPort} {l : List TxEntry} (hlist : h.txList = undriven l) : h.driven = none := by
  have hnone : (undriven l).find? TxEntry.driving = none := by
    rw [← List.head?_filter, undriven_filter_driving]
    rfl
  rw [HallPort.driven, hlist, hnone]
  rfl

/-! A duplicate of the own number (R69). -/

theorem duplicateHeard_of_up {s : State} (hup : s.hall.state.isUp = true) : duplicateHeard s = enterFault .duplicate s := by
  unfold duplicateHeard
  cases hstate : s.hall.state with
  | off => cases hstate ▸ hup
  | fault _ => cases hstate ▸ hup
  | listenIn _ => rfl
  | on => rfl

/-- The hall port once a good frame has been heard. -/
def HallPort.goodHeard (watch : Timer) (h : HallPort) : HallPort :=
  { h with framesReceived := min 65535 (h.framesReceived + 1), line := .receiving, idleCounting := true, watch := watch }

theorem frameGood_of_own {f : HallFrame} {s : State} (hown : f.station.toNat = s.straps.station) :
    frameGood f s = duplicateHeard (s.onHall (HallPort.goodHeard (s.after Config.stuck))) := if_pos hown

/-- Settles O37: each way to FAULT gives the port, the floor and the report of `FaultEntered`, which the selection leaves. -/
theorem faultsOfTheHallLine : Obligations.FaultsOfTheHallLine := by
  refine ⟨fun t s hawake hline hdue hup hcalm hfits => ?_, fun t s hawake hline hdue hstate => ?_, fun t s hawake h => ?_,
    fun t f c s hcommand hawake hfollows hgood hown hup hcalm hfits => ?_⟩
  · obtain ⟨hhall, ⟨hfree, hclaim, hout⟩, -, hlatches, hreports, hbeside⟩ :=
      (enterFault_entered (s := (s.arrive t).onHall HallPort.stuck) .stuck hcalm hfits).conclude
    refine ⟨_, concluding_of_awake hawake t _, ?_⟩
    rw [lineSticks_of_up (s := s.arrive t) hline hdue hup]
    rw [hhall]
    exact ⟨rfl, rfl, rfl, rfl, rfl, rfl, rfl, hallFault_of_besideMasked hlatches, hreports, hfree, hclaim, hout,
      besidesHallKept_of_besideLine hbeside⟩
  · obtain ⟨l, r, hport⟩ := attemptFails_onHall
      (s := (s.arrive t).onHall fun h => { h.stuck with state := .fault .stuck }) (driven_of_undriven (l := s.hall.txList) rfl)
    obtain ⟨⟨hline', -, -, hstate', -⟩, hview, hreports, hbesides⟩ :=
      conclude_onHall s t fun h => { h.stuck with state := .fault .stuck, txList := l, recovery := r }
    have hsticks : lineSticks (s.arrive t) =
        (s.arrive t).onHall fun h => { h.stuck with state := .fault .stuck, txList := l, recovery := r } := by
      rw [lineSticks_of_due (s := s.arrive t) hline hdue]
      simp only [State.arrive, hstate]
      exact hport
    exact ⟨_, (concluding_of_awake hawake t _).trans (by rw [hsticks]), hstate', hline', hview, hreports, hbesides⟩
  · obtain ⟨hline, hview, hreports, hbesides⟩ := conclude_onHall s t id
    exact ⟨_, (concluding_of_awake hawake t _).trans (by rw [lineSticks_of_off (s := s.arrive t) h]; rfl), hline, hview, hreports,
      hbesides⟩
  · have hheard : exec c s = .next (conclude (frameHeard f (s.arrive t))) := by
      cases f <;> subst hcommand <;> exact concluding_of_awake hawake t _
    have hfault : frameHeard f (s.arrive t) =
        enterFault .duplicate ((s.arrive t).onHall (HallPort.goodHeard ((s.arrive t).after Config.stuck))) := by
      unfold frameHeard
      rw [if_pos (show (s.arrive t).hall.follows = true from hfollows), if_pos hgood, frameGood_of_own (s := s.arrive t) hown]
      exact duplicateHeard_of_up (s := (s.arrive t).onHall _) hup
    obtain ⟨hhall, ⟨hfree, hclaim, -⟩, hstations, hlatches, hreports, hbeside⟩ :=
      (enterFault_entered (s := (s.arrive t).onHall (HallPort.goodHeard ((s.arrive t).after Config.stuck))) .duplicate hcalm
        hfits).conclude
    rw [hfault] at hheard
    refine ⟨_, hheard, ?_⟩
    rw [hhall]
    exact ⟨rfl, rfl, rfl, rfl, rfl, duplicateStation_of_besideMasked hlatches, hreports, hfree, hclaim, hstations,
      besidesHallKept_of_besideLine hbeside⟩

end Sys2Proof.Machine
end

section
/-! Own frames that fail (R60, R61, R62): what waits again, what leaves the list, and what follows the sixteenth error in a row. -/

namespace Sys2Proof.Machine
open Sys2Proof Safety

/-! The frame on the line, and what follows a step with nothing to select. -/

theorem sendingFrame_of_driving {s : State} {f : TxFrame} (h : Driving s f) : s.hall.sendingFrame = some f := by
  obtain ⟨hline, hdriven⟩ := h
  unfold HallPort.sendingFrame
  rw [if_pos hline, hdriven]

/-- With nothing to select the selection notes the instant at which it has been asked, and nothing else (R18, R103). -/
theorem select_of_nothing {s : State} (h : NothingToSelect s) : ∃ n, select s = s.onSeq fun q => { q with askedAt := n } := by
  by_cases hslot : s.seq.slot.isSome = true
  · exact ⟨s.seq.askedAt, select_of_slot hslot⟩
  · exact ⟨s.now, select_of_none (Option.not_isSome_iff_eq_none.mp hslot) (by rw [h.resolve_left hslot]; rfl)⟩

theorem conclude_eq_of_nothing {s : State} (hawake : s.power.mode ≠ .sleep) (h : NothingToSelect s) :
    ∃ n, conclude s = holdTimers (holdSampling ((startWaitingRecovery s).onSeq fun q => { q with askedAt := n })) := by
  obtain ⟨n, hselect⟩ := select_of_nothing (s := startWaitingRecovery s) (by rwa [NothingToSelect, startWaitingRecovery_seq])
  exact ⟨n, by rw [conclude_of_awake hawake, hselect]⟩

theorem conclude_of_nothing {s : State} (hawake : s.power.mode ≠ .sleep) (h : NothingToSelect s) :
    (conclude s).hall = (startWaitingRecovery s).hall ∧ (conclude s).floor = s.floor := by
  obtain ⟨n, hconclude⟩ := conclude_eq_of_nothing hawake h
  have hkept := (holdTimers_besideOutput _).trans
    (holdSampling_besideOutput ((startWaitingRecovery s).onSeq fun q => { q with askedAt := n }))
  rw [hconclude]
  exact ⟨State.hall_eq_of_besideOutput hkept, (State.floor_eq_of_besideOutput hkept).trans (startWaitingRecovery_floor s)⟩

theorem conclude_hall_of_nothing {s : State} (hawake : s.power.mode ≠ .sleep) (h : NothingToSelect s)
    (hr : s.hall.recovery ≠ .waiting) : (conclude s).hall = s.hall := by
  rw [(conclude_of_nothing hawake h).1, startWaitingRecovery_of_ne hr]

theorem isClaim_of_mem_joinPresence {l : List TxEntry} (h : ∀ x ∈ l, x.isClaim = false) (k : PresenceKind) :
    ∀ x ∈ joinPresence k l, x.isClaim = false := by
  unfold joinPresence
  intro x hx
  split at hx
  · exact h x hx
  · rcases List.mem_append.mp hx with hx | hx
    · exact h x (List.mem_filter.mp hx).1
    · obtain rfl := List.mem_singleton.mp hx
      rfl

/-- A waiting recovery attempt that starts brings no CLAIM. -/
theorem isClaim_of_startWaitingRecovery {s : State} (h : ∀ x ∈ s.hall.txList, x.isClaim = false) :
    ∀ x ∈ (startWaitingRecovery s).hall.txList, x.isClaim = false := by
  unfold startWaitingRecovery
  split
  · exact isClaim_of_mem_joinPresence h .recovery
  · exact h

/-! A CLAIM that has been taken back leaves the list when it fails (R60, R61, R62). -/

/-- The own CLAIM out of the list and no longer outgoing. -/
def State.claimDropped (s : State) : State :=
  (s.onHall fun h => { h with txList := h.txList.filter fun x => !x.isClaim }).onOwn fun w => { w with outgoing := none }

theorem claimTakenBack_iff {s : State} {o : Outgoing} (ho : s.floor.own.outgoing = some o) :
    s.claimTakenBack = true ↔ o.takenBack ≠ .no := by
  unfold State.claimTakenBack
  rw [ho]
  exact decide_eq_true_iff

theorem dropTakenBack_of_standing {f : TxFrame} {s : State} (h : ∀ c, f = .claim c → s.claimTakenBack = false) :
    dropTakenBack f s = s := by
  cases f with
  | claim c => exact if_neg (by simp [h c rfl])
  | release seq o => rfl
  | presence k => rfl

theorem dropTakenBack_of_outranked {s : State} {o : Outgoing} (c : ClaimContent) (ho : s.floor.own.outgoing = some o)
    (hback : o.takenBack = .outranked) : dropTakenBack (.claim c) s = claimLost s.claimDropped := by
  refine (if_pos ((claimTakenBack_iff ho).mpr (by rw [hback]; exact nofun))).trans ?_
  simp only [claimUnsent, State.onHall_floor, ho, hback]
  rfl

theorem dropTakenBack_of_withdrawn {s : State} {o : Outgoing} (c : ClaimContent) (ho : s.floor.own.outgoing = some o)
    (hback : o.takenBack = .withdrawn) : dropTakenBack (.claim c) s = promotePending s.claimDropped := by
  refine (if_pos ((claimTakenBack_iff ho).mpr (by rw [hback]; exact nofun))).trans ?_
  simp only [claimUnsent, State.onHall_floor, ho, hback]
  rfl

theorem dropTakenBack_cases (f : TxFrame) (s : State) :
    dropTakenBack f s = s ∨ dropTakenBack f s = claimLost s.claimDropped ∨ dropTakenBack f s = promotePending s.claimDropped := by
  by_cases h : ∃ c o, f = .claim c ∧ s.floor.own.outgoing = some o ∧ o.takenBack ≠ .no
  · obtain ⟨c, o, rfl, ho, hno⟩ := h
    cases hback : o.takenBack with
    | no => exact absurd hback hno
    | outranked => exact .inr (.inl (dropTakenBack_of_outranked c ho hback))
    | withdrawn => exact .inr (.inr (dropTakenBack_of_withdrawn c ho hback))
  · refine .inl (dropTakenBack_of_standing fun c hc => Bool.eq_false_iff.mpr fun hback => ?_)
    cases ho : s.floor.own.outgoing with
    | none => simp [State.claimTakenBack, ho] at hback
    | some o => exact h ⟨c, o, hc, ho, (claimTakenBack_iff ho).mp hback⟩

theorem promotePending_of_none {s : State} (h : s.floor.own.pendingClaim = none) : promotePending s = s := by
  unfold promotePending
  rw [h]

theorem promotePending_of_some {s : State} {p : ClaimContent} (h : s.floor.own.pendingClaim = some p) :
    promotePending s = handFrame (.claim p) (s.onOwn fun o => { o with pendingClaim := none, outgoing := some ⟨p, .no⟩ }) := by
  unfold promotePending
  rw [h]

theorem promotePending_view (s : State) : (promotePending s).floor.view = s.floor.view := by
  unfold promotePending
  split
  · rw [handFrame_floor]
    rfl
  · rfl

theorem promotePending_power (s : State) : (promotePending s).power = s.power := by
  unfold promotePending
  split
  · rw [handFrame_power]
    rfl
  · rfl

/-- A step that leaves the state `s` but for the list, the recovery schedule, the own CLAIM on its way and its loss. -/
structure FrameDropped (s w : State) : Prop where
  outside : w.outside = s.outside
  power : w.power = s.power
  env : w.env = s.env
  view : { w.floor.view with claimsLost := 0 } = { s.floor.view with claimsLost := 0 }

theorem FrameDropped.refl (s : State) : FrameDropped s s := ⟨rfl, rfl, rfl, rfl⟩

theorem FrameDropped.trans {s w v : State} (h : FrameDropped s w) (h' : FrameDropped w v) : FrameDropped s v :=
  ⟨h'.outside.trans h.outside, h'.power.trans h.power, h'.env.trans h.env, h'.view.trans h.view⟩

theorem dropTakenBack_dropped (f : TxFrame) (s : State) : FrameDropped s (dropTakenBack f s) := by
  rcases dropTakenBack_cases f s with h | h | h <;> rw [h]
  · exact .refl s
  · refine ⟨claimLost_outside _, claimLost_power _, claimLost_env _, ?_⟩
    rw [claimLost_floor]
    rfl
  · exact ⟨promotePending_outside _, promotePending_power _, promotePending_env _,
      congrArg (fun v => { v with claimsLost := 0 }) (promotePending_view _)⟩

/-! The port gives up the frame on the line. -/

/-- A change of the port that leaves every frame of the list waiting, and with it the recovery schedule and the hall state. -/
structure FrameWaits (p : HallPort → HallPort) : Prop where
  txList : ∀ h, (p h).txList = undriven h.txList
  recovery : ∀ h, (p h).recovery = h.recovery
  state : ∀ h, (p h).state = h.state

/-- A change of the port beside its list, its recovery schedule and the hall state. -/
structure LineOnly (g : HallPort → HallPort) : Prop where
  txList : ∀ h, (g h).txList = h.txList
  recovery : ∀ h, (g h).recovery = h.recovery
  line : ∀ h h', h.besideList = h'.besideList → (g h).besideList = (g h').besideList

theorem LineOnly.id : LineOnly id := ⟨fun _ => rfl, fun _ => rfl, fun _ _ h => h⟩

theorem HallPort.badHeard_lineOnly (counting : Bool) (watch : Timer) : LineOnly (HallPort.badHeard counting watch) where
  txList := fun _ => rfl
  recovery := fun _ => rfl
  line := fun h h' heq => by
    show (h.besideList.badHeard counting watch) = (h'.besideList.badHeard counting watch)
    rw [heq]

theorem onHall_outside_congr {s w : State} {g : HallPort → HallPort} (hg : LineOnly g) (h : w.outside = s.outside) :
    (w.onHall g).outside = (s.onHall g).outside := by
  have hline : (g w.hall).besideList = (g s.hall).besideList := hg.line _ _ (congrArg Prod.fst h)
  exact Prod.ext hline (congrArg (·.2) h)

theorem undriven_filter_not_claim (l : List TxEntry) :
    ((undriven l).filter fun x => !x.isClaim) = (l.filter fun x => !x.isClaim).map fun x => ⟨x.frame, false⟩ := by
  rw [undriven, List.filter_map]
  rfl

section
variable {t : Nat} {s : State} {p g : HallPort → HallPort} {c : ClaimContent} {o : Outgoing}

/-- The state in which the frame `f` has failed: the port has given it up by `p`, and `g` is what the port hears after it. -/
def State.frameFailed (t : Nat) (f : TxFrame) (p g : HallPort → HallPort) (s : State) : State :=
  (dropTakenBack f ((s.arrive t).onHall p)).onHall g

variable (hp : FrameWaits p) (hg : LineOnly g) (hawake : s.power.mode ≠ .sleep)
include hp hg hawake

/-- A frame that has not been taken back waits in its place. -/
theorem listIs_of_standing {f : TxFrame} (hstands : ∀ c, f = .claim c → s.claimTakenBack = false)
    (hr : s.hall.recovery ≠ .waiting) :
    ListIs (s.hall.txList.map fun x => ⟨x.frame, false⟩) s (conclude (s.frameFailed t f p g)) := by
  have hfailed : s.frameFailed t f p g = ((s.arrive t).onHall p).onHall g :=
    congrArg (State.onHall g) (dropTakenBack_of_standing (s := (s.arrive t).onHall p) hstands)
  rw [hfailed]
  have hlist := conclude_txList (s := ((s.arrive t).onHall p).onHall g) hawake
    (((hg.recovery _).trans (hp.recovery _)).trans_ne hr)
  rw [State.onHall_hall, hg.txList, State.onHall_hall, hp.txList] at hlist
  exact listIs_of_nextSeq rfl hlist

variable (ho : s.floor.own.outgoing = some o)
include ho

theorem frameFailed_outranked (hback : o.takenBack = .outranked) :
    let u := conclude (s.frameFailed t (.claim c) p g)
    (s.hall.recovery ≠ .waiting →
        ListIs ((s.hall.txList.filter fun x => !x.isClaim).map fun x => ⟨x.frame, false⟩) s u)
      ∧ u.floor.claimsLost = min 65535 (s.floor.claimsLost + 1)
      ∧ (u.floor.own.state = .free ∨ u.floor.own.state = .claiming) := by
  have hfailed : s.frameFailed t (.claim c) p g = (claimLost ((s.arrive t).onHall p).claimDropped).onHall g :=
    congrArg (State.onHall g) (dropTakenBack_of_outranked (s := (s.arrive t).onHall p) c ho hback)
  rw [hfailed]
  generalize hw : (claimLost ((s.arrive t).onHall p).claimDropped).onHall g = w
  have hfloor : w.floor = { s.floor with
      claimsLost := min 65535 (s.floor.claimsLost + 1), own := { s.floor.own with outgoing := none, state := .free } } := by
    rw [← hw, State.onHall_floor, claimLost_floor]
    rfl
  have hlist : w.hall.txList = (s.hall.txList.filter fun x => !x.isClaim).map fun x => ⟨x.frame, false⟩ := by
    rw [← hw, State.onHall_hall, hg.txList, claimLost_hall, ← undriven_filter_not_claim]
    exact congrArg (List.filter fun x => !x.isClaim) (hp.txList s.hall)
  have hrecovery : w.hall.recovery = s.hall.recovery := by
    rw [← hw, State.onHall_hall, hg.recovery, claimLost_hall]
    exact hp.recovery s.hall
  have hmode : w.power.mode ≠ .sleep := by
    rw [← hw, State.onHall_power, claimLost_power]
    exact hawake
  refine ⟨fun hr => ?_, (congrArg FloorUnit.claimsLost (conclude_view w)).trans (congrArg FloorUnit.claimsLost hfloor), ?_⟩
  · rw [← hlist]
    exact listIs_of_nextSeq (congrArg (fun u => u.own.nextSeq) hfloor) (conclude_txList hmode (hrecovery.trans_ne hr))
  · rcases conclude_floorState hmode with h | h
    · exact .inl (h.trans (congrArg (fun u => u.own.state) hfloor))
    · exact .inr h

theorem frameFailed_withdrawn (hback : o.takenBack = .withdrawn) :
    let u := conclude (s.frameFailed t (.claim c) p g)
    u.floor.view = s.floor.view
      ∧ (s.floor.own.pendingClaim = none → s.hall.recovery ≠ .waiting →
          ListIs ((s.hall.txList.filter fun x => !x.isClaim).map fun x => ⟨x.frame, false⟩) s u)
      ∧ (∀ q, s.floor.own.pendingClaim = some q → s.hall.recovery ≠ .waiting → s.hall.state.isFault = false →
          u.hall.txList = ((s.hall.txList.filter fun x => !x.isClaim).map fun x => ⟨x.frame, false⟩) ++ [⟨.claim q, false⟩]
            ∧ u.floor.own.outgoing = some ⟨q, .no⟩) := by
  have hfailed : s.frameFailed t (.claim c) p g = (promotePending ((s.arrive t).onHall p).claimDropped).onHall g :=
    congrArg (State.onHall g) (dropTakenBack_of_withdrawn (s := (s.arrive t).onHall p) c ho hback)
  rw [hfailed]
  have hlist : ((s.arrive t).onHall p).claimDropped.hall.txList =
      (s.hall.txList.filter fun x => !x.isClaim).map fun x => ⟨x.frame, false⟩ := by
    rw [← undriven_filter_not_claim]
    exact congrArg (List.filter fun x => !x.isClaim) (hp.txList s.hall)
  have hrecovery : ((s.arrive t).onHall p).claimDropped.hall.recovery = s.hall.recovery := hp.recovery s.hall
  have hstate : ((s.arrive t).onHall p).claimDropped.hall.state = s.hall.state := hp.state s.hall
  refine ⟨(conclude_view _).trans (promotePending_view _), fun hpending hr => ?_, fun q hpending hr hfault => ?_⟩
  · rw [promotePending_of_none (s := ((s.arrive t).onHall p).claimDropped) hpending]
    have hjoins := conclude_txList (s := ((s.arrive t).onHall p).claimDropped.onHall g) hawake
      (((hg.recovery _).trans hrecovery).trans_ne hr)
    rw [State.onHall_hall, hg.txList, hlist] at hjoins
    exact listIs_of_nextSeq rfl hjoins
  · rw [promotePending_of_some (s := ((s.arrive t).onHall p).claimDropped) hpending]
    generalize hr' : (((s.arrive t).onHall p).claimDropped.onOwn fun o =>
      { o with pendingClaim := none, outgoing := some ⟨q, .no⟩ }) = r
    have hnofault : r.hall.state.isFault = false := by
      rw [← hr', State.onOwn_hall, hstate]
      exact hfault
    have hout : ((handFrame (.claim q) r).onHall g).floor.own.outgoing = some ⟨q, .no⟩ := by
      rw [State.onHall_floor, handFrame_floor, ← hr']
      rfl
    have hmode : ((handFrame (.claim q) r).onHall g).power.mode ≠ .sleep := by
      rw [State.onHall_power, handFrame_power, ← hr']
      exact hawake
    obtain ⟨hstays, hsame⟩ := conclude_outgoing hmode hout
    refine ⟨?_, hstays⟩
    rw [hsame, State.onHall_hall, hg.txList, handFrame_txList hnofault, ← hlist, ← hr']
    · rfl
    · rw [State.onHall_hall, hg.recovery, handFrame_recovery, ← hr', State.onOwn_hall, hrecovery]
      exact hr

end

end Sys2Proof.Machine
end

section
/-! ARBITRATION_LOSS and BIT_ERROR (R60, R61, R62, R67, R71). -/

namespace Sys2Proof.Machine
open Sys2Proof Safety

/-! What any failure of a frame leaves. -/

theorem reportFits_of_outside {s w : State} (h : w.outside = s.outside) (hfits : ReportFits s) : ReportFits w := by
  have hlink : w.link.besideLatches = s.link.besideLatches := congrArg (fun x => x.2.2.2.1) h
  have hsame : ReportFits w ↔ ReportFits s := by
    have hlistening : w.link.listening = s.link.listening := (congrArg CueLink.listening hlink : w.link.besideLatches.listening = _)
    have hreports : w.link.reports = s.link.reports := (congrArg CueLink.reports hlink : w.link.besideLatches.reports = _)
    rw [ReportFits, hlistening, hreports]
    rfl
  exact hsame.mpr hfits

theorem FrameDropped.peers {s w : State} (h : FrameDropped s w) : w.floor.peers = s.floor.peers :=
  (congrArg FloorUnit.peers h.view : ({ w.floor.view with claimsLost := 0 } : FloorUnit).peers = _)

theorem claimsLost_of_view {s u : State} (h : u.floor.view = s.floor.view) : u.floor.claimsLost = s.floor.claimsLost :=
  (congrArg FloorUnit.claimsLost h : u.floor.view.claimsLost = _)

section
variable {t : Nat} {s d : State} {p g : HallPort → HallPort} (hd : FrameDropped ((s.arrive t).onHall p) d) (hg : LineOnly g)
include hd

theorem FrameDropped.viewParts :
    (conclude (d.onHall g)).floor.peers = s.floor.peers ∧ (conclude (d.onHall g)).floor.own.claim = s.floor.own.claim
      ∧ (conclude (d.onHall g)).floor.claimsSent = s.floor.claimsSent
      ∧ (conclude (d.onHall g)).floor.claimsConfirmed = s.floor.claimsConfirmed
      ∧ (conclude (d.onHall g)).floor.overlaps = s.floor.overlaps := by
  have hview : { (conclude (d.onHall g)).floor.view with claimsLost := 0 } = { s.floor.view with claimsLost := 0 } := by
    rw [conclude_view]
    exact hd.view
  simp only [FloorUnit.view, FloorUnit.mk.injEq, OwnFloor.mk.injEq] at hview
  obtain ⟨hpeers, ⟨-, -, hclaim, -⟩, hsent, hconfirmed, -, hoverlaps⟩ := hview
  exact ⟨hpeers, hclaim, hsent, hconfirmed, hoverlaps⟩

include hg

theorem FrameDropped.kept :
    LineKept ((s.arrive t).onHall (g ∘ p)) (conclude (d.onHall g)) ∧ ReportsKept s (conclude (d.onHall g))
      ∧ BesidesHallKept s (conclude (d.onHall g)) :=
  kept_of_onHall (f := g ∘ p) ((conclude_outside _).trans (onHall_outside_congr hg hd.outside))

end

/-! A loss of arbitration (R61). -/

/-- The hall port once the frame on the line has lost arbitration. -/
def HallPort.outbid (h : HallPort) : HallPort :=
  { h with line := .receiving, idleCounting := false, txList := undriven h.txList, onLine := none }

theorem HallPort.outbid_waits : FrameWaits HallPort.outbid := ⟨fun _ => rfl, fun _ => rfl, fun _ => rfl⟩

theorem exec_arbitrationLoss (t : Nat) {s : State} {f : TxFrame} (hawake : s.power.mode ≠ .sleep) (hdriving : Driving s f) :
    exec (.arbitrationLoss t) s = .next (conclude (s.frameFailed t f HallPort.outbid id)) := by
  refine (concluding_of_awake hawake t _).trans ?_
  unfold arbitrationLost
  rw [sendingFrame_of_driving (s := s.arrive t) hdriving]
  rfl

/-! A bit error (R62). -/

theorem HallPort.bitFailed_waits : FrameWaits HallPort.bitFailed := ⟨fun _ => rfl, fun _ => rfl, fun _ => rfl⟩

/-- The state in which the frame `f` has been abandoned after a bit error. -/
def State.abandoned (f : TxFrame) (s : State) : State := failIfRecovery f (dropTakenBack f (s.onHall HallPort.bitFailed))

theorem bitErrs_of_driving {s : State} {f : TxFrame} (hdriving : Driving s f) (rest : Option (List Bool)) :
    bitErrs rest s = restHeard rest (faultAtRun (s.abandoned f)) := by
  unfold bitErrs
  rw [sendingFrame_of_driving hdriving]
  rfl

theorem abandoned_of_other {f : TxFrame} (s : State) (h : f ≠ .presence .recovery) :
    s.abandoned f = dropTakenBack f (s.onHall HallPort.bitFailed) := if_neg h

theorem bitFailed_driven (h : HallPort) : h.bitFailed.driven = none := driven_of_undriven (l := h.txList) rfl

theorem abandoned_dropped (f : TxFrame) (s : State) : FrameDropped (s.onHall HallPort.bitFailed) (s.abandoned f) := by
  refine (dropTakenBack_dropped f _).trans ?_
  unfold State.abandoned failIfRecovery
  split
  next hf =>
    obtain ⟨l, r, hfails⟩ := attemptFails_onHall (s := dropTakenBack f (s.onHall HallPort.bitFailed))
      (by rw [hf]; exact bitFailed_driven s.hall)
    rw [hfails]
    exact ⟨rfl, rfl, rfl, rfl⟩
  next => exact .refl _

/-- A recovery PRESENCE leaves the list at the first bit error, and its attempt has failed (R62, R68). -/
theorem abandoned_recovery {s : State} {start : Nat} (hr : s.hall.recovery = .attempting start) :
    s.abandoned (.presence .recovery) =
      (s.onHall HallPort.bitFailed).onHall fun h =>
        { h with
          txList := h.txList.filter fun x => !x.isPresenceOf .recovery, recovery := .scheduled ⟨start + 10000, 10000⟩ } := by
  have hfails : s.abandoned (.presence .recovery) = attemptFails (s.onHall HallPort.bitFailed) := by
    unfold State.abandoned failIfRecovery
    exact if_pos rfl
  refine hfails.trans ((attemptFails_of_attempting (s := s.onHall HallPort.bitFailed) hr).trans ?_)
  exact congrArg (fun h => { s with hall := h }) (attemptFailed_of_undriven start (bitFailed_driven s.hall))

theorem undriven_filter_not_recovery (l : List TxEntry) :
    ((undriven l).filter fun x => !x.isPresenceOf .recovery) =
      (l.filter fun x => decide (x.frame ≠ .presence .recovery)).map fun x => ⟨x.frame, false⟩ := by
  rw [undriven, List.filter_map]
  simp [TxEntry.isPresenceOf, Function.comp_def]

/-- What a bit error leaves in the list, whatever the port hears after it. -/
theorem bitErrorLeaves {t : Nat} {s : State} {g : HallPort → HallPort} (f : TxFrame) (hg : LineOnly g)
    (hawake : s.power.mode ≠ .sleep) : BitErrorLeaves f s (conclude (((s.arrive t).abandoned f).onHall g)) := by
  intro hr
  have hother (h : f ≠ .presence .recovery) : ((s.arrive t).abandoned f).onHall g = s.frameFailed t f HallPort.bitFailed g :=
    congrArg (State.onHall g) (abandoned_of_other _ h)
  refine ⟨fun hf hstands => ?_, fun c o hf ho hback => ?_, fun c o hf ho hback hpending => ?_,
    fun c o q hf ho hback hpending hfault => ?_, fun start hf hattempt => ?_⟩
  · rw [hother hf]
    exact listIs_of_standing HallPort.bitFailed_waits hg hawake hstands hr
  · subst hf
    rw [hother nofun]
    obtain ⟨hlist, hlost, -⟩ := frameFailed_outranked (c := c) (t := t) HallPort.bitFailed_waits hg hawake ho hback
    exact ⟨hlist hr, hlost⟩
  · subst hf
    rw [hother nofun]
    obtain ⟨hview, hlist, -⟩ := frameFailed_withdrawn (c := c) (t := t) HallPort.bitFailed_waits hg hawake ho hback
    exact ⟨hlist hpending hr, claimsLost_of_view hview⟩
  · subst hf
    rw [hother nofun]
    obtain ⟨-, -, hlist⟩ := frameFailed_withdrawn (c := c) (t := t) HallPort.bitFailed_waits hg hawake ho hback
    exact hlist q hpending hr hfault
  · subst hf
    rw [abandoned_recovery (s := s.arrive t) hattempt]
    generalize hw : State.onHall g _ = w
    have hrecovery : w.hall.recovery = .scheduled ⟨start + 10000, 10000⟩ := by
      rw [← hw]
      exact hg.recovery _
    have hlist : w.hall.txList =
        (s.hall.txList.filter fun x => decide (x.frame ≠ .presence .recovery)).map fun x => ⟨x.frame, false⟩ := by
      rw [← undriven_filter_not_recovery, ← hw]
      exact hg.txList _
    have hne : w.hall.recovery ≠ .waiting := by
      rw [hrecovery]
      exact nofun
    refine ⟨?_, (conclude_recovery hne).trans hrecovery⟩
    rw [← hlist]
    exact listIs_of_nextSeq (by rw [← hw]; rfl) (conclude_txList (by rw [← hw]; exact hawake) hne)

end Sys2Proof.Machine
end

section
/-! The entry to SLEEP (R71, R185), and O36: what follows a bit error on the line (R62, R69). -/

namespace Sys2Proof.Machine
open Sys2Proof Safety

/-! The entry to SLEEP. -/

/-- The power unit asleep. -/
def Power.asleep (p : Power) : Power :=
  { p with mode := .sleep, announcing := false, amp := .off, dim := none, standby := none, timersHeld := false }

theorem discardPartial_eq (s : State) :
    ∃ framer n, discardPartial s = s.onLink fun l => { l with framer := framer, framingErrors := n } := by
  unfold discardPartial
  split
  · exact ⟨s.link.framer, s.link.framingErrors, rfl⟩
  · exact ⟨.hunt, bump s.link.framingErrors, rfl⟩

/-- The entry to SLEEP by the fields it sets (R71, R185); a partial frame is the cue link's own matter (R191). -/
theorem enterSleep_eq {s : State} (hawake : s.power.mode ≠ .sleep) :
    ∃ framer n, enterSleep s =
      { s with
        power := s.power.asleep
        display := { s.display with brightness := 0 }
        hall := s.hall.asleep
        floor := { s.floor with own := { s.floor.own with outgoing := none, pendingClaim := none } }
        level := { s.level with sampleDue := none }
        rem := { s.rem with secondPhase := none }
        link := { s.link with framer := framer, framingErrors := n } } := by
  have hmode : setMode .sleep s =
      (s.onPower fun p => { p with mode := .sleep }).onDisplay fun d => { d with brightness := 0 } := if_neg hawake
  unfold enterSleep
  rw [hmode]
  dsimp only
  generalize hasleep : State.onRem _ _ = w
  obtain ⟨framer, n, hdiscard⟩ := discardPartial_eq w
  refine ⟨framer, n, hdiscard.trans ?_⟩
  subst hasleep
  simp only [State.onPower, State.onHall, State.onOwn, State.onFloor, State.onLevel, State.onRem, State.onDisplay, State.onLink,
    Power.asleep]

/-- What an entry to SLEEP from the state `w` shows, where `w` is the state `s` but for the hall line, the floor and reports. -/
theorem enterSleep_keeps {s w : State} (hawake : w.power.mode ≠ .sleep) (hbeside : w.besideLine = s.besideLine) :
    EstimateKept s (enterSleep w) ∧ PanelKept s (enterSleep w) ∧ SettingsKept s (enterSleep w) ∧ QueueKept s (enterSleep w)
      ∧ StoreKept s (enterSleep w) := by
  obtain ⟨framer, n, hsleep⟩ := enterSleep_eq hawake
  obtain ⟨hrem, hpanel, hsettings, -, hqueue, hstore, -⟩ := besidesHallKept_of_besideLine hbeside
  have hestimate : EstimateKept s w := estimateKept_of_rem hrem
  rw [hsleep]
  exact ⟨hestimate, hpanel, hsettings, hqueue, hstore⟩

theorem conclude_of_asleep {s : State} (h : s.power.mode = .sleep) : conclude s = s := if_neg (by simp [State.awake, h])

/-! What the port hears after a bit error (R62). -/

/-- A rest that is judged, and not good, is a bad frame. -/
theorem restHeard_of_bad {bits : List Bool} {s : State} (hline : s.hall.line ≠ .silent) (hbad : ∀ f, judge bits ≠ .good f) :
    ∃ counting watch, restHeard (some bits) s = s.onHall (HallPort.badHeard counting watch)
      ∧ (judge bits = .bad → counting = false) ∧ (judge bits = .badCheck → counting = true) := by
  unfold restHeard
  dsimp only
  rw [if_neg hline]
  cases hjudge : judge bits with
  | good f => exact absurd hjudge (hbad f)
  | badCheck =>
    obtain ⟨watch, hport⟩ := frameBad_watchBits true bits s
    exact ⟨true, watch, hport, nofun, fun _ => rfl⟩
  | bad =>
    obtain ⟨watch, hport⟩ := frameBad_watchBits false bits s
    exact ⟨false, watch, hport, fun _ => rfl, nofun⟩

/-- What a rest that is no good frame changes of the port, if there is one. -/
theorem restHeard_counts {rest : Option (List Bool)} {s : State} (hline : s.hall.line ≠ .silent)
    (hbad : ∀ bits f, rest = some bits → judge bits ≠ .good f) :
    ∃ line counting watch bad,
      restHeard rest s =
          s.onHall (fun h => { h with line := line, idleCounting := counting, watch := watch, badFrames := bad })
        ∧ (rest = none → line = s.hall.line ∧ bad = s.hall.badFrames)
        ∧ ∀ bits, rest = some bits → bad = min 65535 (s.hall.badFrames + 1) := by
  cases rest with
  | none => exact ⟨s.hall.line, s.hall.idleCounting, s.hall.watch, s.hall.badFrames, rfl, fun _ => ⟨rfl, rfl⟩, nofun⟩
  | some bits =>
    obtain ⟨counting, watch, hheard, -⟩ := restHeard_of_bad hline fun f => hbad bits f rfl
    exact ⟨_, counting, watch, _, hheard, nofun, fun _ _ => rfl⟩

theorem restHeard_of_own {bits : List Bool} {f : HallFrame} {s : State} (hline : s.hall.line ≠ .silent)
    (hjudge : judge bits = .good f) (hown : f.station.toNat = s.straps.station) :
    restHeard (some bits) s = duplicateHeard (s.onHall (HallPort.goodHeard (s.after Config.stuck))) := by
  unfold restHeard
  dsimp only
  rw [if_neg hline, hjudge]
  exact (if_pos hown).trans (frameGood_of_own hown)

/-- The port and the blocks beside it once the frame on the line has been abandoned. -/
theorem abandoned_fields (f : TxFrame) (s : State) :
    LineKept (s.onHall HallPort.bitFailed) (s.abandoned f) ∧ (s.abandoned f).power = s.power
      ∧ (s.abandoned f).now = s.now ∧ (s.abandoned f).straps = s.straps ∧ (s.abandoned f).floor.peers = s.floor.peers
      ∧ (s.abandoned f).link.reports = s.link.reports ∧ (s.abandoned f).link.listening = s.link.listening
      ∧ (s.abandoned f).besideLine = s.besideLine := by
  have hd := abandoned_dropped f s
  obtain ⟨⟨-, -, ⟨-, -, hlistening⟩, -⟩, ⟨hreports, -⟩⟩ := besidesHallKept_of_outside hd.outside
  exact ⟨lineKept_of_outside hd.outside, hd.power, congrArg Prod.fst hd.env, congrArg (fun x => x.2.2.1) hd.env, hd.peers,
    hreports, hlistening, (besideLine_of_outside hd.outside).trans (onHall_besideLine ..)⟩

theorem abandoned_line (f : TxFrame) (s : State) : (s.abandoned f).hall.line = .waitIdle := (abandoned_fields f s).1.1

theorem abandoned_errorRun (f : TxFrame) (s : State) : (s.abandoned f).hall.errorRun = min 16 (s.hall.errorRun + 1) := by
  obtain ⟨⟨-, -, -, -, hrun, -⟩, -⟩ := abandoned_fields f s
  exact hrun

theorem abandoned_state (f : TxFrame) (s : State) : (s.abandoned f).hall.state = s.hall.state := by
  obtain ⟨⟨-, -, -, hstate, -⟩, -⟩ := abandoned_fields f s
  exact hstate

theorem faultAtRun_of_few {s : State} (f : TxFrame) (hfew : s.hall.errorRun < 15) : faultAtRun (s.abandoned f) = s.abandoned f := by
  refine if_neg fun h => ?_
  have hsixteen : (s.abandoned f).hall.errorRun = 16 := h.1
  rw [abandoned_errorRun] at hsixteen
  omega

theorem faultAtRun_of_many {s : State} (f : TxFrame) (hmany : 15 ≤ s.hall.errorRun) (hup : s.hall.state.isUp = true) :
    faultAtRun (s.abandoned f) = enterFault .errors (s.abandoned f) := by
  refine if_pos ⟨?_, by rw [abandoned_state, hup]⟩
  rw [abandoned_errorRun]
  show min 16 (s.hall.errorRun + 1) = 16
  omega

/-- A port without a frame in its list has no PRESENCE to drop. -/
theorem withoutPresence_of_nil {h : HallPort} {k : PresenceKind} (hempty : h.txList = []) : h.withoutPresence k = h := by
  unfold HallPort.withoutPresence HallPort.driven
  rw [hempty, if_neg nofun]
  show { h with txList := [] } = h
  rw [← hempty]

section
variable {t : Nat} {s : State} {f : TxFrame} {rest : Option (List Bool)} (hawake : s.power.mode ≠ .sleep)
  (hdriving : Driving s f)
include hawake hdriving

theorem exec_bitError :
    exec (.bitError t rest) s = .next (conclude (restHeard rest (faultAtRun ((s.arrive t).abandoned f)))) :=
  (concluding_of_awake hawake t _).trans
    (congrArg (fun w => Host.Outcome.next (conclude w)) (bitErrs_of_driving (s := s.arrive t) hdriving rest))

/-- Up to the fifteenth error in a row the frame is abandoned, and `g` is what the port hears after it. -/
theorem bitError_waits {g : HallPort → HallPort} (hfew : s.hall.errorRun < 15) (hg : LineOnly g)
    (hrest : restHeard rest ((s.arrive t).abandoned f) = ((s.arrive t).abandoned f).onHall g) :
    ∃ u, exec (.bitError t rest) s = .next u
      ∧ LineKept ((s.arrive t).onHall (g ∘ HallPort.bitFailed)) u ∧ BitErrorLeaves f s u
      ∧ u.floor.peers = s.floor.peers ∧ ReportsKept s u ∧ BesidesHallKept s u := by
  have hd := abandoned_dropped f (s.arrive t)
  obtain ⟨hline, hreports, hbesides⟩ := hd.kept hg
  refine ⟨_, exec_bitError hawake hdriving, ?_⟩
  rw [faultAtRun_of_few (s := s.arrive t) f hfew, hrest]
  exact ⟨hline, bitErrorLeaves f hg hawake, (hd.viewParts (g := g)).1, hreports, hbesides⟩

/-- A good frame of the own number heard after a bit error is a duplicate (R69). -/
theorem bitError_duplicate {bits : List Bool} {g : HallFrame} (hfew : s.hall.errorRun < 15) (hjudge : judge bits = .good g)
    (hown : g.station.toNat = s.straps.station) (hup : s.hall.state.isUp = true) (hcalm : s.power.announcing = false)
    (hfits : ReportFits s) :
    ∃ u, exec (.bitError t (some bits)) s = .next u
      ∧ u.hall.state = .fault .duplicate ∧ u.hall.recovery = .none_ ∧ u.hall.txList = [] ∧ u.hall.heartbeat = none
      ∧ u.hall.framesReceived = min 65535 (s.hall.framesReceived + 1)
      ∧ u.hall.ownBitErrors = min 65535 (s.hall.ownBitErrors + 1)
      ∧ u.link.latches.duplicateStation = true ∧ u.link.reports = s.link.reports ++ [.event .duplicateStation]
      ∧ u.floor.own.state = .free ∧ u.floor.own.claim = none
      ∧ u.floor.peers.map Peer.station = s.floor.peers.map Peer.station ∧ BesidesHallKept s u := by
  have hexec := exec_bitError (t := t) (rest := some bits) hawake hdriving
  have hstate := abandoned_state f (s.arrive t)
  have hoffline : ((s.arrive t).abandoned f).hall.line ≠ .silent := by
    rw [abandoned_line]
    exact nofun
  obtain ⟨⟨-, -, -, -, -, -, -, -, hreceived, -, herrors⟩, hpower, -, hstraps, hpeers, hsame, hlistening, hbeside⟩ :=
    abandoned_fields f (s.arrive t)
  rw [faultAtRun_of_few (s := s.arrive t) f hfew, restHeard_of_own hoffline hjudge (hown.trans (congrArg _ hstraps.symm))] at hexec
  generalize (s.arrive t).abandoned f = d at *
  have hdup : duplicateHeard (d.onHall (HallPort.goodHeard (d.after Config.stuck))) =
      enterFault .duplicate (d.onHall (HallPort.goodHeard (d.after Config.stuck))) :=
    duplicateHeard_of_up (s := d.onHall (HallPort.goodHeard (d.after Config.stuck))) (by rw [State.onHall_hall]; exact hstate ▸ hup)
  rw [hdup] at hexec
  obtain ⟨hhall, ⟨hfree, hclaim, -⟩, hstations, hlatches, hreports, hkept⟩ :=
    (enterFault_entered (s := d.onHall (HallPort.goodHeard (d.after Config.stuck))) .duplicate
      (by rw [State.onHall_power, hpower]; exact hcalm) ⟨hlistening.trans hfits.1, by
        rw [State.onHall_link, hsame]; exact hfits.2⟩).conclude
  refine ⟨_, hexec, ?_⟩
  rw [hhall]
  refine ⟨rfl, rfl, rfl, rfl, ?_, herrors, duplicateStation_of_besideMasked hlatches, ?_, hfree, hclaim, ?_, ?_⟩
  · exact congrArg (fun n => min 65535 (n + 1)) hreceived
  · exact hreports.trans (congrArg (· ++ [Report.event .duplicateStation]) hsame)
  · exact hstations.trans (congrArg (List.map Peer.station) hpeers)
  · exact besidesHallKept_of_besideLine (hkept.trans hbeside)

/-- The sixteenth error in a row is FAULT with cause ERRORS (R62, R67). -/
theorem bitError_entersFault (hmany : 15 ≤ s.hall.errorRun) (hup : s.hall.state.isUp = true) (hfits : ReportFits s) :
    let d := (s.arrive t).abandoned f
    exec (.bitError t rest) s = .next (conclude (restHeard rest (enterFault .errors d)))
      ∧ ReportFits d ∧ d.power = s.power ∧ d.now = s.instant t ∧ d.link.reports = s.link.reports := by
  obtain ⟨-, hpower, hnow, -, -, hsame, hlistening, -⟩ := abandoned_fields f (s.arrive t)
  refine ⟨?_, ⟨hlistening.trans hfits.1, by rw [hsame]; exact hfits.2⟩, hpower, hnow, hsame⟩
  rw [← faultAtRun_of_many (s := s.arrive t) f hmany hup]
  exact exec_bitError hawake hdriving

theorem bitError_faults (hmany : 15 ≤ s.hall.errorRun) (hup : s.hall.state.isUp = true) (hcalm : s.power.announcing = false)
    (hfits : ReportFits s) (hbad : ∀ bits g, rest = some bits → judge bits ≠ .good g) :
    ∃ u, exec (.bitError t rest) s = .next u
      ∧ u.hall.state = .fault .errors ∧ u.hall.errorRun = 0 ∧ u.hall.txList = [] ∧ u.hall.onLine = none
      ∧ u.hall.heartbeat = none ∧ u.hall.recovery = .scheduled ⟨s.instant t + 10000, 10000⟩
      ∧ u.hall.ownBitErrors = min 65535 (s.hall.ownBitErrors + 1)
      ∧ (rest = none → u.hall.line = .waitIdle ∧ u.hall.badFrames = s.hall.badFrames)
      ∧ (∀ bits, rest = some bits → u.hall.badFrames = min 65535 (s.hall.badFrames + 1))
      ∧ u.hall.framesReceived = s.hall.framesReceived
      ∧ u.link.latches.hallFault = true ∧ u.link.reports = s.link.reports ++ [.event .hallFault]
      ∧ u.floor.own.state = .free ∧ u.floor.own.claim = none ∧ u.floor.own.outgoing = none ∧ BesidesHallKept s u := by
  obtain ⟨hexec, hfits', hpower, hnow, hsame⟩ := bitError_entersFault (t := t) (rest := rest) hawake hdriving hmany hup hfits
  obtain ⟨⟨hline, -, -, -, -, -, -, -, hreceived, hcount, herrors⟩, -, -, -, -, -, -, hbeside⟩ := abandoned_fields f (s.arrive t)
  generalize (s.arrive t).abandoned f = d at *
  obtain ⟨hhall, ⟨hfree, hclaim, hout⟩, -, hlatches, hreports, -, -, hkept⟩ :=
    enterFault_entered .errors (by rw [hpower]; exact hcalm) hfits'
  generalize enterFault .errors d = w at *
  have hidle : w.hall.line = .waitIdle := by
    rw [hhall]
    simp [HallPort.faulted, hline, HallPort.bitFailed]
  obtain ⟨line, counting, watch, bad, hrest, hnone, hsome⟩ := restHeard_counts (s := w) (by rw [hidle]; exact nofun) hbad
  rw [hrest] at hexec
  generalize hv : w.onHall _ = v at hexec
  have hvhall : v.hall =
      { d.hall.faulted d.now .errors with line := line, idleCounting := counting, watch := watch, badFrames := bad } := by
    rw [← hv, ← hhall]
    rfl
  obtain ⟨huhall, hufloor⟩ := conclude_of_down (s := v) (by rw [hvhall]; rfl) (by rw [hvhall]; exact nofun)
  refine ⟨_, hexec, ?_⟩
  rw [huhall, hufloor, hvhall]
  subst hv
  refine ⟨rfl, rfl, rfl, rfl, rfl, ?_, herrors, fun h => ?_, fun bits h => ?_, hreceived, ?_, ?_, hfree, hclaim, hout,
    besidesHallKept_of_besideLine ((conclude_besideLine _).trans (hkept.trans hbeside))⟩
  · exact congrArg (fun n => Recovery.scheduled ⟨n + 10000, 10000⟩) hnow
  · obtain ⟨hl, hb⟩ := hnone h
    exact ⟨hl.trans hidle, hb.trans ((congrArg HallPort.badFrames hhall).trans hcount)⟩
  · exact (hsome bits h).trans (congrArg (fun n => min 65535 (n + 1)) ((congrArg HallPort.badFrames hhall).trans hcount))
  · exact hallFault_of_besideMasked ((conclude_amp_latch (s := w.onHall _)).2.trans (congrArg Latches.besideMasked hlatches))
  · exact (conclude_reports _).trans (hreports.trans (congrArg (· ++ [Report.event .hallFault]) hsame))

/-- The rest of a good frame of the own number, heard after the sixteenth error: the FAULT becomes one of cause DUPLICATE. -/
theorem bitError_faultsTwice {bits : List Bool} {g : HallFrame} (hmany : 15 ≤ s.hall.errorRun) (hjudge : judge bits = .good g)
    (hown : g.station.toNat = s.straps.station) (hup : s.hall.state.isUp = true) (hcalm : s.power.announcing = false)
    (hlistening : s.link.listening = true) (hroom : s.link.reports.length + 2 ≤ 16) :
    ∃ u, exec (.bitError t (some bits)) s = .next u
      ∧ u.hall.state = .fault .duplicate ∧ u.hall.recovery = .none_ ∧ u.hall.errorRun = 0 ∧ u.hall.txList = []
      ∧ u.hall.heartbeat = none ∧ u.hall.framesReceived = min 65535 (s.hall.framesReceived + 1)
      ∧ u.hall.ownBitErrors = min 65535 (s.hall.ownBitErrors + 1)
      ∧ u.link.latches.hallFault = true ∧ u.link.latches.duplicateStation = true
      ∧ u.link.reports = s.link.reports ++ [.event .hallFault, .event .duplicateStation]
      ∧ u.floor.own.state = .free ∧ u.floor.own.claim = none ∧ BesidesHallKept s u := by
  have hlimit : Config.reportLimit = 16 := rfl
  obtain ⟨hexec, hfits, hpower, -, hsame⟩ := bitError_entersFault (t := t) (rest := some bits) hawake hdriving hmany hup
    ⟨hlistening, by omega⟩
  obtain ⟨⟨hline, -, -, -, -, -, -, -, hreceived, -, herrors⟩, -, -, hstraps, -, -, -, hbeside⟩ :=
    abandoned_fields f (s.arrive t)
  have hstraps' : (enterFault .errors ((s.arrive t).abandoned f)).straps = s.straps :=
    (congrArg (fun x => x.2.2.1) (enterFault_env .errors _)).trans hstraps
  generalize (s.arrive t).abandoned f = d at *
  obtain ⟨hhall, ⟨hfree, hclaim, -⟩, -, hlatches, hreports, hheld, -, hkept⟩ :=
    enterFault_entered .errors (by rw [hpower]; exact hcalm) hfits
  generalize enterFault .errors d = w at *
  have hidle : w.hall.line = .waitIdle := by
    rw [hhall]
    simp [HallPort.faulted, hline, HallPort.bitFailed]
  rw [restHeard_of_own (by rw [hidle]; exact nofun) hjudge (hown.trans (congrArg _ hstraps'.symm))] at hexec
  generalize hr : w.onHall (HallPort.goodHeard (w.after Config.stuck)) = r at hexec
  have hdup : duplicateHeard r =
      tellFault .duplicate (r.onHall fun h =>
        { h.withoutPresence .recovery with state := .fault .duplicate, recovery := .none_ }) := by
    have hstate : r.hall.state = .fault .errors := by
      rw [← hr, State.onHall_hall, hhall]
      rfl
    unfold duplicateHeard
    rw [hstate]
  have hempty : r.hall.txList = [] := by
    rw [← hr, State.onHall_hall, hhall]
    rfl
  have hreports' : r.link.reports = s.link.reports ++ [.event .hallFault] := by
    rw [← hr]
    exact hreports.trans (congrArg (· ++ [Report.event .hallFault]) hsame)
  have hfits' : ReportFits r := by
    refine ⟨by rw [← hr]; exact hheld.trans hfits.1, ?_⟩
    rw [hreports', List.length_append, List.length_singleton, hlimit]
    omega
  rw [hdup, tellFault_eq .duplicate (s := r.onHall _) hfits'] at hexec
  generalize hv : State.onLink _ (r.onHall _) = v at hexec
  have hvhall : v.hall = { r.hall with state := .fault .duplicate, recovery := .none_ } := by
    rw [← hv, State.onLink_hall, State.onHall_hall, withoutPresence_of_nil hempty]
  obtain ⟨huhall, hufloor⟩ := conclude_of_down (s := v) (by rw [hvhall]; rfl) (by rw [hvhall]; exact nofun)
  refine ⟨_, hexec, ?_⟩
  rw [huhall, hufloor, hvhall, conclude_reports]
  subst hv hr
  have hlatch := (conclude_amp_latch (s := State.onLink (fun l =>
    { l with latches := FaultCause.duplicate.latched l.latches, reports := l.reports ++ [FaultCause.duplicate.report] })
    ((w.onHall (HallPort.goodHeard (w.after Config.stuck))).onHall fun h =>
      { h.withoutPresence .recovery with state := .fault .duplicate, recovery := .none_ }))).2
  refine ⟨rfl, rfl, ?_, hempty, ?_, ?_, ?_, ?_, duplicateStation_of_besideMasked hlatch, ?_, hfree, hclaim,
    besidesHallKept_of_besideLine ((conclude_besideLine _).trans (hkept.trans hbeside))⟩
  · exact congrArg HallPort.errorRun hhall
  · exact congrArg HallPort.heartbeat hhall
  · exact congrArg (fun n => min 65535 (n + 1)) ((congrArg HallPort.framesReceived hhall).trans hreceived)
  · exact (congrArg HallPort.ownBitErrors hhall).trans herrors
  · exact (hallFault_of_besideMasked hlatch).trans (congrArg Latches.hallFault hlatches)
  · exact (congrArg (· ++ [Report.event .duplicateStation]) hreports').trans (List.append_assoc ..)

/-- The announcement of an entry to SLEEP ends at the sixteenth error: the part enters SLEEP, and hears no rest (R71, R185). -/
theorem bitError_sleeps (hmany : 15 ≤ s.hall.errorRun) (hup : s.hall.state.isUp = true) (hannouncing : s.power.announcing = true)
    (hfits : ReportFits s) :
    ∃ u, exec (.bitError t rest) s = .next u
      ∧ u.power.mode = .sleep ∧ u.power.announcing = false ∧ u.power.amp = .off ∧ u.hall.line = .silent
      ∧ u.hall.state = .fault .errors ∧ u.hall.errorRun = 0 ∧ u.hall.txList = [] ∧ u.hall.onLine = none
      ∧ u.hall.heartbeat = none ∧ u.hall.recovery = .none_ ∧ u.hall.finalTimer = none
      ∧ u.hall.ownBitErrors = min 65535 (s.hall.ownBitErrors + 1) ∧ u.hall.badFrames = s.hall.badFrames
      ∧ u.link.latches.hallFault = true ∧ u.link.reports = s.link.reports ++ [.event .hallFault]
      ∧ u.floor.own.state = .free ∧ u.floor.own.claim = none ∧ u.floor.own.outgoing = none
      ∧ EstimateKept s u ∧ PanelKept s u ∧ SettingsKept s u ∧ QueueKept s u ∧ StoreKept s u := by
  obtain ⟨hexec, hfits', hpower, -, hsame⟩ := bitError_entersFault (t := t) (rest := rest) hawake hdriving hmany hup hfits
  obtain ⟨⟨-, -, -, -, -, -, -, -, -, hcount, herrors⟩, -, -, -, -, -, -, hbeside⟩ := abandoned_fields f (s.arrive t)
  generalize (s.arrive t).abandoned f = d at *
  obtain ⟨hhall, ⟨hfree, hclaim, -⟩, -, hlatches, hreports, -, hpower', hkept⟩ := tellFault_floorFault .errors hfits'
  have henters : enterFault .errors d = announcementEnds (tellFault .errors (floorFault (d.onHall (HallPort.faulted d.now .errors)))) :=
    rfl
  rw [henters] at hexec
  generalize tellFault .errors (floorFault (d.onHall (HallPort.faulted d.now .errors))) = w at *
  have hends : announcementEnds w = enterSleep w := if_pos (by rw [hpower', hpower, hannouncing])
  have hmode : w.power.mode ≠ .sleep := by
    rw [hpower', hpower]
    exact hawake
  obtain ⟨hestimate, hpanel, hsettings, hqueue, hstore⟩ := enterSleep_keeps hmode (hkept.trans hbeside)
  have hdeaf : restHeard rest (enterSleep w) = enterSleep w := by
    obtain ⟨framer, n, hsleep⟩ := enterSleep_eq hmode
    cases rest with
    | none => rfl
    | some bits => exact if_pos (by rw [hsleep]; rfl)
  have hstays : conclude (enterSleep w) = enterSleep w := conclude_of_asleep (by
    obtain ⟨framer, n, hsleep⟩ := enterSleep_eq hmode
    rw [hsleep]
    rfl)
  rw [hends, hdeaf, hstays] at hexec
  refine ⟨_, hexec, ?_⟩
  obtain ⟨framer, n, hsleep⟩ := enterSleep_eq hmode
  rw [hsleep] at hestimate hpanel hsettings hqueue hstore ⊢
  refine ⟨rfl, rfl, rfl, rfl, ?_, ?_, rfl, rfl, rfl, rfl, rfl, ?_, ?_, ?_, ?_, hfree, hclaim, rfl, hestimate, hpanel, hsettings,
    hqueue, hstore⟩
  · exact congrArg HallPort.state hhall
  · exact congrArg HallPort.errorRun hhall
  · exact (congrArg HallPort.ownBitErrors hhall).trans herrors
  · exact (congrArg HallPort.badFrames hhall).trans hcount
  · exact congrArg Latches.hallFault hlatches
  · exact hreports.trans (congrArg (· ++ [Report.event .hallFault]) hsame)

end

/-! ARBITRATION_LOSS (R61). -/

section
variable {t : Nat} {s : State} (hawake : s.power.mode ≠ .sleep)
include hawake

theorem arbitrationLoss_waits {f : TxFrame} (hdriving : Driving s f) (hstands : s.claimTakenBack = false)
    (hr : s.hall.recovery ≠ .waiting) :
    ∃ u, exec (.arbitrationLoss t) s = .next u
      ∧ u.hall.line = .receiving ∧ u.hall.onLine = none
      ∧ ListIs (s.hall.txList.map fun x => ⟨x.frame, false⟩) s u
      ∧ u.hall.ownBitErrors = s.hall.ownBitErrors ∧ u.hall.errorRun = s.hall.errorRun ∧ u.hall.state = s.hall.state
      ∧ u.hall.framesReceived = s.hall.framesReceived ∧ u.hall.badFrames = s.hall.badFrames
      ∧ ViewKept s u ∧ ReportsKept s u ∧ BesidesHallKept s u := by
  have hsame : s.frameFailed t f HallPort.outbid id = (s.arrive t).onHall HallPort.outbid :=
    dropTakenBack_of_standing (s := (s.arrive t).onHall HallPort.outbid) fun _ _ => hstands
  have hlist := listIs_of_standing (t := t) (f := f) HallPort.outbid_waits .id hawake (fun _ _ => hstands) hr
  have hexec := exec_arbitrationLoss t hawake hdriving
  rw [hsame] at hexec hlist
  obtain ⟨⟨hline, -, honline, hstate, hrun, -, -, -, hreceived, hbad, herrors⟩, hview, hreports, hbesides⟩ :=
    conclude_onHall s t HallPort.outbid
  exact ⟨_, hexec, hline, honline, hlist, herrors, hrun, hstate, hreceived, hbad, hview, hreports, hbesides⟩

theorem arbitrationLoss_withdrawn {c : ClaimContent} {o : Outgoing} (hdriving : Driving s (.claim c))
    (ho : s.floor.own.outgoing = some o) (hback : o.takenBack = .withdrawn) (hpending : s.floor.own.pendingClaim = none)
    (hnothing : NothingToSelect s) :
    ∃ u, exec (.arbitrationLoss t) s = .next u
      ∧ u.hall.line = .receiving ∧ (∀ x ∈ u.hall.txList, x.isClaim = false) ∧ u.floor.own.outgoing = none
      ∧ u.hall.ownBitErrors = s.hall.ownBitErrors ∧ u.hall.errorRun = s.hall.errorRun ∧ u.hall.state = s.hall.state
      ∧ u.hall.framesReceived = s.hall.framesReceived ∧ u.hall.badFrames = s.hall.badFrames
      ∧ ViewKept s u ∧ ReportsKept s u ∧ BesidesHallKept s u := by
  have hdropped := dropTakenBack_of_withdrawn (s := (s.arrive t).onHall HallPort.outbid) c ho hback
  have hd := dropTakenBack_dropped (.claim c) ((s.arrive t).onHall HallPort.outbid)
  have hexec := exec_arbitrationLoss t hawake hdriving
  have hsame : s.frameFailed t (.claim c) HallPort.outbid id = ((s.arrive t).onHall HallPort.outbid).claimDropped :=
    hdropped.trans (promotePending_of_none (s := ((s.arrive t).onHall HallPort.outbid).claimDropped) hpending)
  obtain ⟨⟨hline, -, -, hstate, hrun, -, -, -, hreceived, hbad, herrors⟩, hreports, hbesides⟩ := hd.kept .id
  have hrest := conclude_of_nothing (s := ((s.arrive t).onHall HallPort.outbid).claimDropped) hawake hnothing
  have hfailed : dropTakenBack (.claim c) ((s.arrive t).onHall HallPort.outbid) =
      ((s.arrive t).onHall HallPort.outbid).claimDropped := hsame
  rw [hsame] at hexec
  rw [hfailed] at hline hstate hrun hreceived hbad herrors hreports hbesides
  refine ⟨_, hexec, hline, ?_, ?_, herrors, hrun, hstate, hreceived, hbad, conclude_viewKept rfl, hreports, hbesides⟩
  · rw [hrest.1]
    refine isClaim_of_startWaitingRecovery fun x hx => ?_
    simpa using (List.mem_filter.mp hx).2
  · rw [hrest.2]
    rfl

theorem arbitrationLoss_takenBack {c : ClaimContent} {o : Outgoing} (hdriving : Driving s (.claim c))
    (ho : s.floor.own.outgoing = some o) (hr : s.hall.recovery ≠ .waiting) :
    ∃ u, exec (.arbitrationLoss t) s = .next u
      ∧ u.hall.line = .receiving ∧ u.hall.onLine = none
      ∧ (o.takenBack = .outranked →
          ListIs ((s.hall.txList.filter fun x => !x.isClaim).map fun x => ⟨x.frame, false⟩) s u
            ∧ u.floor.claimsLost = min 65535 (s.floor.claimsLost + 1)
            ∧ (u.floor.own.state = .free ∨ u.floor.own.state = .claiming))
      ∧ (o.takenBack = .withdrawn → u.floor.claimsLost = s.floor.claimsLost)
      ∧ (∀ p, o.takenBack = .withdrawn → s.floor.own.pendingClaim = some p → s.hall.state.isFault = false →
          u.hall.txList = ((s.hall.txList.filter fun x => !x.isClaim).map fun x => ⟨x.frame, false⟩) ++ [⟨.claim p, false⟩]
            ∧ u.floor.own.outgoing = some ⟨p, .no⟩)
      ∧ u.hall.ownBitErrors = s.hall.ownBitErrors ∧ u.hall.errorRun = s.hall.errorRun ∧ u.hall.state = s.hall.state
      ∧ u.hall.framesReceived = s.hall.framesReceived ∧ u.hall.badFrames = s.hall.badFrames
      ∧ u.floor.peers = s.floor.peers ∧ u.floor.own.claim = s.floor.own.claim
      ∧ u.floor.claimsSent = s.floor.claimsSent ∧ u.floor.claimsConfirmed = s.floor.claimsConfirmed
      ∧ u.floor.overlaps = s.floor.overlaps ∧ ReportsKept s u ∧ BesidesHallKept s u := by
  have hd := dropTakenBack_dropped (.claim c) ((s.arrive t).onHall HallPort.outbid)
  obtain ⟨⟨hline, -, honline, hstate, hrun, -, -, -, hreceived, hbad, herrors⟩, hreports, hbesides⟩ := hd.kept .id
  obtain ⟨hpeers, hclaim, hsent, hconfirmed, hoverlaps⟩ := hd.viewParts (g := id)
  refine ⟨_, exec_arbitrationLoss t hawake hdriving, hline, honline, fun h => ?_, fun h => ?_, fun p h hp hfault => ?_, herrors, hrun,
    hstate, hreceived, hbad, hpeers, hclaim, hsent, hconfirmed, hoverlaps, hreports, hbesides⟩
  · obtain ⟨hlist, hlost, hfree⟩ := frameFailed_outranked (t := t) (c := c) HallPort.outbid_waits .id hawake ho h
    exact ⟨hlist hr, hlost, hfree⟩
  · exact claimsLost_of_view (frameFailed_withdrawn (t := t) (c := c) HallPort.outbid_waits .id hawake ho h).1
  · obtain ⟨-, -, hjoins⟩ := frameFailed_withdrawn (t := t) (c := c) HallPort.outbid_waits .id hawake ho h
    exact hjoins p hp hr hfault

end

theorem min_errorRun {n : Nat} (h : n < 15) : min 16 (n + 1) = n + 1 := by omega

/-- Settles O36. -/
theorem framesThatFailWaitAgain : Obligations.FramesThatFailWaitAgain := by
  refine ⟨fun t s f hawake hdriving hstands hr => arbitrationLoss_waits hawake hdriving hstands hr,
    fun t s c o hawake hdriving ho hback hpending hnothing =>
      arbitrationLoss_withdrawn hawake hdriving ho hback hpending hnothing,
    fun t s c o hawake hdriving ho _ hr => arbitrationLoss_takenBack hawake hdriving ho hr,
    fun t s f hawake hdriving hfew => ?_, fun t s f bits hawake hdriving hfew hbad => ?_,
    fun t s f bits g hawake hdriving hfew hjudge hown hup hcalm hfits =>
      bitError_duplicate hawake hdriving hfew hjudge hown hup hcalm hfits,
    fun t s f rest hawake hdriving hmany hup hcalm hfits hbad => bitError_faults hawake hdriving hmany hup hcalm hfits hbad,
    fun t s f bits g hawake hdriving hmany hjudge hown hup hcalm hlistening hroom =>
      bitError_faultsTwice hawake hdriving hmany hjudge hown hup hcalm hlistening hroom,
    fun t s f rest hawake hdriving hmany hup hannouncing hfits => bitError_sleeps hawake hdriving hmany hup hannouncing hfits⟩
  · obtain ⟨u, hexec, ⟨hline, -, honline, hstate, hrun, -, -, -, hreceived, -, herrors⟩, hleaves, hpeers, hreports, hbesides⟩ :=
      bitError_waits (t := t) (rest := none) hawake hdriving hfew .id rfl
    exact ⟨u, hexec, hline, honline, herrors, hrun.trans (min_errorRun hfew), hleaves, hstate, hreceived, hpeers, hreports,
      hbesides⟩
  · obtain ⟨counting, watch, hheard, hearly, hlate⟩ := restHeard_of_bad (s := (s.arrive t).abandoned f)
      (by rw [abandoned_line]; exact nofun) hbad
    obtain ⟨u, hexec, ⟨hline, hidle, -, hstate, hrun, -, -, -, hreceived, hcount, herrors⟩, hleaves, hpeers, hreports, hbesides⟩ :=
      bitError_waits hawake hdriving hfew (HallPort.badHeard_lineOnly counting watch) hheard
    refine ⟨u, hexec, fun hb => ?_, fun hc => ⟨?_, ?_⟩, hcount, hreceived, herrors, hrun.trans (min_errorRun hfew), hleaves, hstate,
      hpeers, hreports, hbesides⟩
    · rw [hline, hearly hb]
      rfl
    · rw [hline, hlate hc]
      rfl
    · rw [hidle, hlate hc]
      rfl

end Sys2Proof.Machine
end

section
/-! OWN_PRESENCE_SENT and FINAL_PRESENCE_TIMEOUT (R63, R68, R71, R185). -/

namespace Sys2Proof.Machine
open Sys2Proof Safety

/-- A heartbeat that a later PRESENCE has replaced in the list is still the frame on the line (log 32). -/
theorem sendingFrame_of_replaced {s : State} {g : HallFrame} (hline : s.hall.line = .sending) (hdriven : s.hall.driven = none)
    (honline : s.hall.onLine = some g) : s.hall.sendingFrame = some (.presence .heartbeat) := by
  unfold HallPort.sendingFrame
  rw [if_pos hline, hdriven, honline]
  rfl

theorem withoutDriven_of_none {h : HallPort} (hdriven : h.driven = none) : withoutDriven h.txList = h.txList := by
  have hwaits : ∀ x ∈ h.txList, x.driving = false := by simpa [HallPort.driven] using hdriven
  exact List.filter_eq_self.mpr fun x hx => by simp [TxEntry.waits, hwaits x hx]

theorem ownPresenceGoes_of_heartbeat {s : State} (h : s.hall.sendingFrame = some (.presence .heartbeat)) :
    ownPresenceGoes s = s.onHall (HallPort.wentThrough s.now) := by
  unfold ownPresenceGoes
  rw [h]

/-- The hall line once a recovery PRESENCE has gone through. -/
theorem ownPresenceGoes_of_recovery {s : State} (hdriving : Driving s (.presence .recovery)) (hfits : ReportFits s) :
    ownPresenceGoes s =
      (s.onHall fun h =>
        { h.wentThrough s.now with
          state := .listenIn ⟨s.now + 2500, 2500⟩, heartbeat := some ⟨s.now + 100 * s.straps.station, 100 * s.straps.station⟩
          recovery := .none_ }).onLink fun l => { l with reports := l.reports ++ [.event .hallRestored] } := by
  have hgoes : ownPresenceGoes s = hallRestored (s.onHall (HallPort.wentThrough s.now)) := by
    unfold ownPresenceGoes
    rw [sendingFrame_of_driving hdriving]
  exact hgoes.trans (report_of_room (s := enterListenIn (s.onHall (HallPort.wentThrough s.now))) hfits _)

/-- An announcement that ends with a change `f` of the port puts the part to SLEEP (R71, R185). -/
theorem announcementEnds_asleep {s : State} (t : Nat) (f : HallPort → HallPort) (hawake : s.power.mode ≠ .sleep)
    (hannouncing : s.power.announcing = true) :
    let u := conclude (announcementEnds ((s.arrive t).onHall f))
    u.power.mode = .sleep ∧ u.power.announcing = false ∧ u.power.amp = .off ∧ u.power.dim = none
      ∧ u.hall.line = .silent ∧ u.hall.txList = [] ∧ u.hall.onLine = none ∧ u.hall.heartbeat = none
      ∧ u.hall.recovery = .none_ ∧ u.hall.finalTimer = none ∧ u.hall.state = (f s.hall).state
      ∧ u.level.sampleDue = none ∧ u.rem.secondPhase = none ∧ u.display.brightness = 0
      ∧ EstimateKept s u ∧ PanelKept s u ∧ SettingsKept s u ∧ ReportsKept s u ∧ QueueKept s u ∧ StoreKept s u
      ∧ u.floor.peers = s.floor.peers := by
  have hends : announcementEnds ((s.arrive t).onHall f) = enterSleep ((s.arrive t).onHall f) := if_pos hannouncing
  obtain ⟨hestimate, hpanel, hsettings, hqueue, hstore⟩ := enterSleep_keeps (s := s) (w := (s.arrive t).onHall f) hawake rfl
  obtain ⟨framer, n, hsleep⟩ := enterSleep_eq (s := (s.arrive t).onHall f) hawake
  have hstays : conclude (enterSleep ((s.arrive t).onHall f)) = enterSleep ((s.arrive t).onHall f) :=
    conclude_of_asleep (by rw [hsleep]; rfl)
  rw [hends, hstays]
  rw [hsleep] at hestimate hpanel hsettings hqueue hstore ⊢
  exact ⟨rfl, rfl, rfl, rfl, rfl, rfl, rfl, rfl, rfl, rfl, rfl, rfl, rfl, rfl, hestimate, hpanel, hsettings, ⟨rfl, rfl, rfl⟩, hqueue,
    hstore, rfl⟩

theorem ownPresenceGoes_of_final {s : State} (hdriving : Driving s (.presence .final)) :
    ownPresenceGoes s = announcementEnds (s.onHall fun h => { h.wentThrough s.now with finalTimer := none }) := by
  unfold ownPresenceGoes
  rw [sendingFrame_of_driving hdriving]
  rfl

theorem finalTimesOut_of_due {s : State} {tm : Timer} (htimer : s.hall.finalTimer = some tm) (hdue : tm.due ≤ s.now) :
    finalTimesOut s = announcementEnds (s.onHall fun h => { h.withoutPresence .final with finalTimer := none }) := by
  unfold finalTimesOut
  rw [htimer]
  exact if_pos (Timer.reached_of_due hdue)

theorem withoutPresence_state (k : PresenceKind) (h : HallPort) : (h.withoutPresence k).state = h.state := by
  unfold HallPort.withoutPresence
  split <;> rfl

/-- Settles O39. -/
theorem ownPresenceSentTakesEffect : Obligations.OwnPresenceSentTakesEffect := by
  refine ⟨fun t s hawake hdriving => ?_, fun t s g hawake hline hdriven honline => ?_, fun t s hawake hdriving hfits => ?_,
    fun t s hawake hdriving hannouncing => ?_, fun t s tm hawake htimer hdue hannouncing => ?_⟩
  · have hgoes := ownPresenceGoes_of_heartbeat (s := s.arrive t) (sendingFrame_of_driving hdriving)
    obtain ⟨⟨-, -, honline, hstate, hrun, hbeat, -⟩, hview, hreports, hbesides⟩ :=
      conclude_onHall s t (HallPort.wentThrough (s.instant t))
    exact ⟨_, (concluding_of_awake hawake t _).trans (by rw [hgoes]; rfl), hrun, honline, hstate, hbeat, hview, hreports, hbesides⟩
  · have hgoes := ownPresenceGoes_of_heartbeat (s := s.arrive t) (sendingFrame_of_replaced hline hdriven honline)
    obtain ⟨⟨-, -, honline', hstate, hrun, hbeat, -⟩, hview, hreports, hbesides⟩ :=
      conclude_onHall s t (HallPort.wentThrough (s.instant t))
    refine ⟨_, (concluding_of_awake hawake t _).trans (by rw [hgoes]; rfl), hrun, honline', hstate, hbeat, fun hnothing hr => ?_,
      hview, hreports, hbesides⟩
    rw [conclude_hall_of_nothing (s := (s.arrive t).onHall (HallPort.wentThrough (s.instant t))) hawake hnothing hr]
    exact withoutDriven_of_none hdriven
  · have hgoes := ownPresenceGoes_of_recovery (s := s.arrive t) hdriving hfits
    refine ⟨_, (concluding_of_awake hawake t _).trans (by rw [hgoes]), ?_⟩
    generalize hw : State.onLink _ _ = w
    obtain ⟨-, -, -, hstate, hrun, hbeat, -⟩ := lineKept_of_outside (conclude_outside w)
    have hrecovery : (conclude w).hall.recovery = w.hall.recovery := conclude_recovery (by rw [← hw]; exact nofun)
    have hreports := conclude_reports w
    have hlatch := hallFault_of_besideMasked (conclude_amp_latch (s := w)).2
    have hbeside := conclude_besideLine w
    subst hw
    exact ⟨hstate, hbeat, hrecovery, hrun, hreports, hlatch, conclude_viewKept rfl, besidesHallKept_of_besideLine hbeside⟩
  · have hends := announcementEnds_asleep t (fun h => { h.wentThrough (s.instant t) with finalTimer := none }) hawake hannouncing
    obtain ⟨hmode, hcalm, hamp, -, hline, hlist, -, -, -, htimer, -, hsample, hsecond, -, hestimate, hpanel, hsettings, hreports,
      hqueue, hstore, -⟩ := hends
    exact ⟨_, (concluding_of_awake hawake t _).trans (by rw [ownPresenceGoes_of_final (s := s.arrive t) hdriving]; rfl), hmode,
      hcalm, hamp, hline, hlist, htimer, hsample, hsecond, hestimate, hpanel, hsettings, hreports, hqueue, hstore⟩
  · have hends := announcementEnds_asleep t (fun h => { h.withoutPresence .final with finalTimer := none }) hawake hannouncing
    obtain ⟨hmode, hcalm, hamp, hdim, hline, hlist, honline, hbeat, hrecovery, htimer', hstate, hrest⟩ := hends
    exact ⟨_, (concluding_of_awake hawake t _).trans (by rw [finalTimesOut_of_due (s := s.arrive t) htimer hdue]), hmode, hcalm, hamp,
      hdim, hline, hlist, honline, hbeat, hrecovery, htimer', hstate.trans (withoutPresence_state .final s.hall), hrest⟩

end Sys2Proof.Machine
end

section
/-! The SLEEP cue (R71, R184, R185). -/

namespace Sys2Proof.Machine
open Sys2Proof Safety

/-! The announcement of an entry to SLEEP stands through a selection. -/

theorem setMode_announcing (m : PowerMode) (s : State) : (setMode m s).power.announcing = s.power.announcing := by
  unfold setMode
  split <;> rfl

theorem activity_announcing (s : State) : (activity s).power.announcing = s.power.announcing := by
  unfold activity
  split
  · rfl
  · exact setMode_announcing .active s

theorem startAudible_announcing (tag : Nat) (route : Route) (script : Script) (s : State) :
    (startAudible tag route script s).power.announcing = s.power.announcing := by
  unfold startAudible
  split
  · rfl
  · dsimp only
    split
    · unfold beginWarmUp
      dsimp only
      split <;> exact (congrArg Power.announcing (postText_power ..)).trans (activity_announcing _)
    · rw [beginOutput_power, postText_power]
      exact activity_announcing _

theorem startSilent_announcing (tag : Nat) (script : Script) (s : State) :
    (startSilent tag script s).power.announcing = s.power.announcing := by
  unfold startSilent
  split
  · rfl
  · dsimp only
    rw [changeService_power, postText_power]
    exact activity_announcing _

theorem takeEntry_announcing (e : Entry) (s : State) : (takeEntry e s).power.announcing = s.power.announcing := by
  unfold takeEntry
  dsimp only
  split
  · exact startSilent_announcing ..
  · split
    · rw [(requestClaim_power_link ..).1]
      rfl
    · exact startAudible_announcing ..

theorem select_announcing (s : State) : (select s).power.announcing = s.power.announcing := by
  unfold select
  split
  · rfl
  · dsimp only
    split
    · exact takeEntry_announcing _ (s.onSeq fun q => { q with askedAt := s.now })
    · rfl

theorem conclude_announcing {s : State} (hawake : s.power.mode ≠ .sleep) :
    (conclude s).power.announcing = s.power.announcing := by
  have hpower : (conclude s).besideHolds.power = (select (startWaitingRecovery s)).besideHolds.power :=
    congrArg State.power (conclude_besideHolds hawake)
  have hsame : (conclude s).power.announcing = (select (startWaitingRecovery s)).power.announcing :=
    (congrArg Power.announcing hpower : _)
  rw [hsame, select_announcing, startWaitingRecovery_power]

/-! The final PRESENCE. -/

theorem mem_joinPresence_final (l : List TxEntry) :
    (∃ x ∈ joinPresence .final l, x.frame = .presence .final)
      ∧ ((∀ x ∈ l, x.frame ≠ .presence .final) → ⟨.presence .final, false⟩ ∈ joinPresence .final l) := by
  by_cases h : ∃ x ∈ l, x.frame = .presence .final
  · rw [joinPresence_of_final h]
    obtain ⟨x, hx, hfinal⟩ := h
    exact ⟨⟨x, hx, hfinal⟩, fun hnone => absurd hfinal (hnone x hx)⟩
  · have hnone : ∀ x ∈ l, x.frame ≠ .presence .final := by simpa using h
    rw [joinPresence_of_noFinal hnone]
    exact ⟨⟨_, List.mem_append_right _ (List.mem_singleton.mpr rfl), rfl⟩,
      fun _ => List.mem_append_right _ (List.mem_singleton.mpr rfl)⟩

/-- A recovery attempt that starts beside a final PRESENCE leaves the list (log 16). -/
theorem startWaitingRecovery_txList_of_final {s : State} (h : ∃ x ∈ s.hall.txList, x.frame = .presence .final) :
    (startWaitingRecovery s).hall.txList = s.hall.txList := by
  unfold startWaitingRecovery
  split
  · exact joinPresence_of_final h .recovery
  · rfl

/-! The cue. -/

theorem sleepCue_activity {s : State} (hawake : s.power.mode ≠ .sleep) :
    ∃ p d, cueActivity 0x0B#8 [] s = s.stirred p d ∧ StirredFrom s p d ∧ p.announcing = s.power.announcing := by
  obtain ⟨p, d, hact, hstirred⟩ := cueActivity_cases 0x0B#8 [] hawake
  have hsame : (cueActivity 0x0B#8 [] s).power.announcing = s.power.announcing := activity_announcing s
  rw [hact] at hsame
  exact ⟨p, d, hact, hstirred, hsame⟩

theorem Four.mem_list {α : Type} {f : Four α} {x : α} : x ∈ f.list ↔ ∃ n, f.get n = x := by
  constructor
  · intro h
    simp only [Four.list, List.mem_cons, List.not_mem_nil, or_false] at h
    rcases h with rfl | rfl | rfl | rfl
    · exact ⟨0, rfl⟩
    · exact ⟨1, rfl⟩
    · exact ⟨2, rfl⟩
    · exact ⟨3, rfl⟩
  · rintro ⟨n, rfl⟩
    unfold Four.get Four.list
    split <;> simp

theorem StirredFrom.speaker {s : State} {p : Power} {d : Display} (h : StirredFrom s p d) : p.speaker = s.power.speaker :=
  congrArg Prod.fst h.lasting

theorem StirredFrom.check {s : State} {p : Power} {d : Display} (h : StirredFrom s p d) : p.check = s.power.check :=
  congrArg (fun x : (Check × _) × _ => x.1.1) h.lasting

/-- The conditions of R184 on the state that the cue has stirred. -/
theorem maySleep_stirred {s : State} {t : Nat} {p : Power} {d : Display} (h : StirredFrom (s.arrive t) p d)
    (hannouncing : p.announcing = s.power.announcing) :
    ((s.arrive t).stirred p d).maySleep = true ↔
      s.panel.inSession = false ∧ s.seq.queue = [] ∧ s.panel.awaiting = [] ∧ (∀ n, s.rem.slots.get n = none)
        ∧ s.power.check = .idle ∧ s.power.announcing = false := by
  have hslots : ((s.arrive t).restartedSlots.list.all fun r => r.isNone) = true ↔ ∀ n, s.rem.slots.get n = none := by
    rw [List.all_eq_true]
    constructor
    · intro hall n
      have hnone := hall _ (Four.mem_list.mpr ⟨n, rfl⟩)
      rw [State.restartedSlots, Four.get_map, Option.isNone_map] at hnone
      exact Option.isNone_iff_eq_none.mp hnone
    · intro hnone r hr
      obtain ⟨n, rfl⟩ := Four.mem_list.mp hr
      rw [State.restartedSlots, Four.get_map, Option.isNone_map]
      exact Option.isNone_iff_eq_none.mpr (hnone n)
  have hcheck : p.check = s.power.check := h.check
  have hmay : ((s.arrive t).stirred p d).maySleep =
      (!s.panel.inSession && decide (s.seq.queue = []) && decide (s.panel.awaiting = [])
        && (s.arrive t).restartedSlots.list.all (fun r => r.isNone) && decide (p.check = .idle) && !p.announcing) := rfl
  rw [hmay, hcheck, hannouncing]
  simp only [Bool.and_eq_true, Bool.not_eq_true', decide_eq_true_eq, hslots, and_assoc]

theorem handleSleep_eq (s : State) : handleSleep s = if s.maySleep then .taken (sleepTaken s) else .refused .notIdle := rfl

/-- A SLEEP cue that R184 takes, on the state it has stirred. -/
theorem exec_sleep_taken (t : Nat) {s : State} (hready : CueReady s) (hmay : s.panel.inSession = false ∧ s.seq.queue = []
    ∧ s.panel.awaiting = [] ∧ (∀ n, s.rem.slots.get n = none) ∧ s.power.check = .idle ∧ s.power.announcing = false) :
    ∃ p d, StirredFrom (s.arrive t) p d ∧ exec (.sleep t [] []) s = .next (conclude (sleepTaken ((s.arrive t).stirred p d))) := by
  obtain ⟨p, d, hact, hstirred, hannouncing⟩ := sleepCue_activity (s := s.arrive t) hready.1
  refine ⟨p, d, hstirred, hearCue_taken hready (Nat.zero_le _) ?_⟩
  rw [hact, checkCue_of_length rfl]
  exact if_pos ((maySleep_stirred hstirred hannouncing).mpr hmay)

theorem exec_sleep_refused (t : Nat) {s : State} (hready : CueReady s) (hmay : ¬ (s.panel.inSession = false ∧ s.seq.queue = []
    ∧ s.panel.awaiting = [] ∧ (∀ n, s.rem.slots.get n = none) ∧ s.power.check = .idle ∧ s.power.announcing = false)) :
    ∃ p d, StirredFrom (s.arrive t) p d ∧ p.announcing = s.power.announcing
      ∧ exec (.sleep t [] []) s = .next (conclude (refuse 0x0B#8 0 .notIdle ((s.arrive t).stirred p d))) := by
  obtain ⟨p, d, hact, hstirred, hannouncing⟩ := sleepCue_activity (s := s.arrive t) hready.1
  have hrefused := hearCue_refused (t := t) (down := s.keysDown) (type := 0x0B#8) (payload := []) (r := .notIdle) hready
    (Nat.zero_le _) (by
      rw [hact, checkCue_of_length rfl]
      exact if_neg (mt (maySleep_stirred hstirred hannouncing).mp hmay))
  rw [hact] at hrefused
  exact ⟨p, d, hstirred, hannouncing, hrefused⟩

/-- The final PRESENCE is handed over, and the entry to SLEEP announced. -/
theorem sleepTaken_of_up {s : State} (hup : s.hall.state.isUp = true) :
    sleepTaken s =
      { s with
        power := { s.power with announcing := true }
        hall := { s.hall with txList := joinPresence .final s.hall.txList, finalTimer := some ⟨s.now + 100, 100⟩ } } := if_pos hup

theorem sleepTaken_of_down {s : State} (hdown : s.hall.state.isUp = false) : sleepTaken s = enterSleep s :=
  if_neg (by rw [hdown]; exact nofun)

/-- In LISTEN_IN and ON the final PRESENCE is on its way, and the part still awake. -/
theorem sleepTaken_announces {s w : State} {t : Nat} {p : Power} {d : Display} (hqueue : s.seq.queue = [])
    (hup : s.hall.state.isUp = true) (hstirred : StirredFrom (s.arrive t) p d) (hw : w = sleepTaken ((s.arrive t).stirred p d)) :
    let u := conclude w
    (u.power.announcing = true ∧ u.power.mode = .active ∧ u.hall.finalTimer = some ⟨s.instant t + 100, 100⟩
        ∧ (∃ x ∈ u.hall.txList, x.frame = .presence .final)
        ∧ ((∀ x ∈ s.hall.txList, x.frame ≠ .presence .final) → ⟨.presence .final, false⟩ ∈ u.hall.txList)
        ∧ u.hall.state = s.hall.state)
      ∧ EstimateKept s u ∧ PanelKept s u ∧ SettingsKept s u ∧ ReportsKept s u ∧ QueueKept s u ∧ StoreKept s u
      ∧ SpeakerKept s u ∧ StatusLineKept s u ∧ u.level.ring = s.level.ring ∧ u.floor.peers = s.floor.peers := by
  rw [sleepTaken_of_up (s := (s.arrive t).stirred p d) hup] at hw
  have hactive : w.power.mode = .active := by rw [hw]; exact hstirred.mode
  have hawake : w.power.mode ≠ .sleep := by rw [hactive]; exact nofun
  have hlist : w.hall.txList = joinPresence .final s.hall.txList := by rw [hw]; rfl
  obtain ⟨hfinal, hjoins⟩ := mem_joinPresence_final s.hall.txList
  rw [← hlist] at hfinal hjoins
  have hlist' : (conclude w).hall.txList = w.hall.txList := by
    rw [(conclude_of_nothing hawake (.inr (by rw [hw]; exact hqueue))).1, startWaitingRecovery_txList_of_final hfinal]
  obtain ⟨-, -, -, hstate, -, -, htimer, -⟩ := lineKept_of_outside (conclude_outside w)
  have hannouncing := conclude_announcing hawake
  have hpeers : (conclude w).floor.peers = w.floor.peers := congrArg Apart.peers (conclude_apart w)
  refine ⟨⟨?_, conclude_mode_active hactive, ?_, ?_, ?_, ?_⟩, estimateKept_conclude ?_, panelKept_conclude ?_,
    (settings_framer_conclude ?_).1, conclude_reportsKept ?_, conclude_queueKept (queueKept_of_seq ?_), storeKept_conclude ?_,
    speakerKept_conclude ?_, statusLineKept_conclude ?_, (levelKept_conclude ?_).1, hpeers.trans ?_⟩
  · rw [hannouncing, hw]
  · rw [htimer, hw]
    rfl
  · rw [hlist']
    exact hfinal
  · rw [hlist']
    exact hjoins
  · rw [hstate, hw]
    rfl
  all_goals rw [hw]
  · exact ⟨rfl, rfl, rfl⟩
  · rfl
  · rfl
  · exact ⟨rfl, rfl, rfl⟩
  · rfl
  · rfl
  · exact hstirred.speaker
  · exact hstirred.status
  · rfl
  · rfl

/-- In OFF and FAULT the part enters SLEEP at once. -/
theorem sleepTaken_sleeps {s : State} {t : Nat} {p : Power} {d : Display} (hdown : s.hall.state.isUp = false)
    (hstirred : StirredFrom (s.arrive t) p d) :
    let u := conclude (sleepTaken ((s.arrive t).stirred p d))
    (u.power.mode = .sleep ∧ u.power.amp = .off ∧ u.power.dim = none ∧ u.power.standby = none
        ∧ u.hall.line = .silent ∧ u.hall.txList = [] ∧ u.hall.heartbeat = none ∧ u.level.sampleDue = none
        ∧ u.rem.secondPhase = none ∧ u.display.brightness = 0)
      ∧ EstimateKept s u ∧ PanelKept s u ∧ SettingsKept s u ∧ ReportsKept s u ∧ QueueKept s u ∧ StoreKept s u
      ∧ SpeakerKept s u ∧ StatusLineKept s u ∧ u.level.ring = s.level.ring ∧ u.floor.peers = s.floor.peers := by
  have hmode : ((s.arrive t).stirred p d).power.mode ≠ .sleep := by
    rw [show ((s.arrive t).stirred p d).power.mode = .active from hstirred.mode]
    exact nofun
  obtain ⟨framer, n, hsleep⟩ := enterSleep_eq hmode
  have hspeaker := hstirred.speaker
  have hstatus := hstirred.status
  rw [sleepTaken_of_down (s := (s.arrive t).stirred p d) hdown, conclude_of_asleep (by rw [hsleep]; rfl), hsleep]
  refine ⟨⟨rfl, rfl, rfl, rfl, rfl, rfl, rfl, rfl, rfl, rfl⟩, ⟨rfl, rfl, rfl⟩, rfl, ⟨rfl, rfl, rfl⟩, ⟨rfl, rfl, rfl⟩,
    ⟨rfl, rfl, rfl, rfl, rfl⟩, ⟨rfl, rfl, rfl⟩, ?_, ?_, rfl, rfl⟩
  · exact speakerKept_of_apart hspeaker
  · exact statusLineKept_of_apart hstatus

/-- Settles O26. -/
theorem sleepCueIsTaken : Obligations.SleepCueIsTaken := by
  refine ⟨fun t s hready hsession hqueue hawaiting hslots hcheck hcalm => ?_, fun t s hready hfits hforbids => ?_⟩
  · have hnone : ∀ n, s.rem.slots.get n = none := fun n => by
      rw [hslots]
      unfold Four.get
      split <;> rfl
    obtain ⟨p, d, hstirred, hexec⟩ := exec_sleep_taken t hready ⟨hsession, hqueue, hawaiting, hnone, hcheck, hcalm⟩
    refine ⟨_, hexec, ?_⟩
    by_cases hup : s.hall.state.isUp = true
    · obtain ⟨hannounced, hkept⟩ := sleepTaken_announces hqueue hup hstirred rfl
      exact ⟨fun _ => hannounced, fun hdown => absurd (hup.symm.trans hdown) nofun, hkept⟩
    · obtain ⟨hasleep, hkept⟩ := sleepTaken_sleeps (Bool.eq_false_iff.mpr hup) hstirred
      exact ⟨fun hup' => absurd hup' hup, fun _ => hasleep, hkept⟩
  · have hmay : ¬ (s.panel.inSession = false ∧ s.seq.queue = [] ∧ s.panel.awaiting = [] ∧ (∀ n, s.rem.slots.get n = none)
        ∧ s.power.check = .idle ∧ s.power.announcing = false) := by
      rintro ⟨hsession, hqueue, hawaiting, hslots, hcheck, hcalm⟩
      rcases hforbids with h | h | h | ⟨n, r, h⟩ | h | h
      · exact absurd (hsession.symm.trans h) nofun
      · exact h hqueue
      · exact h hawaiting
      · exact absurd ((hslots n).symm.trans h) nofun
      · exact h hcheck
      · exact absurd (hcalm.symm.trans h) nofun
    obtain ⟨p, d, hstirred, hannouncing, hexec⟩ := exec_sleep_refused t hready hmay
    obtain ⟨hreports, hrefusals, hkept⟩ := cue_refused hstirred hfits 0x0B#8 0 .notIdle
    have hactive : (refuse 0x0B#8 0 .notIdle ((s.arrive t).stirred p d)).power.mode = .active := hstirred.mode
    have hcalm := conclude_announcing (s := refuse 0x0B#8 0 .notIdle ((s.arrive t).stirred p d)) (by rw [hactive]; exact nofun)
    have hframer : (conclude (refuse 0x0B#8 0 .notIdle ((s.arrive t).stirred p d))).link.framer = .hunt :=
      ((congrArg CueLink.framer (conclude_link _) : (conclude _).link.besideLatches.framer = _).trans
        (congrArg (fun a => a.link.framer) (report_apart _ _) : (report _ _).apart.link.framer = _)).trans hready.2.2
    exact ⟨_, hexec, hreports, hrefusals, hframer, conclude_mode_active hactive, hcalm.trans hannouncing, hkept⟩

end Sys2Proof.Machine
end

section
/-! WAKE, and the press that wakes (R72, R73, R112, R150, R169, R186). -/

namespace Sys2Proof.Machine
open Sys2Proof Safety

/-! The part wakes. -/

/-- The hall port on wake (R72). -/
def HallPort.woken (now station : Nat) (h : HallPort) : HallPort :=
  match h.state with
  | .off => h
  | .fault .duplicate => { h with line := .waitIdle, watch := ⟨now + 10, 10⟩ }
  | _ =>
    { h with
      line := .waitIdle, watch := ⟨now + 10, 10⟩, state := .listenIn ⟨now + 2500, 2500⟩
      heartbeat := some ⟨now + 100 * station, 100 * station⟩, recovery := .none_ }

theorem wakeHall_eq (s : State) : wakeHall s = s.onHall (HallPort.woken s.now s.straps.station) := by
  have hwoken : wakeHall s = { s with hall := HallPort.woken s.now s.straps.station s.hall } := by
    unfold wakeHall HallPort.woken
    cases hstate : s.hall.state with
    | off => rfl
    | listenIn tm => rfl
    | on => rfl
    | fault cause =>
      cases cause with
      | duplicate => simp only [State.onHall, hstate]; rfl
      | errors => rfl
      | stuck => rfl
  exact hwoken

/-- The wake by the fields it sets (R186). -/
theorem wakeUp_eq {s : State} (hasleep : s.power.mode = .sleep) :
    ∃ d, d.brightness = 15 ∧ d.statusLine = s.display.statusLine ∧ wakeUp s =
      { s with
        power := { s.power with mode := .active, dim := some ⟨s.now + 60000, 60000⟩ }
        display := d
        hall := s.hall.woken s.now s.straps.station
        floor := { s.floor with peers := [], own := { OwnFloor.reset with nextSeq := s.floor.own.nextSeq } }
        level := { s.level with ring := [], hold := .open_, sampleDue := some ⟨s.now + 250, 250⟩ }
        rem := { s.rem with secondPhase := if s.rem.running then some ⟨s.now + 1000, 1000⟩ else none } } := by
  have hmode : setMode .active s =
      (s.onPower fun p => { p with mode := .active }).onDisplay fun d => { d.restartCycles s.now with brightness := 15 } :=
    if_neg (by rw [hasleep]; exact nofun)
  refine ⟨{ s.display.restartCycles s.now with brightness := 15 }, rfl, rfl, ?_⟩
  unfold wakeUp
  rw [hmode]
  dsimp only
  rw [wakeHall_eq]
  simp only [State.onPower, State.onHall, State.onFloor, State.onLevel, State.onRem, State.onDisplay, clearView]
  rfl

/-! The key that wakes. -/

theorem Keys.set_get {α : Type} (ks : Keys α) (k : Key) : ks.set k (ks.get k) = ks := by cases k <;> rfl

theorem actLang_kept (long : Bool) (s : State) :
    (∃ rs l, (actLang long s).panel = { s.panel with language := l, repeats := rs })
      ∧ (actLang long s).now = s.now ∧ (actLang long s).power.mode = s.power.mode
      ∧ ∃ st, (actLang long s).apart = { s.apart with status := st } := by
  unfold actLang
  dsimp only
  generalize (if long = true then _ else _) = chosen
  split
  · obtain ⟨n, d, hlook⟩ := lookUpPhase_cases (s.onPanel fun p => { p with language := chosen })
    obtain ⟨rs, hpanel⟩ := internalPrompt_panel langPrompt (lookUpPhase (s.onPanel fun p => { p with language := chosen }))
    obtain ⟨-, -, hnow, hmode⟩ := internalPrompt_fields langPrompt (lookUpPhase (s.onPanel fun p => { p with language := chosen }))
    have hapart := internalPrompt_apart langPrompt (lookUpPhase (s.onPanel fun p => { p with language := chosen }))
    generalize internalPrompt _ _ = w at *
    rw [hlook] at hpanel hnow hmode hapart
    exact ⟨⟨rs, chosen, hpanel⟩, hnow, hmode, d.statusLine, hapart⟩
  · exact ⟨⟨s.panel.repeats, s.panel.language, rfl⟩, rfl, rfl, s.apart.status, rfl⟩

/-- What a key that comes up leaves, whatever LANG does at its classification. -/
theorem keyComesUp_kept (k : Key) (s : State) :
    (keyComesUp k s).panel.keys = s.panel.keys.set k .up ∧ (keyComesUp k s).panel.inputs = s.panel.inputs
      ∧ (keyComesUp k s).now = s.now ∧ (keyComesUp k s).power.mode = s.power.mode
      ∧ ∃ st, (keyComesUp k s).apart = { s.apart with status := st } := by
  unfold keyComesUp
  split
  next hup => exact ⟨by rw [← hup, Keys.set_get], rfl, rfl, rfl, s.apart.status, rfl⟩
  next tm _ =>
    unfold classifyPress
    rw [report_panel, report_now, report_power, report_apart]
    split
    · obtain ⟨⟨rs, l, hpanel⟩, hnow, hmode, st, hapart⟩ := actLang_kept (tm.late s.now) (setKey k .up s)
      exact ⟨congrArg Panel.keys hpanel, by rw [hpanel]; rfl, hnow, hmode, st, hapart⟩
    · exact ⟨rfl, rfl, rfl, rfl, s.apart.status, rfl⟩
  next => exact ⟨rfl, rfl, rfl, rfl, s.apart.status, rfl⟩
  next => exact ⟨rfl, rfl, rfl, rfl, s.apart.status, rfl⟩

/-- The input of the key that wakes, and the key UP. -/
def Panel.wokenBy (now : Nat) (k : Key) (p : Panel) : Panel :=
  { p with keys := p.keys.set k .up, inputs := p.inputs.set k ⟨true, ⟨now + 30, 30⟩⟩ }

/-- A key that is not held for LANG wakes the part: of the state nothing moves but the panel, and the report of the press that
it was held for. -/
theorem inputWakes_eq (k : Key) {s : State} (hlng : k = .lng → ∀ tm, s.panel.keys.lng ≠ .pressed tm) :
    ∃ l, inputWakes k s = { s with panel := s.panel.wokenBy s.now k, link := l } ∧ l.settled = s.link.settled
      ∧ ((∀ tm, s.panel.keys.get k ≠ .pressed tm) → l = s.link)
      ∧ ∀ tm, s.panel.keys.get k = .pressed tm → ReportFits s →
          l.reports = s.link.reports ++ [.key k (decide (tm.due + Config.tolerance tm.len < s.now))] := by
  have hsame (w : State) (hw : w = setKey k .up s) :
      setInput k true w = { s with panel := s.panel.wokenBy s.now k, link := s.link } := by rw [hw]; rfl
  unfold inputWakes keyComesUp
  split
  next hup =>
    have hset : setKey k .up s = s := by
      show { s with panel := { s.panel with keys := s.panel.keys.set k .up } } = s
      rw [← hup, Keys.set_get]
    exact ⟨s.link, hsame s hset.symm, rfl, fun _ => rfl, fun tm h => absurd (hup.symm.trans h) nofun⟩
  next tm hpressed =>
    have hother : k ≠ .lng := by
      rintro rfl
      exact hlng rfl tm hpressed
    have hclassify : classifyPress k (tm.late s.now) (setKey k .up s) = report (.key k (tm.late s.now)) (setKey k .up s) := by
      unfold classifyPress
      rw [if_neg hother]
    rw [hclassify]
    refine ⟨(report (.key k (tm.late s.now)) (setKey k .up s)).link, rfl, congrArg Apart.link (report_apart ..),
      fun h => absurd hpressed (h tm), fun tm' h hfits => ?_⟩
    obtain rfl : tm = tm' := by
      rw [hpressed] at h
      exact KeyState.pressed.inj h
    exact report_fits (s := setKey k .up s) hfits _
  next hlong => exact ⟨s.link, hsame _ rfl, rfl, fun _ => rfl, fun tm h => absurd (hlong.symm.trans h) nofun⟩
  next hblocked => exact ⟨s.link, hsame _ rfl, rfl, fun _ => rfl, fun tm h => absurd (hblocked.symm.trans h) nofun⟩

/-! What follows the wake. -/

/-- With nothing to select, what follows a step of an ACTIVE part whose dim time has just begun leaves that time. -/
theorem conclude_power_of_nothing {s : State} (hactive : s.power.mode = .active) (hdim : s.power.dim = some ⟨s.now + 60000, 60000⟩)
    (h : NothingToSelect s) :
    (conclude s).power.dim = s.power.dim ∧ (conclude s).power.amp = s.power.amp ∧ (conclude s).power.result = s.power.result := by
  obtain ⟨n, hconclude⟩ := conclude_eq_of_nothing (by rw [hactive]; exact nofun) h
  rw [hconclude]
  generalize hx : holdSampling ((startWaitingRecovery s).onSeq fun q => { q with askedAt := n }) = x
  have hpower : x.power = s.power := by
    rw [← hx, holdSampling_power, State.onSeq_power, startWaitingRecovery_power]
  have hnow : x.now = s.now := by
    have henv : x.env = s.env := by rw [← hx, holdSampling_env, State.onSeq_env, startWaitingRecovery_env]
    exact congrArg Prod.fst henv
  unfold holdTimers
  rw [hpower, hactive]
  split
  · exact ⟨by rw [State.onPower_power, hpower], by rw [State.onPower_power, hpower], by rw [State.onPower_power, hpower]⟩
  · split
    · refine ⟨?_, by rw [State.onPower_power, hpower], by rw [State.onPower_power, hpower]⟩
      rw [hdim, ← hnow]
      rfl
    · exact ⟨by rw [hpower], by rw [hpower], by rw [hpower]⟩

theorem conclude_display_of_nothing {s : State} (hawake : s.power.mode ≠ .sleep) (h : NothingToSelect s) :
    (conclude s).display = s.display := by
  obtain ⟨n, hselect⟩ := select_of_nothing (s := startWaitingRecovery s) (by rwa [NothingToSelect, startWaitingRecovery_seq])
  obtain ⟨x, l, hstart, -⟩ := startWaitingRecovery_onHall s
  have hdisplay : (conclude s).display = (select (startWaitingRecovery s)).display :=
    (besideHolds_fields (conclude_besideHolds hawake)).2.2.2.2.2.2.2.2.1
  rw [hdisplay, hselect, hstart]
  rfl

/-- The hall port that has woken, by the state it fell asleep in. -/
theorem woken_fields (now station : Nat) (h : HallPort) :
    (h.state = .off → (h.woken now station).state = .off ∧ (h.woken now station).line = h.line)
      ∧ (h.state = .fault .duplicate →
          (h.woken now station).state = .fault .duplicate ∧ (h.woken now station).line = .waitIdle)
      ∧ (h.state ≠ .off → h.state ≠ .fault .duplicate →
          (h.woken now station).state = .listenIn ⟨now + 2500, 2500⟩ ∧ (h.woken now station).line = .waitIdle
            ∧ (h.woken now station).heartbeat = some ⟨now + 100 * station, 100 * station⟩)
      ∧ (h.state ≠ .off → (h.woken now station).watch = ⟨now + 10, 10⟩) := by
  unfold HallPort.woken
  split
  next hoff =>
    exact ⟨fun _ => ⟨hoff, rfl⟩, fun hd => absurd (hoff.symm.trans hd) nofun, fun hne => absurd hoff hne, fun hne => absurd hoff hne⟩
  next hdup =>
    exact ⟨fun hoff => absurd (hdup.symm.trans hoff) nofun, fun _ => ⟨hdup, rfl⟩, fun _ hne => absurd hdup hne, fun _ => rfl⟩
  next hnoff hndup => exact ⟨fun h => absurd h hnoff, fun h => absurd h hndup, fun _ _ => ⟨rfl, rfl, rfl⟩, fun _ => rfl⟩

/-- The blocks beside the panel once the part has woken, where `x` is what the wake has made of them. -/
theorem wake_clauses {s w : State} {t : Nat} {p : Panel} {l : CueLink} (hasleep : s.power.mode = .sleep)
    (hnothing : NothingToSelect s) (hw : w = { wakeUp (s.arrive t) with panel := p, link := l })
    (hl : l.settled = s.link.settled) :
    let u := conclude w
    u.power.mode = .active ∧ u.power.dim = some ⟨s.instant t + 60000, 60000⟩ ∧ u.power.amp = s.power.amp
      ∧ u.power.result = s.power.result ∧ u.display.brightness = 15 ∧ u.floor.peers = []
      ∧ u.floor.own = { OwnFloor.reset with nextSeq := s.floor.own.nextSeq }
      ∧ u.level.ring = [] ∧ u.level.sampleDue = some ⟨s.instant t + 250, 250⟩
      ∧ u.rem = { s.rem with secondPhase := if s.rem.running then some ⟨s.instant t + 1000, 1000⟩ else none }
      ∧ (s.hall.state = .off → u.hall.state = .off ∧ u.hall.line = s.hall.line)
      ∧ (s.hall.state = .fault .duplicate → u.hall.state = .fault .duplicate ∧ u.hall.line = .waitIdle)
      ∧ (s.hall.state ≠ .off → s.hall.state ≠ .fault .duplicate →
          u.hall.state = .listenIn ⟨s.instant t + 2500, 2500⟩ ∧ u.hall.line = .waitIdle
            ∧ u.hall.heartbeat = some ⟨s.instant t + 100 * s.straps.station, 100 * s.straps.station⟩)
      ∧ (s.hall.state ≠ .off → u.hall.watch = ⟨s.instant t + 10, 10⟩)
      ∧ SettingsKept s u ∧ QueueKept s u ∧ StoreKept s u ∧ u.panel = p ∧ u.link.reports = l.reports
      ∧ u.link.early = l.early ∧ u.link.reportsLost = l.reportsLost := by
  obtain ⟨d, hbright, -, hwakes⟩ := wakeUp_eq (s := s.arrive t) hasleep
  rw [hwakes] at hw
  have hactive : w.power.mode = .active := by rw [hw]
  have hawake : w.power.mode ≠ .sleep := by rw [hactive]; exact nofun
  have hnothing' : NothingToSelect w := by rw [hw]; exact hnothing
  obtain ⟨hdim, hamp, hresult⟩ := conclude_power_of_nothing hactive (by rw [hw]) hnothing'
  obtain ⟨hline, -, -, hstate, -, hbeat, -, hwatch, -⟩ := lineKept_of_outside (conclude_outside w)
  obtain ⟨hoff, hdup, hlisten, hfresh⟩ := woken_fields (s.instant t) s.straps.station s.hall
  have hport : w.hall = s.hall.woken (s.instant t) s.straps.station := by rw [hw]; rfl
  have hfloor := (conclude_of_nothing hawake hnothing').2
  have hlevel := levelKept_of_apart (congrArg Apart.level (conclude_apart w))
  have hlink := conclude_link w
  dsimp only
  rw [hdim, hamp, hresult, conclude_display_of_nothing hawake hnothing', hfloor, hlevel.1, hlevel.2.1, conclude_rem, hstate,
    hline, hbeat, hwatch, hport, conclude_panel, conclude_reports]
  have hearly : (conclude w).link.early = w.link.early := (congrArg CueLink.early hlink : (conclude w).link.besideLatches.early = _)
  have hlost : (conclude w).link.reportsLost = w.link.reportsLost :=
    (congrArg CueLink.reportsLost hlink : (conclude w).link.besideLatches.reportsLost = _)
  rw [hearly, hlost]
  have hsettled : w.apart.link = s.apart.link := by
    rw [hw]
    exact hl
  subst hw
  exact ⟨conclude_mode_active hactive, rfl, rfl, rfl, hbright, rfl, rfl, rfl, rfl, rfl, hoff, hdup, hlisten, hfresh,
    (settings_framer_conclude hsettled).1, conclude_queueKept (queueKept_of_seq rfl), storeKept_conclude rfl, rfl, rfl, rfl, rfl⟩

theorem wakeByKey_of_asleep {s : State} (k : Key) (hasleep : s.power.mode = .sleep) : wakeByKey k s = inputWakes k (wakeUp s) :=
  if_neg (by simp [State.awake, hasleep])

theorem wakeIfAsleep_of_asleep {s : State} (hasleep : s.power.mode = .sleep) : wakeIfAsleep s = wakeUp s :=
  if_neg (by simp [State.awake, hasleep])

/-- What every key that wakes leaves, LANG held at the entry to SLEEP as well. -/
theorem wakeByKey_kept {s : State} (t : Nat) (k : Key) (hasleep : s.power.mode = .sleep) :
    let u := conclude (wakeByKey k (s.arrive t))
    u.power.mode = .active ∧ u.panel.keys = s.panel.keys.set k .up
      ∧ u.panel.inputs = s.panel.inputs.set k ⟨true, ⟨s.instant t + 30, 30⟩⟩ ∧ u.level.ring = []
      ∧ SettingsKept s u ∧ StoreKept s u ∧ u.now = s.instant t := by
  obtain ⟨d, -, -, hwakes⟩ := wakeUp_eq (s := s.arrive t) hasleep
  obtain ⟨hkeys, hinputs, hnow, hmode, st, hapart⟩ := keyComesUp_kept k (wakeUp (s.arrive t))
  have hwake : wakeByKey k (s.arrive t) = setInput k true (keyComesUp k (wakeUp (s.arrive t))) := wakeByKey_of_asleep k hasleep
  rw [hwake]
  generalize keyComesUp k (wakeUp (s.arrive t)) = w at *
  rw [hwakes] at hkeys hinputs hnow hmode hapart
  have hapart' : (setInput k true w).apart = w.apart := State.onPanel_apart ..
  refine ⟨conclude_mode_active hmode, ?_, ?_, ?_, (settings_framer_conclude ?_).1, storeKept_conclude ?_, ?_⟩
  · rw [conclude_panel]
    exact hkeys
  · rw [conclude_panel, setInput_inputs, hinputs, hnow]
    rfl
  · have hlevel := (congrArg Apart.level (conclude_apart (setInput k true w))).trans (congrArg Apart.level (hapart'.trans hapart))
    exact congrArg Prod.fst hlevel
  · rw [hapart', hapart]
    rfl
  · rw [hapart', hapart]
    rfl
  · exact (congrArg Prod.fst (conclude_env (setInput k true w))).trans hnow

/-! The press that wakes. -/

theorem not_debounced_of_fresh {s : State} {k : Key} {n : Nat} (h : s.panel.inputs.get k = ⟨true, ⟨n + 30, 30⟩⟩)
    (hsoon : s.now < n + 29) :
    s.debounced k = false := by
  unfold State.debounced
  rw [h]
  refine decide_eq_false fun hdue => ?_
  have htolerance : Config.tolerance 30 = 1 := rfl
  dsimp only at hdue
  omega

theorem pressKey_of_fresh {s : State} {k : Key} (h : s.debounced k = false) : pressKey k s = s :=
  if_neg (by rw [h]; exact fun hpress => absurd hpress.2 nofun)

/-- Settles O56. -/
theorem wakeRestartsThePart : Obligations.WakeRestartsThePart := by
  refine ⟨fun t cause s hasleep hnothing hlng => ?_, fun t s tm hasleep hlng => ?_, fun t k s hasleep => ?_,
    fun t cause s hawake => ⟨?_, fun hnothing => ?_⟩⟩
  · cases cause with
    | startBit =>
      obtain ⟨hmode, hdim, hamp, hresult, hbright, hpeers, hown, hring, hsample, hrem, hoff, hdup, hlisten, hwatch, hsettings, hqueue,
        hstore, hpanel, hreports, hearly, hlost⟩ :=
        wake_clauses (t := t) (w := wakeUp (s.arrive t)) (p := s.panel) (l := s.link) hasleep hnothing
          (by obtain ⟨d, -, -, hwakes⟩ := wakeUp_eq (s := s.arrive t) hasleep; rw [hwakes]; rfl) rfl
      have hexec : exec (.wake t .startBit) s = .next (conclude (wakeUp (s.arrive t))) :=
        congrArg (fun w => Host.Outcome.next (conclude w)) (wakeIfAsleep_of_asleep (s := s.arrive t) hasleep)
      exact ⟨_, hexec, hmode, hdim, hamp, hresult, hbright, hpeers, hown, hring, hsample, hrem, hoff, hdup, hlisten, hwatch,
        fun _ => ⟨hpanel, hreports, hearly, hlost⟩, nofun, hsettings, hqueue, hstore⟩
    | key k =>
      obtain ⟨d, -, -, hwakes⟩ := wakeUp_eq (s := s.arrive t) hasleep
      have hpanel : (wakeUp (s.arrive t)).panel = s.panel := by rw [hwakes]; rfl
      have hlink : (wakeUp (s.arrive t)).link = s.link := by rw [hwakes]; rfl
      have hnow : (wakeUp (s.arrive t)).now = s.instant t := by rw [hwakes]; rfl
      obtain ⟨l, hwoken, hl, hsame, htold⟩ := inputWakes_eq k (s := wakeUp (s.arrive t)) (by
        rw [hpanel]
        rintro rfl
        exact hlng rfl)
      have hkey : (wakeUp (s.arrive t)).panel.wokenBy (wakeUp (s.arrive t)).now k = s.panel.wokenBy (s.instant t) k := by
        rw [hpanel, hnow]
      rw [hlink] at hl hsame htold
      rw [hpanel] at hsame htold
      obtain ⟨hmode, hdim, hamp, hresult, hbright, hpeers, hown, hring, hsample, hrem, hoff, hdup, hlisten, hwatch, hsettings, hqueue,
        hstore, hpanel', hreports, hearly, hlost⟩ := wake_clauses hasleep hnothing hwoken hl
      have hexec : exec (.wake t (.key k)) s = .next (conclude (inputWakes k (wakeUp (s.arrive t)))) :=
        congrArg (fun w => Host.Outcome.next (conclude w)) (wakeByKey_of_asleep (s := s.arrive t) k hasleep)
      refine ⟨_, hexec, hmode, hdim, hamp, hresult, hbright, hpeers, hown, hring, hsample, hrem, hoff, hdup, hlisten, hwatch,
        nofun, fun j hj => ?_, hsettings, hqueue, hstore⟩
      obtain rfl := WakeCause.key.inj hj
      have htolerance : Config.tolerance 1500 = 15 := rfl
      refine ⟨hpanel'.trans hkey, fun hup => ?_, fun due hpressed hfits => ?_⟩
      · rw [hsame hup] at hreports hearly hlost
        exact ⟨hreports, hearly, hlost⟩
      · rw [hreports, htold _ hpressed (reportFits_of_link hlink hfits), hnow]
        simp only [htolerance]
  · obtain ⟨hmode, hkeys, hinputs, hring, hsettings, hstore, -⟩ := wakeByKey_kept t .lng hasleep
    exact ⟨_, rfl, hmode, hkeys, hinputs, hring, hsettings, hstore⟩
  · obtain ⟨hmode, hkeys, hinputs, -, -, -, hnow⟩ := wakeByKey_kept (t - 30) k hasleep
    have hwoken : wokenFor t k s = conclude (wakeByKey k (s.arrive (t - 30))) := if_neg (by simp [State.awake, hasleep])
    have hpress (w : State) (hw : w.power.mode ≠ .sleep) :
        exec (.keyPress t k) w = .next (conclude (pressKey k (w.arrive t))) :=
      congrArg (fun v : State => Host.Outcome.next (conclude (pressKey k (v.arrive t)))) (if_pos (decide_eq_true hw))
    have hthen : exec (.keyPress t k) s = .next (conclude (pressKey k ((conclude (wakeByKey k (s.arrive (t - 30)))).arrive t))) :=
      congrArg (fun v : State => Host.Outcome.next (conclude (pressKey k (v.arrive t)))) hwoken
    refine ⟨conclude (wakeByKey k (s.arrive (t - 30))), rfl, hmode, ?_, ?_, ?_, fun hsoon => ?_⟩
    · rw [hkeys, Keys.get_set, if_pos rfl]
    · rw [hinputs, Keys.get_set, if_pos rfl, hnow]
    · exact hthen.trans (hpress _ (by rw [hmode]; exact nofun)).symm
    · rw [hthen, pressKey_of_fresh (not_debounced_of_fresh (n := (conclude (wakeByKey k (s.arrive (t - 30)))).now) ?_ hsoon)]
      show (conclude (wakeByKey k (s.arrive (t - 30)))).panel.inputs.get k = _
      rw [hinputs, Keys.get_set, if_pos rfl, hnow]
  · cases cause with
    | startBit =>
      exact congrArg (fun w => Host.Outcome.next (conclude w)) (wakeIfAsleep_of_awake (s := s.arrive t) hawake)
    | key k =>
      have hsame : wakeByKey k (s.arrive t) = s.arrive t := if_pos (decide_eq_true hawake)
      exact congrArg (fun w => Host.Outcome.next (conclude w)) hsame
  · obtain ⟨n, hconclude⟩ := conclude_eq_of_nothing (s := s.arrive t) hawake hnothing
    rw [hconclude, holdTimers_mode, holdSampling_power, State.onSeq_power, startWaitingRecovery_power]
    rfl

end Sys2Proof.Machine
end

section
/-! OWN_CLAIM_SENT and OWN_RELEASE_SENT (R63, R81, R90, R92, R94, R96, R98). -/

namespace Sys2Proof.Machine
open Sys2Proof Safety

/-! Steps that move nothing but claims in the peers' records, without a change of their ranks. -/

structure PeersTouched (s w : State) : Prop where
  eq : ∃ ps, w = s.onFloor fun u => { u with peers := ps }
  stations : w.floor.peers.map Peer.station = s.floor.peers.map Peer.station
  ranks : w.peerRanks = s.peerRanks

theorem PeersTouched.refl (s : State) : PeersTouched s s := ⟨⟨s.floor.peers, rfl⟩, rfl, rfl⟩

theorem PeersTouched.trans {s w v : State} (h : PeersTouched s w) (h' : PeersTouched w v) : PeersTouched s v := by
  obtain ⟨⟨ps, rfl⟩, hstations, hranks⟩ := h
  obtain ⟨⟨qs, rfl⟩, hstations', hranks'⟩ := h'
  exact ⟨⟨qs, rfl⟩, hstations'.trans hstations, hranks'.trans hranks⟩

theorem changePeer_touched {n : Nat} {f : Peer → Peer} {g : LiveClaim → LiveClaim} (hstation : ∀ p, (f p).station = p.station)
    (hclaim : ∀ p, (f p).claim = p.claim.map g) (hg : KeepsRanks g) (s : State) : PeersTouched s (changePeer n f s) := by
  refine ⟨⟨_, rfl⟩, ?_, changePeer_peerRanks hstation hclaim hg s⟩
  show (s.floor.peers.map fun p => if p.station = n then f p else p).map Peer.station = _
  rw [List.map_map]
  refine List.map_congr_left fun p _ => ?_
  dsimp only [Function.comp]
  split
  · exact hstation p
  · rfl

theorem PeersTouched.oneRecordEach {s w : State} (h : PeersTouched s w) (hone : OneRecordEach s) : OneRecordEach w := by
  obtain ⟨⟨ps, rfl⟩, hstations, -⟩ := h
  have hall (st : State) : OneRecordEach st ↔ (st.floor.peers.map Peer.station).Pairwise (· < ·)
      ∧ ∀ n ∈ st.floor.peers.map Peer.station, 1 ≤ n ∧ n ≤ 31 ∧ n ≠ st.straps.station := by simp [OneRecordEach]
  rw [hall] at hone ⊢
  rw [hstations]
  exact hone

theorem preempted_keepsRanks (heard : Nat) : KeepsRanks (LiveClaim.preempted heard) := by
  intro c
  unfold LiveClaim.preempted
  dsimp only
  split <;> exact ⟨rfl, fun _ => rfl⟩

/-- A peer's record with its claim preempted. -/
def Peer.preemptedAt (heard : Nat) (p : Peer) : Peer := { p with claim := p.claim.map (LiveClaim.preempted heard) }

theorem Peer.preemptedAt_station (heard : Nat) (p : Peer) : (p.preemptedAt heard).station = p.station := rfl

/-- An own claim whose window runs is not lost. -/
theorem decideLoss_of_fresh {s : State} {c : LiveClaim} (z : Nat) (hclaim : s.floor.own.claim = some c)
    (hwindow : c.windowEnded s.now = false) : decideLoss z s = s := by
  unfold decideLoss
  rw [hclaim]
  exact if_neg (by simp [hwindow])

/-- An examination beside an own claim whose window runs confirms a peer's claim or nobody, and the own claim stands. -/
theorem examine_of_fresh {s : State} {c : LiveClaim} (z : Nat) (hone : OneRecordEach s) (hclaim : s.floor.own.claim = some c)
    (hwindow : c.windowEnded s.now = false) :
    examine z s = s ∨ ∃ n, examine z s = changePeer n (Peer.confirmedIn s) s := by
  unfold examine
  rcases confirmTop_cases z s with h | ⟨x, htop, hended, h⟩
  · rw [h]
    exact .inl (decideLoss_of_fresh z hclaim hwindow)
  · have hother : x.1 ≠ s.straps.station := by
      intro hown
      have hx := own_claim_of_mem hone (topClaim_mem htop) hown
      rw [hclaim] at hx
      rw [← Option.some.inj hx, hwindow] at hended
      cases hended
    rw [h, confirmClaim_of_peer hother]
    exact .inr ⟨x.1, decideLoss_of_fresh (s := changePeer x.1 (Peer.confirmedIn s) s) z hclaim hwindow⟩

/-- In a zone that is held such an examination is nothing. -/
theorem examine_of_held {s : State} {c : LiveClaim} {z : Nat} {x : Nat × LiveClaim} (hclaim : s.floor.own.claim = some c)
    (hwindow : c.windowEnded s.now = false) (hx : x ∈ s.peerClaims) (hzone : x.2.zone = z) (hconfirmed : x.2.confirmed = true) :
    examine z s = s := by
  have hmem : x ∈ s.claimsIn z := List.mem_filter.mpr ⟨mem_liveClaims.mpr (.inr hx), by simp [hzone]⟩
  unfold examine
  rw [confirmTop_of_none (.inl ⟨x, hmem, hconfirmed⟩)]
  exact decideLoss_of_fresh z hclaim hwindow

theorem examine_touched {s : State} {c : LiveClaim} (z : Nat) (hone : OneRecordEach s) (hclaim : s.floor.own.claim = some c)
    (hwindow : c.windowEnded s.now = false) : PeersTouched s (examine z s) := by
  rcases examine_of_fresh z hone hclaim hwindow with h | ⟨n, h⟩
  · rw [h]
    exact .refl s
  · rw [h]
    exact changePeer_touched (Peer.confirmedIn_station s) (fun _ => rfl) (confirmedClaim_keepsRanks s) s

/-! The own live claim is made (R81, R90). -/

/-- The live claim that the outgoing CLAIM makes now. -/
def State.madeClaim (c : ClaimContent) (s : State) : LiveClaim := heardClaim s.straps.zone c.cls c.bucket c.length c.seq s.now

theorem madeClaim_windowEnded (c : ClaimContent) (s : State) : (s.madeClaim c).windowEnded s.now = false := by
  have hwindow : ¬ s.now + Config.settleWindow ≤ s.now := by
    have hlength : Config.settleWindow = 60 := rfl
    omega
  simp [LiveClaim.windowEnded, State.madeClaim, heardClaim, hwindow]

/-- The own CLAIM on the line has made the own live claim, and is no longer outgoing. -/
def State.claimMade (c : ClaimContent) (s : State) : State :=
  (s.onFloor fun u => { u with claimsSent := min 65535 (u.claimsSent + 1) }).onOwn fun w =>
    { w with claim := some (s.madeClaim c), released := false, outgoing := none }

/-- The state in which that claim has preempted a lower holder (R98). -/
def State.claimPreempts (c : ClaimContent) (s : State) : State := preempt s.straps.zone c.cls s.now (s.claimMade c)

/-- What becomes of a CLAIM that has been taken back (R92, R94). -/
def takenBackGoes (o : Outgoing) (s : State) : State :=
  match o.takenBack with
  | .no => s
  | .outranked => claimLost (releaseWithdrawn o.content.seq s)
  | .withdrawn => releaseWithdrawn o.content.seq s

/-- The zone is examined where the new claim has taken the place of one still held (R81 step 1). -/
def examineIfReplaced (old : Option LiveClaim) (z : Nat) (s : State) : State := if old.isSome then examine z s else s

theorem ownClaimHeard_eq {s : State} {o : Outgoing} (ho : s.floor.own.outgoing = some o) :
    ownClaimHeard s =
      promotePending (examineIfReplaced s.floor.own.claim s.straps.zone (takenBackGoes o (s.claimPreempts o.content))) := by
  unfold ownClaimHeard
  rw [ho]
  rfl

/-- The holder of a zone, once the own claim has been made, is a peer. -/
theorem claimMade_holderOf (c : ClaimContent) (s : State) (z : Nat) :
    (s.claimMade c).holderOf z = (s.peerClaims.filter fun x => decide (x.2.zone = z)).find? fun x => x.2.confirmed := by
  have hlive : (s.claimMade c).claimsIn z =
      ((s.straps.station, s.madeClaim c) :: s.peerClaims).filter fun x => decide (x.2.zone = z) := rfl
  unfold State.holderOf
  rw [hlive, List.filter_cons]
  split <;> rfl

theorem claimPreempts_of_none {c : ClaimContent} {s : State}
    (h : ∀ x ∈ s.peerClaims, x.2.zone = s.straps.zone → x.2.confirmed = false) : s.claimPreempts c = s.claimMade c := by
  have hno : (s.claimMade c).holderOf s.straps.zone = none := by
    rw [claimMade_holderOf, List.find?_eq_none]
    intro x hx
    obtain ⟨hmem, hzone⟩ := List.mem_filter.mp hx
    simp [h x hmem (of_decide_eq_true hzone)]
  unfold State.claimPreempts preempt
  rw [hno]

/-- What the preemption test does where a peer holds the zone (R98). -/
theorem claimPreempts_of_holder {c : ClaimContent} {s : State} {x : Nat × LiveClaim} (hone : OneRecordEach s)
    (hx : x ∈ s.peerClaims) (hholder : (s.claimMade c).holderOf s.straps.zone = some x) :
    (∀ k, x.2.cls = .heard k → k.val < c.cls.val →
        s.claimPreempts c = changePeer x.1 (Peer.preemptedAt s.now) (s.claimMade c))
      ∧ (∀ k, x.2.cls = .heard k → c.cls.val ≤ k.val → s.claimPreempts c = s.claimMade c)
      ∧ (x.2.cls = .presumed → s.claimPreempts c = s.claimMade c) := by
  have hother : x.1 ≠ (s.claimMade c).straps.station := by
    obtain ⟨p, hp, -⟩ := mem_peerClaims.mp hx
    obtain ⟨hmem, hstation⟩ := List.mem_filter.mp hp
    exact (of_decide_eq_true hstation) ▸ (hone.2 p hmem).2.2
  unfold State.claimPreempts preempt
  rw [hholder]
  dsimp only
  refine ⟨fun k hk hlower => ?_, fun k hk hhigher => ?_, fun hk => ?_⟩
  · rw [hk]
    dsimp only
    rw [if_pos hlower, if_neg hother]
    rfl
  · rw [hk]
    exact if_neg (Nat.not_lt.mpr hhigher)
  · rw [hk]

theorem claimPreempts_touched (c : ClaimContent) {s : State} (hone : OneRecordEach s) :
    PeersTouched (s.claimMade c) (s.claimPreempts c) := by
  cases hholder : (s.claimMade c).holderOf s.straps.zone with
  | none =>
    unfold State.claimPreempts preempt
    rw [hholder]
    exact .refl _
  | some x =>
    have hx : x ∈ s.peerClaims := by
      rw [claimMade_holderOf] at hholder
      exact (List.mem_filter.mp (List.mem_of_find?_eq_some hholder)).1
    obtain ⟨hlower, hhigher, hpresumed⟩ := claimPreempts_of_holder hone hx hholder
    cases hcls : x.2.cls with
    | presumed =>
      rw [hpresumed hcls]
      exact .refl _
    | heard k =>
      by_cases hlow : k.val < c.cls.val
      · rw [hlower k hcls hlow]
        exact changePeer_touched (Peer.preemptedAt_station s.now) (fun _ => rfl) (preempted_keepsRanks s.now) _
      · rw [hhigher k hcls (Nat.not_lt.mp hlow)]
        exact .refl _

end Sys2Proof.Machine
end

section
/-! The own CLAIM that goes through (R63, R81, R90, R92, R94, R98). -/

namespace Sys2Proof.Machine
open Sys2Proof Safety

/-! A CLAIM that has been taken back, beside the peers' records. -/

theorem releaseWithdrawn_onPeers (ps : List Peer) (seq : Nat) (s : State) :
    releaseWithdrawn seq (s.onFloor fun u => { u with peers := ps }) =
      (releaseWithdrawn seq s).onFloor fun u => { u with peers := ps } := by
  unfold releaseWithdrawn handFrame
  rw [State.onFloor_hall]
  split <;> rfl

theorem claimLost_onPeers (ps : List Peer) (s : State) :
    claimLost (s.onFloor fun u => { u with peers := ps }) = (claimLost s).onFloor fun u => { u with peers := ps } := by
  unfold claimLost returnToQueue
  simp only [State.onOwn_seq, State.onFloor_seq]
  split <;> rfl

theorem peerRanks_of_peers {s w : State} (h : w.floor.peers = s.floor.peers) : w.peerRanks = s.peerRanks := by
  unfold State.peerRanks State.peerClaims
  rw [h]

theorem PeersTouched.takenBackGoes {s w : State} (h : PeersTouched s w) (o : Outgoing) :
    PeersTouched (takenBackGoes o s) (takenBackGoes o w) := by
  obtain ⟨⟨ps, rfl⟩, hstations, hranks⟩ := h
  have hlist : ps.map Peer.station = s.floor.peers.map Peer.station := hstations
  have hkept (g : State → State) (hpeers : (g s).floor.peers = s.floor.peers)
      (hg : g (s.onFloor fun u => { u with peers := ps }) = (g s).onFloor fun u => { u with peers := ps }) :
      PeersTouched (g s) (g (s.onFloor fun u => { u with peers := ps })) :=
    ⟨⟨ps, hg⟩, by rw [hg, hpeers]; exact hlist, by rw [hg, peerRanks_of_peers hpeers, ← hranks]; rfl⟩
  unfold Machine.takenBackGoes
  cases o.takenBack with
  | no => exact hkept id rfl rfl
  | outranked =>
    refine hkept (fun u => claimLost (releaseWithdrawn o.content.seq u)) ?_ ?_
    · rw [claimLost_floor, releaseWithdrawn_floor]
    · rw [releaseWithdrawn_onPeers, claimLost_onPeers]
  | withdrawn =>
    refine hkept (releaseWithdrawn o.content.seq) ?_ (releaseWithdrawn_onPeers ps o.content.seq s)
    rw [releaseWithdrawn_floor]

/-- A CLAIM that has been taken back leaves the own live claim that it makes, the instant and the numbers. -/
theorem takenBackGoes_leaves (o : Outgoing) (s : State) :
    (takenBackGoes o s).floor.own.claim = s.floor.own.claim ∧ (takenBackGoes o s).env = s.env
      ∧ (takenBackGoes o s).outside = s.outside ∧ (takenBackGoes o s).floor.peers = s.floor.peers := by
  unfold takenBackGoes
  cases o.takenBack with
  | no => exact ⟨rfl, rfl, rfl, rfl⟩
  | outranked => exact ⟨by simp, by simp, by simp, by simp⟩
  | withdrawn => exact ⟨by simp, by simp, by simp, by simp⟩

/-- The state in which the own CLAIM `o` has gone through, but for a claim request that has waited for it. -/
def State.claimGone (o : Outgoing) (s : State) : State :=
  examineIfReplaced s.floor.own.claim s.straps.zone (takenBackGoes o (s.claimPreempts o.content))

theorem claimGone_touched {s : State} (o : Outgoing) (hone : OneRecordEach s) :
    PeersTouched (takenBackGoes o (s.claimMade o.content)) (s.claimGone o) := by
  have htouched := (claimPreempts_touched o.content hone).takenBackGoes o
  refine htouched.trans ?_
  unfold State.claimGone examineIfReplaced
  split
  · obtain ⟨hclaim, henv, -, hpeers⟩ := takenBackGoes_leaves o (s.claimMade o.content)
    have hstraps : (takenBackGoes o (s.claimMade o.content)).straps = s.straps := congrArg (fun x => x.2.2.1) henv
    have hnow : (takenBackGoes o (s.claimMade o.content)).now = s.now := congrArg Prod.fst henv
    have hmade : OneRecordEach (takenBackGoes o (s.claimMade o.content)) := by
      unfold OneRecordEach
      rw [hpeers, hstraps]
      exact hone
    have hone' := htouched.oneRecordEach hmade
    obtain ⟨⟨ps, hps⟩, -, -⟩ := htouched
    refine examine_touched (c := s.madeClaim o.content) s.straps.zone hone' (by rw [hps]; exact hclaim) ?_
    have hsame : (takenBackGoes o (s.claimPreempts o.content)).now = s.now := by rw [hps]; exact hnow
    rw [hsame]
    exact madeClaim_windowEnded o.content s
  · exact .refl _

theorem claimGone_outside (o : Outgoing) (s : State) : (s.claimGone o).outside = s.outside := by
  have hpreempts : (s.claimPreempts o.content).outside = s.outside := by
    unfold State.claimPreempts
    rw [preempt_outside]
    rfl
  have hgoes := (takenBackGoes_leaves o (s.claimPreempts o.content)).2.2.1
  unfold State.claimGone examineIfReplaced
  split
  · rw [examine_outside, hgoes, hpreempts]
  · rw [hgoes, hpreempts]

/-! OWN_CLAIM_SENT. -/

/-- The state in which the own frame on the line has gone through at the instant `t`. -/
def State.frameSent (t : Nat) (s : State) : State := (s.arrive t).onHall (HallPort.wentThrough (s.instant t))

theorem exec_ownClaimSent {t : Nat} {s : State} {c : ClaimContent} {o : Outgoing} (hawake : s.power.mode ≠ .sleep)
    (hdriving : Driving s (.claim c)) (ho : s.floor.own.outgoing = some o) :
    exec (.ownClaimSent t) s = .next (conclude (promotePending ((s.frameSent t).claimGone o))) := by
  refine (concluding_of_awake hawake t _).trans ?_
  unfold ownClaimGoes
  rw [sendingFrame_of_driving (s := s.arrive t) hdriving]
  exact congrArg (fun u => Host.Outcome.next (conclude u)) (ownClaimHeard_eq (s := s.frameSent t) ho)

/-- What a frame that has gone through leaves of the port, the reports and the blocks beside the line. -/
theorem kept_of_frameSent {t : Nat} {s u : State} (h : u.outside = (s.frameSent t).outside) :
    (u.hall.errorRun = 0 ∧ u.hall.onLine = none ∧ u.hall.framesReceived = s.hall.framesReceived ∧ u.hall.state = s.hall.state)
      ∧ ReportsKept s u ∧ BesidesHallKept s u := by
  obtain ⟨⟨-, -, honline, hstate, hrun, -, -, -, hreceived, -⟩, hkept⟩ := kept_of_onHall h
  exact ⟨⟨hrun, honline, hreceived, hstate⟩, hkept⟩

theorem ownClaimSent_outside (t : Nat) (s : State) (o : Outgoing) :
    (conclude (promotePending ((s.frameSent t).claimGone o))).outside = (s.frameSent t).outside := by
  rw [conclude_outside, promotePending_outside, claimGone_outside]

theorem ownClaimSent_view (t : Nat) (s : State) (o : Outgoing) :
    ViewKept ((s.frameSent t).claimGone o) (conclude (promotePending ((s.frameSent t).claimGone o))) :=
  viewKept_of_view ((conclude_view _).trans (promotePending_view _))

theorem withoutDriven_eq (l : List TxEntry) : withoutDriven l = l.filter fun x => !x.driving := rfl

/-- With no claim of its own and no holder the station's CLAIM moves nothing but the own record. -/
theorem claimGone_of_free {s : State} {o : Outgoing} (hback : o.takenBack = .no) (hclaim : s.floor.own.claim = none)
    (hholder : s.holderOf s.straps.zone = none) : s.claimGone o = s.claimMade o.content := by
  have hnone : ∀ x ∈ s.peerClaims, x.2.zone = s.straps.zone → x.2.confirmed = false := fun x hx hzone =>
    unconfirmed_of_noHolder hholder x (List.mem_filter.mpr ⟨mem_liveClaims.mpr (.inr hx), by simp [hzone]⟩)
  unfold State.claimGone takenBackGoes
  rw [hclaim, hback, claimPreempts_of_none hnone]
  rfl

/-- Clause 1 of O38: a CLAIM of a station without a claim, in a zone without a holder. -/
theorem ownClaimSent_free (t : Nat) (s : State) (c : ClaimContent) (o : Outgoing) (hawake : s.power.mode ≠ .sleep)
    (hdriving : Driving s (.claim c)) (ho : s.floor.own.outgoing = some o) (hback : o.takenBack = .no)
    (hclaim : s.floor.own.claim = none) (hholder : s.holderOf s.straps.zone = none) :
    ∃ u, exec (.ownClaimSent t) s = .next u
      ∧ u.floor.own.claim = some (sentClaim t o.content s)
      ∧ u.floor.claimsSent = min 65535 (s.floor.claimsSent + 1) ∧ u.floor.claimsLost = s.floor.claimsLost
      ∧ u.floor.claimsConfirmed = s.floor.claimsConfirmed ∧ u.floor.peers = s.floor.peers
      ∧ u.hall.errorRun = 0 ∧ u.hall.onLine = none ∧ u.hall.framesReceived = s.hall.framesReceived
      ∧ (NothingToSelect s → s.hall.recovery ≠ .waiting → s.floor.own.pendingClaim = none →
          u.hall.txList = s.hall.txList.filter fun x => !x.driving)
      ∧ u.hall.state = s.hall.state ∧ ReportsKept s u ∧ BesidesHallKept s u := by
  have hgone : (s.frameSent t).claimGone o = (s.frameSent t).claimMade o.content :=
    claimGone_of_free (s := s.frameSent t) hback hclaim hholder
  obtain ⟨⟨hrun, honline, hreceived, hstate⟩, hkept⟩ := kept_of_frameSent (ownClaimSent_outside t s o)
  obtain ⟨hpeers, hown, -, hsent, hconfirmed, hlost, -⟩ := ownClaimSent_view t s o
  refine ⟨_, exec_ownClaimSent hawake hdriving ho, ?_⟩
  rw [hgone] at *
  refine ⟨hown, hsent, hlost, hconfirmed, hpeers, hrun, honline, hreceived, fun hnothing hr hpending => ?_, hstate, hkept⟩
  rw [promotePending_of_none (s := (s.frameSent t).claimMade o.content) hpending,
    conclude_hall_of_nothing (s := (s.frameSent t).claimMade o.content) hawake hnothing hr]
  rfl

/-! A CLAIM beside a holder of the zone (R98). -/

theorem LiveClaim.preempted_eq (heard : Nat) (c : LiveClaim) :
    ∃ outer, c.preempted heard =
      { c with
        preemptPending := true
        expiry := if heard + 3000 < c.expiry.due then ⟨heard + 3000, 3000⟩ else c.expiry
        outer := outer } := by
  unfold LiveClaim.preempted
  by_cases hsoon : heard + 3000 < c.expiry.due
  · refine ⟨some c.expiry, (if_pos hsoon).trans ?_⟩
    rw [if_pos hsoon]
    rfl
  · refine ⟨some (c.outer.getD ⟨heard + 3000, 3000⟩), (if_neg hsoon).trans ?_⟩
    rw [if_neg hsoon]
    rfl

theorem LiveClaim.preempted_confirmed (heard : Nat) (c : LiveClaim) : (c.preempted heard).confirmed = c.confirmed := by
  obtain ⟨outer, h⟩ := c.preempted_eq heard
  rw [h]

/-- Where every peer has one record, a claim of the view is the one of its station's record. -/
theorem claim_of_peer {s : State} (hone : OneRecordEach s) {x : Nat × LiveClaim} {p : Peer} (hx : x ∈ s.peerClaims)
    (hp : s.peer x.1 = some p) : p.claim = some x.2 := by
  obtain ⟨q, hq, hclaim⟩ := mem_peerClaims.mp hx
  obtain ⟨hmem, hstation⟩ := List.mem_filter.mp hq
  have hrecords := records_of_oneRecordEach hone hmem
  rw [of_decide_eq_true hstation] at hrecords
  rw [State.peer_eq_head, hrecords] at hp
  rw [← Option.some.inj hp]
  exact hclaim

section
variable {s : State} {o : Outgoing} {x : Nat × LiveClaim} (hback : o.takenBack = .no) (hone : OneRecordEach s)
  (hx : x ∈ s.peerClaims) (hzone : x.2.zone = s.straps.zone) (hconfirmed : x.2.confirmed = true)
  (hunique : ∀ y ∈ s.peerClaims, y.2.zone = s.straps.zone → y.2.confirmed = true → y = x)

include hx hzone hconfirmed hunique in
theorem claimMade_holder (c : ClaimContent) : (s.claimMade c).holderOf s.straps.zone = some x := by
  rw [claimMade_holderOf]
  cases hfind : (s.peerClaims.filter fun y => decide (y.2.zone = s.straps.zone)).find? fun y => y.2.confirmed with
  | none => exact absurd hconfirmed (List.find?_eq_none.mp hfind x (List.mem_filter.mpr ⟨hx, by simp [hzone]⟩))
  | some y =>
    obtain ⟨hmem, hyz⟩ := List.mem_filter.mp (List.mem_of_find?_eq_some hfind)
    rw [hunique y hmem (of_decide_eq_true hyz) (List.find?_some (p := fun y : Nat × LiveClaim => y.2.confirmed) hfind)]

include hback in
theorem claimGone_of_held {c : LiveClaim} {w : State} {y : Nat × LiveClaim} (hpreempts : s.claimPreempts o.content = w)
    (hclaim : w.floor.own.claim = some c) (hwindow : c.windowEnded w.now = false) (hy : y ∈ w.peerClaims)
    (hyz : y.2.zone = s.straps.zone) (hyc : y.2.confirmed = true) : s.claimGone o = w := by
  unfold State.claimGone takenBackGoes examineIfReplaced
  rw [hback, hpreempts]
  split
  · exact examine_of_held hclaim hwindow hy hyz hyc
  · rfl

include hback hone hx hzone hconfirmed hunique in
/-- The peer that holds the zone alone is preempted where its class is lower, and else left (R98). -/
theorem claimGone_besideHolder :
    (∀ k, x.2.cls = .heard k → k.val < o.content.cls.val →
        s.claimGone o = changePeer x.1 (Peer.preemptedAt s.now) (s.claimMade o.content))
      ∧ (∀ k, x.2.cls = .heard k → o.content.cls.val ≤ k.val → s.claimGone o = s.claimMade o.content)
      ∧ (x.2.cls = .presumed → s.claimGone o = s.claimMade o.content) := by
  obtain ⟨hlower, hhigher, hpresumed⟩ :=
    claimPreempts_of_holder hone hx (claimMade_holder hx hzone hconfirmed hunique o.content)
  have hwindow := madeClaim_windowEnded o.content s
  have hleft (h : s.claimPreempts o.content = s.claimMade o.content) : s.claimGone o = s.claimMade o.content :=
    claimGone_of_held hback h rfl hwindow hx hzone hconfirmed
  refine ⟨fun k hk hlow => ?_, fun k hk hhigh => hleft (hhigher k hk hhigh), fun hk => hleft (hpresumed hk)⟩
  obtain ⟨q, hq, hclaim⟩ := mem_peerClaims.mp hx
  have hmem : (x.1, x.2.preempted s.now) ∈ (changePeer x.1 (Peer.preemptedAt s.now) (s.claimMade o.content)).peerClaims := by
    refine mem_peerClaims.mpr ⟨q.preemptedAt s.now, ?_, congrArg (Option.map (LiveClaim.preempted s.now)) hclaim⟩
    rw [changePeer_records_same (Peer.preemptedAt_station s.now)]
    exact List.mem_map_of_mem hq
  exact claimGone_of_held hback (hlower k hk hlow) rfl hwindow hmem
    (((preempted_keepsRanks s.now x.2).1).trans hzone) ((x.2.preempted_confirmed s.now).trans hconfirmed)

end

/-- Clause 2 of O38: a CLAIM that has not been taken back, and the holder it finds. -/
theorem ownClaimSent_standing (t : Nat) (s : State) (c : ClaimContent) (o : Outgoing) (hawake : s.power.mode ≠ .sleep)
    (hdriving : Driving s (.claim c)) (ho : s.floor.own.outgoing = some o) (hback : o.takenBack = .no) (hone : OneRecordEach s) :
    ∃ u, exec (.ownClaimSent t) s = .next u
      ∧ u.floor.own.claim = some (sentClaim t o.content s) ∧ u.floor.own.released = false
      ∧ u.floor.claimsSent = min 65535 (s.floor.claimsSent + 1)
      ∧ (∀ x p, x ∈ s.peerClaims → x.2.zone = s.straps.zone → x.2.confirmed = true →
          (∀ y ∈ s.peerClaims, y.2.zone = s.straps.zone → y.2.confirmed = true → y = x) → s.peer x.1 = some p →
          (∀ k, x.2.cls = .heard k → k.val < o.content.cls.val →
              (∃ outer, u.peer x.1 =
                some { p with
                  claim := some { x.2 with
                    preemptPending := true
                    expiry := if s.instant t + 3000 < x.2.expiry.due then ⟨s.instant t + 3000, 3000⟩ else x.2.expiry
                    outer := outer } })
                ∧ ∀ m, m ≠ x.1 → u.peer m = s.peer m)
            ∧ (∀ k, x.2.cls = .heard k → o.content.cls.val ≤ k.val → u.floor.peers = s.floor.peers)
            ∧ (x.2.cls = .presumed → u.floor.peers = s.floor.peers))
      ∧ u.hall.errorRun = 0 ∧ u.hall.onLine = none ∧ u.hall.state = s.hall.state ∧ ReportsKept s u ∧ BesidesHallKept s u := by
  obtain ⟨⟨hrun, honline, -, hstate⟩, hkept⟩ := kept_of_frameSent (ownClaimSent_outside t s o)
  obtain ⟨hpeers, hown, hreleased, hsent, -, -, -⟩ := ownClaimSent_view t s o
  obtain ⟨⟨ps, hgone⟩, -, -⟩ := claimGone_touched (s := s.frameSent t) o hone
  have hmade : takenBackGoes o ((s.frameSent t).claimMade o.content) = (s.frameSent t).claimMade o.content := by
    unfold takenBackGoes
    rw [hback]
  rw [hmade] at hgone
  refine ⟨_, exec_ownClaimSent hawake hdriving ho, ?_⟩
  generalize conclude (promotePending ((s.frameSent t).claimGone o)) = u at *
  refine ⟨?_, ?_, ?_, fun x p hx hzone hconfirmed hunique hp => ?_, hrun, honline, hstate, hkept⟩
  · rw [hown, hgone]
    rfl
  · rw [hreleased, hgone]
    rfl
  · rw [hsent, hgone]
    rfl
  obtain ⟨hlower, hhigher, hpresumed⟩ :=
    claimGone_besideHolder (s := s.frameSent t) hback hone hx hzone hconfirmed hunique
  refine ⟨fun k hk hlow => ?_, fun k hk hhigh => ?_, fun hk => ?_⟩
  · have hpeer (n : Nat) := State.peer_of_records_eq (State.records_of_peers_eq hpeers n)
    rw [hlower k hk hlow] at hpeer
    refine ⟨?_, fun m hm => ?_⟩
    · obtain ⟨outer, hpre⟩ := x.2.preempted_eq (s.instant t)
      refine ⟨outer, (hpeer x.1).trans ?_⟩
      have hp' : ((s.frameSent t).claimMade o.content).peer x.1 = some p := hp
      rw [changePeer_peer_same (Peer.preemptedAt_station _), hp', Option.map_some, ← hpre, Peer.preemptedAt,
        claim_of_peer hone hx hp]
      rfl
    · refine (hpeer m).trans (State.peer_of_records_eq (changePeer_records_of_ne (Peer.preemptedAt_station _) hm _))
  · exact hpeers.trans (by rw [hhigher k hk hhigh]; rfl)
  · exact hpeers.trans (by rw [hpresumed hk]; rfl)

end Sys2Proof.Machine
end

section
/-! O38: a CLAIM that has been taken back and goes through after all (R89, R92, R94), and the own RELEASE (R63, R96). -/

namespace Sys2Proof.Machine
open Sys2Proof Safety

/-! The CLAIM that has been taken back. -/

theorem releaseWithdrawn_list {s : State} (hfault : s.hall.state.isFault = false) (seq : Nat) :
    (releaseWithdrawn seq s).hall.txList = s.hall.txList ++ [⟨.release seq .withdrawn, false⟩] := by
  rw [releaseWithdrawn_hall, handFrame_txList hfault]

/-- The state once the frame on the line has left the list. -/
def State.listSent (s : State) : State := s.onHall fun h => { h with txList := withoutDriven h.txList }

/-- The loss of a CLAIM that has been taken back as outranked finds its RELEASE behind the frames that stay. -/
theorem losesFrom_takenBack {t : Nat} {s w : State} {o : Outgoing}
    (h : PeersTouched (releaseWithdrawn o.content.seq ((s.frameSent t).claimMade o.content)) w) :
    LosesFrom t o.content.seq s.listSent w := by
  obtain ⟨⟨ps, rfl⟩, -, hranks⟩ := h
  have henv := releaseWithdrawn_env o.content.seq ((s.frameSent t).claimMade o.content)
  have hout := releaseWithdrawn_outside o.content.seq ((s.frameSent t).claimMade o.content)
  have hfloor := releaseWithdrawn_floor o.content.seq ((s.frameSent t).claimMade o.content)
  have hlost := congrArg FloorUnit.claimsLost hfloor
  have hconfirmed := congrArg FloorUnit.claimsConfirmed hfloor
  refine ⟨congrArg Prod.fst henv, ?_, congrArg (fun x => x.2.2.1) henv, congrArg (fun x => x.1.state) hout, ?_, ?_,
    congrArg (fun x => x.2.2.1) hout, hlost, hconfirmed, congrArg (fun u => u.own.nextSeq) hfloor, ?_, fun hfault => ?_⟩
  · exact congrArg Power.mode (handFrame_power ..)
  · exact handFrame_recovery ..
  · exact handFrame_seq ..
  · exact hranks.trans (peerRanks_of_peers (by rw [hfloor]; rfl))
  · exact releaseWithdrawn_list (s := (s.frameSent t).claimMade o.content) hfault o.content.seq

/-- The RELEASE of a CLAIM that has been taken back as withdrawn, and the claim request that has waited for it. -/
theorem takenBack_list {t : Nat} {s w : State} {o : Outgoing} (hawake : s.power.mode ≠ .sleep)
    (h : PeersTouched (releaseWithdrawn o.content.seq ((s.frameSent t).claimMade o.content)) w)
    (hfault : s.hall.state.isFault = false) (hr : s.hall.recovery ≠ .waiting) :
    (s.floor.own.pendingClaim = none →
        ListIs ((s.hall.txList.filter fun y => !y.driving) ++ [⟨.release o.content.seq .withdrawn, false⟩]) s
          (conclude (promotePending w)))
      ∧ ∀ q, s.floor.own.pendingClaim = some q →
          (conclude (promotePending w)).hall.txList =
              (s.hall.txList.filter fun y => !y.driving)
                ++ [⟨.release o.content.seq .withdrawn, false⟩, ⟨.claim q, false⟩]
            ∧ (conclude (promotePending w)).floor.own.outgoing = some ⟨q, .no⟩ := by
  obtain ⟨-, hmode, -, hstate, hrecovery, -, -, -, -, hnext, -, hlist⟩ := losesFrom_takenBack h
  have hpending : w.floor.own.pendingClaim = s.floor.own.pendingClaim := by
    obtain ⟨⟨ps, rfl⟩, -, -⟩ := h
    exact congrArg (fun u => u.own.pendingClaim) (releaseWithdrawn_floor ..)
  have hmode' : w.power.mode ≠ .sleep := hmode.trans_ne hawake
  have hr' : w.hall.recovery ≠ .waiting := hrecovery.trans_ne hr
  have hfault' : w.hall.state.isFault = false := (congrArg HallState.isFault hstate).trans hfault
  have hlist' : w.hall.txList = (s.hall.txList.filter fun y => !y.driving) ++ [⟨.release o.content.seq .withdrawn, false⟩] :=
    hlist hfault
  constructor
  · intro hnone
    rw [promotePending_of_none (hpending.trans hnone), ← hlist']
    exact listIs_of_nextSeq hnext (conclude_txList hmode' hr')
  · intro q hq
    rw [promotePending_of_some (hpending.trans hq)]
    generalize hpromoted : (w.onOwn fun o => { o with pendingClaim := none, outgoing := some ⟨q, .no⟩ }) = r
    have hout : (handFrame (.claim q) r).floor.own.outgoing = some ⟨q, .no⟩ := by
      rw [handFrame_floor, ← hpromoted]
      rfl
    obtain ⟨hstays, hsame⟩ := conclude_outgoing (by rw [handFrame_power, ← hpromoted]; exact hmode') hout
    refine ⟨?_, hstays⟩
    rw [hsame (by rw [handFrame_recovery, ← hpromoted]; exact hr'),
      handFrame_txList (by rw [← hpromoted]; exact hfault'), ← hpromoted, State.onOwn_hall, hlist', List.append_assoc]
    rfl

theorem PeersTouched.of_claimLost {s w : State} (h : PeersTouched (claimLost s) w) :
    ∃ r, PeersTouched s r ∧ w = claimLost r := by
  obtain ⟨⟨ps, rfl⟩, hstations, hranks⟩ := h
  have hpeers : (claimLost s).floor.peers = s.floor.peers := by rw [claimLost_floor]
  refine ⟨s.onFloor fun u => { u with peers := ps }, ⟨⟨ps, rfl⟩, ?_, ?_⟩, (claimLost_onPeers ps s).symm⟩
  · rw [← hpeers]
    exact hstations
  · rw [← peerRanks_of_peers hpeers, ← hranks]
    rfl

/-- What becomes of the own record, by how the CLAIM was taken back. -/
theorem takenBackGoes_own {o : Outgoing} (s : State) (hback : o.takenBack ≠ .no) :
    (takenBackGoes o s).floor.own.released = true ∧ (takenBackGoes o s).floor.claimsSent = s.floor.claimsSent := by
  unfold takenBackGoes
  cases h : o.takenBack with
  | no => exact absurd h hback
  | outranked => exact ⟨by simp, by simp⟩
  | withdrawn => exact ⟨by simp, by simp⟩

/-- Clause 3 of O38. -/
theorem ownClaimSent_takenBack (t : Nat) (s : State) (c : ClaimContent) (o : Outgoing) (hawake : s.power.mode ≠ .sleep)
    (hdriving : Driving s (.claim c)) (ho : s.floor.own.outgoing = some o) (hback : o.takenBack ≠ .no) (hone : OneRecordEach s) :
    ∃ u, exec (.ownClaimSent t) s = .next u
      ∧ u.floor.own.claim = some (sentClaim t o.content s)
      ∧ u.floor.own.released = true ∧ u.floor.claimsSent = min 65535 (s.floor.claimsSent + 1)
      ∧ (o.takenBack = .outranked → s.floor.own.pendingClaim = none →
          ClaimLostTo t (s.hall.txList.filter fun y => !y.driving) o.content.seq s u)
      ∧ (o.takenBack = .withdrawn → u.floor.claimsLost = s.floor.claimsLost)
      ∧ (o.takenBack = .withdrawn → s.floor.own.pendingClaim = none → s.hall.state.isFault = false →
          s.hall.recovery ≠ .waiting →
          ListIs ((s.hall.txList.filter fun y => !y.driving) ++ [⟨.release o.content.seq .withdrawn, false⟩]) s u)
      ∧ (∀ q, o.takenBack = .withdrawn → s.floor.own.pendingClaim = some q → s.hall.state.isFault = false →
          s.hall.recovery ≠ .waiting →
          u.hall.txList =
              (s.hall.txList.filter fun y => !y.driving)
                ++ [⟨.release o.content.seq .withdrawn, false⟩, ⟨.claim q, false⟩]
            ∧ u.floor.own.outgoing = some ⟨q, .no⟩)
      ∧ u.hall.errorRun = 0 ∧ u.hall.onLine = none ∧ u.hall.framesReceived = s.hall.framesReceived
      ∧ u.hall.state = s.hall.state ∧ ReportsKept s u ∧ BesidesHallKept s u := by
  obtain ⟨⟨hrun, honline, hreceived, hstate⟩, hkept⟩ := kept_of_frameSent (ownClaimSent_outside t s o)
  obtain ⟨-, hown, hreleased, hsent, -, hlost, -⟩ := ownClaimSent_view t s o
  have htouched := claimGone_touched (s := s.frameSent t) o hone
  refine ⟨_, exec_ownClaimSent hawake hdriving ho, ?_⟩
  generalize (s.frameSent t).claimGone o = w at *
  have hwithdrawn (h : o.takenBack = .withdrawn) :
      PeersTouched (releaseWithdrawn o.content.seq ((s.frameSent t).claimMade o.content)) w := by
    unfold takenBackGoes at htouched
    rw [h] at htouched
    exact htouched
  obtain ⟨hgoneReleased, hgoneSent⟩ := takenBackGoes_own ((s.frameSent t).claimMade o.content) hback
  have hgoneClaim := (takenBackGoes_leaves o ((s.frameSent t).claimMade o.content)).1
  have hkeeps : w.floor.own = (takenBackGoes o ((s.frameSent t).claimMade o.content)).floor.own
      ∧ w.floor.claimsSent = (takenBackGoes o ((s.frameSent t).claimMade o.content)).floor.claimsSent := by
    obtain ⟨⟨ps, rfl⟩, -, -⟩ := htouched
    exact ⟨rfl, rfl⟩
  obtain ⟨hkeepsOwn, hkeepsSent⟩ := hkeeps
  refine ⟨?_, ?_, ?_, fun h hpending => ?_, fun h => ?_, fun h hpending hfault hr => ?_, fun q h hpending hfault hr => ?_, hrun,
    honline, hreceived, hstate, hkept⟩
  · rw [hown, hkeepsOwn, hgoneClaim]
    rfl
  · rw [hreleased, hkeepsOwn, hgoneReleased]
  · rw [hsent, hkeepsSent, hgoneSent]
    rfl
  · unfold takenBackGoes at htouched hkeepsOwn
    rw [h] at htouched hkeepsOwn
    have hnone : w.floor.own.pendingClaim = none := by
      rw [hkeepsOwn, claimLost_floor, releaseWithdrawn_floor]
      exact hpending
    obtain ⟨r, hr, rfl⟩ := htouched.of_claimLost
    rw [promotePending_of_none hnone]
    exact (losesFrom_takenBack hr).lostTo hawake
  · exact hlost.trans (losesFrom_takenBack (hwithdrawn h)).claimsLost
  · exact (takenBack_list hawake (hwithdrawn h) hfault hr).1 hpending
  · exact (takenBack_list hawake (hwithdrawn h) hfault hr).2 q hpending

/-! OWN_RELEASE_SENT. -/

theorem exec_ownReleaseSent {t seq : Nat} {s : State} {o : ReleaseOutcome} (hawake : s.power.mode ≠ .sleep)
    (hdriving : Driving s (.release seq o)) :
    exec (.ownReleaseSent t) s = .next (conclude (ownReleaseHeard seq (s.frameSent t))) := by
  refine (concluding_of_awake hawake t _).trans ?_
  unfold ownReleaseGoes
  rw [sendingFrame_of_driving (s := s.arrive t) hdriving]
  rfl

theorem ownReleaseHeard_of_match {s : State} {c : LiveClaim} {seq : Nat} (hclaim : s.floor.own.claim = some c)
    (hseq : c.seq = some seq) : ownReleaseHeard seq s = confirmTop s.straps.zone (clearOwnClaim s) := by
  unfold ownReleaseHeard
  rw [hclaim]
  exact (if_pos hseq).trans (examine_cleared s.straps.zone rfl)

theorem ownReleaseHeard_of_other {s : State} {c : LiveClaim} {seq : Nat} (hclaim : s.floor.own.claim = some c)
    (hseq : c.seq ≠ some seq) : ownReleaseHeard seq s = s := by
  unfold ownReleaseHeard
  rw [hclaim]
  exact if_neg hseq

theorem seqConfirmed_slot (s : State) : (seqConfirmed s).seq.slot.isSome = s.seq.slot.isSome := by
  unfold seqConfirmed
  split
  · split
    · exact startAudible_slot ..
    · rfl
  · rfl

/-- A confirmation leaves the line, the stations of the view, and the slot taken or empty. -/
theorem confirmTop_leaves (z : Nat) (s : State) :
    (confirmTop z s).hall = s.hall ∧ (confirmTop z s).floor.peers.map Peer.station = s.floor.peers.map Peer.station
      ∧ (confirmTop z s).seq.slot.isSome = s.seq.slot.isSome := by
  have hown : (confirmOwn s).hall = s.hall ∧ (confirmOwn s).seq.slot.isSome = s.seq.slot.isSome := by
    unfold confirmOwn
    dsimp only
    split
    · exact ⟨(State.hall_eq_of_besideOutput (seqConfirmed_besideOutput _)).trans rfl, (seqConfirmed_slot _).trans rfl⟩
    · exact ⟨rfl, rfl⟩
  rcases confirmTop_cases z s with h | ⟨x, -, -, h⟩ <;> rw [h]
  · exact ⟨rfl, rfl, rfl⟩
  · unfold confirmClaim
    split
    · exact ⟨hown.1, by rw [confirmOwn_peers], hown.2⟩
    · exact ⟨rfl, (changePeer_touched (Peer.confirmedIn_station s) (fun _ => rfl) (confirmedClaim_keepsRanks s) s).stations, rfl⟩

/-- The selection finds nothing to take after a confirmation, where it found nothing before. -/
theorem confirmTop_nothing {s : State} (z : Nat) (h : NothingToSelect s) : NothingToSelect (confirmTop z s) := by
  rcases h with hslot | hqueue
  · exact .inl ((confirmTop_leaves z s).2.2.trans hslot)
  · have htags : (confirmTop z s).seq.queue.map Entry.tag = s.seq.queue.map Entry.tag :=
      congrArg (fun x => x.2.2.2.2.1.1) (confirmTop_outside z s)
    rw [hqueue] at htags
    exact .inr (List.map_eq_nil_iff.mp htags)

theorem conclude_txList_of_nothing {s : State} (h : NothingToSelect s) (hr : s.hall.recovery ≠ .waiting) :
    (conclude s).hall.txList = s.hall.txList := by
  by_cases hasleep : s.power.mode = .sleep
  · rw [conclude_of_asleep hasleep]
  · rw [conclude_hall_of_nothing hasleep h hr]

/-- What an own RELEASE does, of its own claim's sequence or not, beside the own claim. -/
theorem ownReleaseHeard_leaves (seq : Nat) (s : State) :
    (ownReleaseHeard seq s).outside = s.outside ∧ (ownReleaseHeard seq s).hall = s.hall
      ∧ (ownReleaseHeard seq s).floor.peers.map Peer.station = s.floor.peers.map Peer.station
      ∧ (NothingToSelect s → NothingToSelect (ownReleaseHeard seq s)) := by
  cases hclaim : s.floor.own.claim with
  | none =>
    have hsame : ownReleaseHeard seq s = s := by
      unfold ownReleaseHeard
      rw [hclaim]
    rw [hsame]
    exact ⟨rfl, rfl, rfl, id⟩
  | some c =>
    by_cases hseq : c.seq = some seq
    · rw [ownReleaseHeard_of_match hclaim hseq]
      obtain ⟨hhall, hstations, -⟩ := confirmTop_leaves s.straps.zone (clearOwnClaim s)
      exact ⟨confirmTop_outside .., hhall, hstations, confirmTop_nothing (s := clearOwnClaim s) s.straps.zone⟩
    · rw [ownReleaseHeard_of_other hclaim hseq]
      exact ⟨rfl, rfl, rfl, id⟩

/-- Clause 4 of O38. -/
theorem ownReleaseSent_removes (t : Nat) (s : State) (seq : Nat) (o : ReleaseOutcome) (c : LiveClaim)
    (hawake : s.power.mode ≠ .sleep) (hdriving : Driving s (.release seq o)) (hclaim : s.floor.own.claim = some c) :
    ∃ u, exec (.ownReleaseSent t) s = .next u
      ∧ (c.seq = some seq → u.floor.own.claim = none)
      ∧ (c.seq ≠ some seq → u.floor.own.claim = some c)
      ∧ u.hall.errorRun = 0 ∧ u.hall.onLine = none ∧ u.hall.framesReceived = s.hall.framesReceived
      ∧ (NothingToSelect s → s.hall.recovery ≠ .waiting → u.hall.txList = s.hall.txList.filter fun x => !x.driving)
      ∧ u.hall.state = s.hall.state ∧ u.floor.peers.map Peer.station = s.floor.peers.map Peer.station
      ∧ ReportsKept s u ∧ BesidesHallKept s u := by
  obtain ⟨houtside, hhall, hstations, hnothing⟩ := ownReleaseHeard_leaves seq (s.frameSent t)
  obtain ⟨⟨hrun, honline, hreceived, hstate⟩, hkept⟩ := kept_of_frameSent ((conclude_outside _).trans houtside)
  obtain ⟨hpeers, hown, -⟩ := viewKept_of_view (conclude_view (ownReleaseHeard seq (s.frameSent t)))
  refine ⟨_, exec_ownReleaseSent hawake hdriving, fun hseq => ?_, fun hseq => ?_, hrun, honline, hreceived, fun h hr => ?_, hstate,
    by rw [hpeers]; exact hstations, hkept⟩
  · rw [hown, ownReleaseHeard_of_match (s := s.frameSent t) hclaim hseq]
    exact (confirmTop_cleared s.straps.zone rfl).1
  · rw [hown, ownReleaseHeard_of_other (s := s.frameSent t) hclaim hseq]
    exact hclaim
  · rw [conclude_txList_of_nothing (hnothing h) (by rw [hhall]; exact hr), hhall]
    rfl

/-- Settles O38, clause by clause: the CLAIM of a free station, beside a holder, and taken back; and the RELEASE. -/
theorem ownClaimAndReleaseSent : Obligations.OwnClaimAndReleaseSent :=
  ⟨ownClaimSent_free, ownClaimSent_standing, ownClaimSent_takenBack, ownReleaseSent_removes⟩

end Sys2Proof.Machine
end
